-- ==== Sys2Proof/Word.lean ====
section
/-!
DEFINITION. The words of the 9640: a 32-bit data word (R26), an 80-bit accumulator (R26), a 128-bit quad (R26), a
byte, and the plainest arithmetic on them. What a chapter says of a value stands in Machine/.
-/
namespace Sys2Proof

/-- A data word of the fabric (R26). -/
abbrev Word := BitVec 32
/-- A byte. -/
abbrev Byte := BitVec 8
/-- An accumulator of a needle (R26). -/
abbrev Acc := BitVec 80

end Sys2Proof
end

