-- ==== Sys2Proof/Syntax.lean ====
section
/-!
DEFINITION. The commands of the 9640, one constructor for each row of the opcode table, and the operand types they
carry. A needle's slot is a command of its own: it names the needle, the instruction word's common fields (R52) and
the instruction's operands. `dt` is the number of 500 MHz timebase cycles that pass between the command before and
this one.
-/

namespace Sys2Proof

/-- The access modes of R54, in the order of their codes. -/
inductive AMode where
  | none | inc | incM | circ | bitrev | index | dec | hold
  deriving DecidableEq, Repr

/-- An access field (R52): mode, pointer, modifier (the quad index in mode `index`). -/
structure Access where
  mode : AMode
  ptr : Fin 4
  md : Fin 8
  deriving DecidableEq, Repr

/-- What the slot's fetches met: nothing wrong, a program-memory parity error (R362), or an X or Y parity error (R361). -/
inductive Fetch where
  | good | progBad | xBad | yBad
  deriving DecidableEq, Repr

/-- The fields every instruction word has (R52), and what the parity checks of this slot's fetches reported. -/
structure Gate where
  sat : Bool
  pk : Fin 8
  pn : Bool
  x : Access
  y : Access
  fetch : Fetch
  deriving DecidableEq, Repr

/-- Quad source (R59). -/
inductive QuadSrc where
  | fetched
  | reg (q : Fin 4)
  deriving DecidableEq, Repr

/-- Pair source (R59): lanes 0–1, lanes 2–3, by bit 1 of e, or a D pair. -/
inductive PairSrc where
  | lo | hi | byE
  | reg (p : Fin 8)
  deriving DecidableEq, Repr

/-- Scalar source (R59). -/
inductive ScalarSrc where
  | reg (d : Fin 16)
  | lane (l : Fin 4)
  deriving DecidableEq, Repr

/-- Accumulate mode (R38, R59). -/
inductive AccMode where
  | acc | sub | clr
  deriving DecidableEq, Repr

/-- Condition (R59). -/
inductive Cond where
  | eq | ne | lt | le | gt | ge | ltu | geu
  deriving DecidableEq, Repr

/-- Predicate operation (R59). -/
inductive PredOp where
  | and | or | xor | andn
  deriving DecidableEq, Repr

/-- What the parity check reported of a seam read (R363): the word, and the same word of the producer's other bank. -/
structure SeamPar where
  bad : Bool
  otherBad : Bool
  deriving DecidableEq, Repr

/-- What a conflict of R155 was with: an access of the same owner on the other port, window-grant traffic (R133), or a debug
access (R149). -/
inductive MeetKind where
  | own | window | debug
  deriving DecidableEq, Repr

/-- A conflict that an access to a bobbin met (R155): with what, in which bobbin; and where the other access is a write of
the same word that arrives together (R156), its word, its byte enables and its bytes. -/
structure BobMeet where
  kind : MeetKind
  bobbin : Fin 128
  write : Option (BitVec 17 × BitVec 4 × BitVec 32)
  deriving DecidableEq, Repr

/-- What a needle's bobbin instruction reported: the byte lanes found with bad parity in its first and in its second word
(R148, R360), and the conflicts its accesses met (R155, R156). -/
structure BobReport where
  bad1 : BitVec 4
  bad2 : BitVec 4
  meets : List BobMeet
  deriving DecidableEq, Repr

/-- What an access of a control core does (R18): an atomic operation reads, and stores what it made of it. -/
inductive CoreKind where
  | load | store | fetch | atomic
  deriving DecidableEq, Repr

/-- A request for a package-memory channel (R162, R165): by a requester for a burst at an offset, or by an access of 2^size
bytes of a control core at an address of its map (R18); `hit` where the core's cache serves it. -/
inductive ArbReq where
  | burst (r : Fin 11) (off : BitVec 34)
  | access (core : Fin 4) (addr : BitVec 64) (kind : CoreKind) (size : Fin 4) (v : BitVec 64) (hit : Bool)
  deriving DecidableEq, Repr

/-- A source of writes (R243): an Ursin session, a control core, an sACN source, a DMX input port, an OSC peer, the
debug port, or the part itself. -/
inductive Src where
  | session (id : Nat)
  | core (n : Nat)
  | sacn (id : Nat)
  | dmx (p : Nat)
  | osc (peer : Nat)
  | debug
  | part
  deriving DecidableEq, Repr

/-- Who asks for an operation: the source, its role (0 VIEWER to 4 VENDOR; none for an unauthenticated session, R237) and
its priority (R243). -/
structure Writer where
  src : Src
  role : Option Nat
  prio : Nat
  deriving DecidableEq, Repr

/-- The kinds of frames of a Shuttle's control queue (R192); `frag` is a fragment of the datagram `id`, whether it completes
it, and whether that goes to port 50616 (R259). -/
inductive CtrlKind where
  | arp | icmp | igmp | ptp | ptpIgnored | ursin | sacn | osc
  | frag (id : Nat) (done ursin : Bool)
  deriving DecidableEq, Repr

/-- Where a received frame goes by its addresses: a media packet, a frame for the control queue, or neither (R189,
R192). -/
inductive FrameKind where
  | media
  | control (k : CtrlKind)
  | other
  deriving DecidableEq, Repr

/-- What the fetches of one sample met (R187): bad parity of a buffer byte, or a spill read that was not complete. `word` counts
the words the command reads of the stream's buffer, sample by sample, each channel by channel. -/
inductive SampleFault where
  | parity (stream word : Nat)
  | spillLate (stream : Nat)
  deriving DecidableEq, Repr

/-- A BCLK cycle on a TDM port's pins: FSYNC's level at its launch edge, and DIN at BCLK's rising and falling edge (R196). -/
structure TdmCycle where
  fs : Bool
  rise : Bool
  fall : Bool
  deriving DecidableEq, Repr

/-- The header of a received PTP message: its port, domain and major version (R211). -/
structure PtpHdr where
  port : Fin 2
  domain : Nat
  version : Nat
  deriving DecidableEq, Repr


/-- What the dictionary engine's store met on the way (R241, R242): accesses served by the cache and accesses that
fetched a line, the time of the write to the shadow in ns, the records it rebuilt, each with whether the source of
its value could be read, and the ns from a block read's first SNAPSHOT object to its end (R369). -/
structure DictRep where
  hits : Nat
  misses : Nat
  lat : Nat
  bad : List (BitVec 25 × Bool)
  span : Nat
  deriving DecidableEq, Repr

/-- A received Ursin message but for its opcode, which the command names (R260): the transport it came by (0 Shuttle A,
1 Shuttle B, 2 T1S_A, 3 T1S_B, 4 serial) with its source address and port there (R258), its header, its payload and its tag as
they were received (R263), and whether it meets a full request queue (R256). -/
structure UMsg where
  via : Fin 5
  ip : BitVec 32
  udp : BitVec 16
  magic : BitVec 16
  version : BitVec 8
  flags : BitVec 8
  session : BitVec 32
  seq : BitVec 32
  status : BitVec 8
  count : BitVec 16
  object : BitVec 32
  length : BitVec 16
  first : BitVec 16
  payload : List Byte
  tag : List Byte
  full : Bool
  rep : DictRep
  deriving DecidableEq, Repr

/-- What the Thimble's checks of a peer's certificates found (R269, R341): the chain verifies, every certificate is inside
its validity, the SHA-384 of the root, the leaf's public key in uncompressed form, the role the leaf names if it is one of
the five (0 VIEWER to 4 VENDOR), the chain ends at the vendor root, and which leaf it is. -/
structure KeyRep where
  chainOk : Bool
  inTime : Bool
  root : List Byte
  leafKey : List Byte
  role : Option (Fin 5)
  vendorRoot : Bool
  leaf : Nat
  deriving DecidableEq, Repr

/-- A datagram to port 5568 (R277): whether it is a valid E1.31 packet, whether it is a universe discovery packet, and
its fields; `term` is Stream_Terminated. -/
structure SacnPkt where
  valid : Bool
  discovery : Bool
  cid : BitVec 128
  univ : BitVec 16
  prio : BitVec 8
  seq : BitVec 8
  preview : Bool
  term : Bool
  start : BitVec 8
  sync : BitVec 16
  slots : List Byte
  deriving DecidableEq, Repr

/-- A frame on a DMX line as received (R287): break and mark after break in ns, START code, slots, whether a slot lacks
its stop bit, and whether a break fell inside a slot. -/
structure DmxFrame where
  brk : Nat
  mab : Nat
  start : Byte
  slots : List Byte
  badStop : Bool
  brkInSlot : Bool
  deriving DecidableEq, Repr

/-- What stops a frame on a 10BASE-T1S segment (R292): a collision of an attempt, counted from 0, or the jabber limit. -/
inductive T1sFault where
  | collision (attempt : Fin 16)
  | jabber
  deriving DecidableEq, Repr

/-- An RDM response as received (R287–R289): a framing error, a bad break, its checksum, whether it is well formed, the
UID a discovery response carries, and an answer's response type (0 ACK to 3 ACK_OVERFLOW), PID and data. -/
structure RdmAnswer where
  badStop : Bool
  badBrk : Bool
  csumOk : Bool
  formOk : Bool
  uid : BitVec 48
  rtype : Fin 4
  pid : BitVec 16
  data : List Byte
  deriving DecidableEq, Repr

/-- The first argument of an OSC message (R293). -/
inductive OscArg where
  | int (v : BitVec 32)
  | float (v : BitVec 32)
  | yes | no
  | str (l : List Byte)
  | other
  deriving DecidableEq, Repr

/-- An OSC message: its address and its first argument. -/
structure OscMsg where
  addr : List Byte
  arg : Option OscArg
  deriving DecidableEq, Repr

/-- A register of a needle (R26) as the debug port names it: a D register, an accumulator, a pointer (XP0–XP3, YP0–YP3), a
modifier, the predicates P0–P6 as one byte, and the stitch counter (R400). -/
inductive NdlReg where
  | d (i : Fin 16) | a (i : Fin 4) | ptr (i : Fin 8) | m (i : Fin 8) | p | stc
  deriving DecidableEq, Repr

/-- A frame of the debug port (R343): dictionary accesses, control-core accesses, reads of the fabric, of bobbins and of
package memory, and key operations. -/
inductive DbgOp where
  | read (num : BitVec 25) (first count : Nat)
  | write (num : BitVec 25) (first : Nat) (ty : BitVec 8) (bytes : List Byte)
  | commit (g : Nat) (at_ : Option Nat)
  | tack (lo hi : BitVec 25) (lease : Nat)
  | untack (lo : BitVec 25)
  | halt (core : Fin 4) | step (core : Fin 4) | resume (core : Fin 4)
  | breakpoint (core : Fin 4) (addr : BitVec 64)
  | coreRead (core : Fin 4) (reg : BitVec 16)
  | coreWrite (core : Fin 4) (reg : BitVec 16) (v : BitVec 64)
  | reset
  | needleReg (n : Fin 128) (r : NdlReg)
  | needleProg (n : Fin 128) (slot : Fin 8192)
  | needleX (n : Fin 128) (e : BitVec 14) | needleY (n : Fin 128) (e : BitVec 14)
  | needleSeam (n : Fin 128) (j : Fin 64)
  | tape (n : Fin 128)
  | bobRead (b : Fin 128) (off : BitVec 19) | bobWrite (b : Fin 128) (off : BitVec 19) (v : Byte)
  | pmRead (o : BitVec 34) | pmWrite (o : BitVec 34) (v : Byte)
  | key (rec_ : BitVec 34)
  deriving DecidableEq, Repr

/-- What a self-test found (R354): the needles, Tape converters, sensors, PLLs and AVSBus read-back that failed. -/
structure TestRes where
  needles : List (Fin 128)
  convs : BitVec 16
  others : BitVec 4
  deriving DecidableEq, Repr

/-- One command of the 9640: one constructor for each row of the opcode table, in its order. -/
inductive Instr where
  /-- STITCH_STROBE (R16): The timebase reaches a grid crossing and issues the strobe that starts the next stitch, with its ordered happenings. -/
  | stitchStrobe (dt : Nat)
  /-- INLET_CUTOFF (R13): 160 ns before a strobe the inlet bank closes, and entries not written are distributed as zero. Here: the TDM ports whose words come late (R195). -/
  | inletCutoff (dt : Nat) (late : BitVec 16)
  /-- INLET_DISTRIBUTION (R15): 160 ns after the deadline the inlet entries are copied into the inlet windows of the needles they are routed to. -/
  | inletDistribution (dt : Nat)
  /-- WINDOW_FILL_DONE (R83): A deferred window fill ends and the needle's late run of the stitch starts. -/
  | windowFillDone (dt : Nat) (n : Fin 128)
  /-- DEADLINE (R15): 320 ns before the next strobe, outlet collection copies every outlet window into the outlet bank. -/
  | deadline (dt : Nat)
  /-- RUN_COMPLETE (R79): A needle retires the last slot of its run, and the Tape records its completion code and margin. Here: t is the time from the strobe to the last slot in ps. -/
  | runComplete (dt : Nat) (n : Fin 128) (t : Nat)
  /-- FITTING_END (R88): At the first strobe of a fitting the Tape reports FIT_MARGIN and the loop decides its VCORE step. -/
  | fittingEnd (dt : Nat)
  /-- AVS_ACK (R89): The regulator acknowledges a write, and VCORE_NOW takes the new value. -/
  | avsAck (dt : Nat)
  /-- AVS_ACK_TIMEOUT (R89): An unacknowledged AVSBus write is retried once, and after a second failure FAULT is set. -/
  | avsAckTimeout (dt : Nat)
  /-- SHED (R90): The Last sheds the highest-numbered priority pieces of the affected pleats together at one strobe. -/
  | shed (dt : Nat)
  /-- HEM_BOUNDARY (R368): At a hem boundary every hem value is latched into the inactive snapshot bank, live values restart and the banks swap. -/
  | hemBoundary (dt : Nat)
  /-- NOP (R60): An instruction that does nothing beyond its access fields. -/
  | nop (n : Fin 128) (g : Gate)
  /-- PROG_REFETCH_DONE (R362): A program slot refetch completes, from the image copy, from a rebuild, or as a no-operation with the piece removed. Here: the CRC verdicts of the image copy and of the placed pattern. -/
  | progRefetchDone (dt : Nat) (n : Fin 128) (imageOk patternOk : Bool)
  /-- STCL (R29): Reads STC[31:0] into a D register. -/
  | stcl (n : Fin 128) (g : Gate) (d : Fin 16)
  /-- STCH (R29): Reads STC[63:32] into a D register. -/
  | stch (n : Fin 128) (g : Gate) (d : Fin 16)
  /-- GSL (R64): Reads the gather slice STC mod g into a D register. -/
  | gsl (n : Fin 128) (g : Gate) (d : Fin 16) (period : BitVec 16)
  /-- LDIH (R60): Loads an immediate into the upper half of a D register and clears the lower half. -/
  | ldih (n : Fin 128) (g : Gate) (d : Fin 16) (imm : BitVec 16)
  /-- LDIL (R60): Loads an immediate into the lower half of a D register. -/
  | ldil (n : Fin 128) (g : Gate) (d : Fin 16) (imm : BitVec 16)
  /-- MOV (R60): Copies one D register to another. -/
  | mov (n : Fin 128) (g : Gate) (d a : Fin 16)
  /-- ADD (R35): Adds two D registers with saturation or wrap under S. -/
  | add (n : Fin 128) (g : Gate) (d a b : Fin 16)
  /-- SUB (R35): Subtracts two D registers with saturation or wrap under S. -/
  | sub (n : Fin 128) (g : Gate) (d a b : Fin 16)
  /-- ADDI (R35): Adds a sign-extended immediate to a D register. -/
  | addi (n : Fin 128) (g : Gate) (d a : Fin 16) (imm : BitVec 16)
  /-- NEG (R35): Negates a D register. -/
  | neg (n : Fin 128) (g : Gate) (d a : Fin 16)
  /-- ABS (R35): Takes the absolute value of a D register. -/
  | abs (n : Fin 128) (g : Gate) (d a : Fin 16)
  /-- MIN (R60): Takes the signed minimum of two D registers. -/
  | min (n : Fin 128) (g : Gate) (d a b : Fin 16)
  /-- MAX (R60): Takes the signed maximum of two D registers. -/
  | max (n : Fin 128) (g : Gate) (d a b : Fin 16)
  /-- AND (R60): Bitwise AND of two D registers. -/
  | and (n : Fin 128) (g : Gate) (d a b : Fin 16)
  /-- OR (R60): Bitwise OR of two D registers. -/
  | or (n : Fin 128) (g : Gate) (d a b : Fin 16)
  /-- XOR (R60): Bitwise exclusive OR of two D registers. -/
  | xor (n : Fin 128) (g : Gate) (d a b : Fin 16)
  /-- NOT (R60): Bitwise complement of a D register. -/
  | not (n : Fin 128) (g : Gate) (d a : Fin 16)
  /-- SELECT (R62): Chooses one of two D registers by a predicate. -/
  | select (n : Fin 128) (g : Gate) (d a b : Fin 16) (pc : Fin 8)
  /-- ASL (R35): Arithmetic left shift of a D register, saturating under S. -/
  | asl (n : Fin 128) (g : Gate) (d a b : Fin 16) (rs : Bool) (k : Fin 32)
  /-- ASR (R60): Arithmetic right shift of a D register, rounding toward minus infinity. -/
  | asr (n : Fin 128) (g : Gate) (d a b : Fin 16) (rs : Bool) (k : Fin 32)
  /-- LSL (R60): Logical left shift of a D register. -/
  | lsl (n : Fin 128) (g : Gate) (d a b : Fin 16) (rs : Bool) (k : Fin 32)
  /-- LSR (R60): Logical right shift of a D register. -/
  | lsr (n : Fin 128) (g : Gate) (d a b : Fin 16) (rs : Bool) (k : Fin 32)
  /-- CMP (R60): Compares two D registers into a predicate. -/
  | cmp (n : Fin 128) (g : Gate) (pd : Fin 8) (a b : Fin 16) (cc : Cond)
  /-- CMPI (R60): Compares a D register with an immediate into a predicate. -/
  | cmpi (n : Fin 128) (g : Gate) (pd : Fin 8) (a : Fin 16) (cc : Cond) (imm : BitVec 16)
  /-- ACMP (R60): Compares two accumulators into a predicate. -/
  | acmp (n : Fin 128) (g : Gate) (pd : Fin 8) (a b : Fin 4) (cc : Cond)
  /-- PLOG (R60): Combines two predicates logically into a predicate. -/
  | plog (n : Fin 128) (g : Gate) (pd pa pb : Fin 8) (op : PredOp)
  /-- MAC4_DOT (R39): Adds four products into one accumulator. -/
  | mac4Dot (n : Fin 128) (g : Gate) (ad : Fin 4) (md : AccMode) (xq yq : QuadSrc)
  /-- MAC4_FAN (R40): Multiplies a scalar by the four Y lanes into A0-A3. -/
  | mac4Fan (n : Fin 128) (g : Gate) (md : AccMode) (sc : ScalarSrc) (yq : QuadSrc)
  /-- MAC4_LANE (R41): Multiplies X and Y lane by lane into A0-A3. -/
  | mac4Lane (n : Fin 128) (g : Gate) (md : AccMode) (xq yq : QuadSrc)
  /-- CMAC (R42): Complex multiply-accumulate of an X pair and a Y pair into A0 and A1. -/
  | cmac (n : Fin 128) (g : Gate) (md : AccMode) (xp yp : PairSrc)
  /-- CMAC_CJ (R42): Complex multiply-accumulate with conjugated Y into A0 and A1. -/
  | cmacCj (n : Fin 128) (g : Gate) (md : AccMode) (xp yp : PairSrc)
  /-- MSQ (R51): Adds the square of a D register into an accumulator. -/
  | msq (n : Fin 128) (g : Gate) (ad : Fin 4) (x : Fin 16)
  /-- BFLY (R43): Computes a radix-2 butterfly into two D pairs. -/
  | bfly (n : Fin 128) (g : Gate) (dm dk : Fin 8) (a b w : PairSrc)
  /-- BFLY_H (R43): Computes a radix-2 butterfly with halving before write-back. -/
  | bflyH (n : Fin 128) (g : Gate) (dm dk : Fin 8) (a b w : PairSrc)
  /-- LDA (R60): Loads a D register into an accumulator at acc[63:32]. -/
  | lda (n : Fin 128) (g : Gate) (ad : Fin 4) (x : Fin 16)
  /-- ACLR (R60): Clears an accumulator. -/
  | aclr (n : Fin 128) (g : Gate) (ad : Fin 4)
  /-- AADD (R32): Adds two accumulators under the accumulation rule. -/
  | aadd (n : Fin 128) (g : Gate) (ad a b : Fin 4)
  /-- ASUB (R32): Subtracts two accumulators under the accumulation rule. -/
  | asub (n : Fin 128) (g : Gate) (ad a b : Fin 4)
  /-- AASL (R32): Shifts an accumulator left under the accumulation rule. -/
  | aasl (n : Fin 128) (g : Gate) (ad a : Fin 4) (k : Fin 64)
  /-- AASR (R60): Shifts an accumulator right arithmetically. -/
  | aasr (n : Fin 128) (g : Gate) (ad a : Fin 4) (k : Fin 64)
  /-- ASEL (R62): Chooses one of two accumulators by a predicate. -/
  | asel (n : Fin 128) (g : Gate) (ad a b : Fin 4) (pc : Fin 8)
  /-- WB (R33): Writes an accumulator back into a D register. -/
  | wb (n : Fin 128) (g : Gate) (d : Fin 16) (a : Fin 4)
  /-- WB4 (R33): Writes A0-A3 back into a register quad. -/
  | wb4 (n : Fin 128) (g : Gate) (q : Fin 4)
  /-- STA_X (R33): Stores the write-back of an accumulator to X memory. -/
  | staX (n : Fin 128) (g : Gate) (a : Fin 4)
  /-- STA_Y (R33): Stores the write-back of an accumulator to Y memory. -/
  | staY (n : Fin 128) (g : Gate) (a : Fin 4)
  /-- RDAG (R45): Reads the guard bits of an accumulator. -/
  | rdag (n : Fin 128) (g : Gate) (d : Fin 16) (a : Fin 4)
  /-- RDAH (R45): Reads acc[63:32] of an accumulator. -/
  | rdah (n : Fin 128) (g : Gate) (d : Fin 16) (a : Fin 4)
  /-- RDAL (R45): Reads acc[31:0] of an accumulator. -/
  | rdal (n : Fin 128) (g : Gate) (d : Fin 16) (a : Fin 4)
  /-- WRAG (R45): Writes the guard bits of an accumulator. -/
  | wrag (n : Fin 128) (g : Gate) (a : Fin 4) (x : Fin 16)
  /-- WRAH (R45): Writes acc[63:32] of an accumulator. -/
  | wrah (n : Fin 128) (g : Gate) (a : Fin 4) (x : Fin 16)
  /-- WRAL (R45): Writes acc[31:0] of an accumulator. -/
  | wral (n : Fin 128) (g : Gate) (a : Fin 4) (x : Fin 16)
  /-- LOG2 (R44): Returns log2 of a Q1.31 operand in Q6.26. -/
  | log2 (n : Fin 128) (g : Gate) (d a : Fin 16)
  /-- EXP2 (R46): Returns 2 to the power of a Q6.26 operand in Q1.31. -/
  | exp2 (n : Fin 128) (g : Gate) (d a : Fin 16)
  /-- RSQE (R47): Returns an estimate of the inverse square root in Q8.24. -/
  | rsqe (n : Fin 128) (g : Gate) (d a : Fin 16)
  /-- DIVS (R48): Performs one step of restoring division. -/
  | divs (n : Fin 128) (g : Gate) (q : Fin 16) (r : Fin 4) (d : Fin 16)
  /-- TLU (R49): Interpolates a Y table at a U16.16 position. -/
  | tlu (n : Fin 128) (g : Gate) (d p : Fin 16) (yp : Fin 4)
  /-- GLIDE (R50): Moves a register toward a target by a step and sets a predicate. -/
  | glide (n : Fin 128) (g : Gate) (v t st : Fin 16) (pk : Fin 8)
  /-- MPEAK (R51): Updates a peak meter register. -/
  | mpeak (n : Fin 128) (g : Gate) (m x : Fin 16)
  /-- LDX (R60): Loads one lane of the fetched X quad into a D register. -/
  | ldx (n : Fin 128) (g : Gate) (d : Fin 16) (lane : Fin 4)
  /-- XY_REFETCH_DONE (R361): A refetch of an X or Y word completes from its golden twin, its initial image, or as zero for a state word. Here: the word, and the CRC verdicts of its golden twin, the committed record and the initial image. -/
  | xyRefetchDone (dt : Nat) (n : Fin 128) (y : Bool) (e : BitVec 14) (twinOk recordOk imageOk : Bool)
  /-- LDY (R60): Loads one lane of the fetched Y quad into a D register. -/
  | ldy (n : Fin 128) (g : Gate) (d : Fin 16) (lane : Fin 4)
  /-- LDQX (R60): Loads the fetched X quad into a register quad. -/
  | ldqx (n : Fin 128) (g : Gate) (q : Fin 4)
  /-- LDQY (R60): Loads the fetched Y quad into a register quad. -/
  | ldqy (n : Fin 128) (g : Gate) (q : Fin 4)
  /-- STX (R60): Stores a D register to X memory. -/
  | stx (n : Fin 128) (g : Gate) (x : Fin 16)
  /-- STY (R60): Stores a D register to Y memory. -/
  | sty (n : Fin 128) (g : Gate) (x : Fin 16)
  /-- SETA (R57): Sets a pointer's current address from a relocated immediate. Here: imm as it stands in program memory, the piece base added by the Last at load. -/
  | seta (n : Fin 128) (g : Gate) (p : Fin 8) (imm : BitVec 14)
  /-- SETA_D (R57): Sets a pointer's current address from a D register within its window. -/
  | setaD (n : Fin 128) (g : Gate) (p : Fin 8) (x : Fin 16)
  /-- SETB (R57): Sets a pointer's base from a relocated immediate. Here: imm relocated as for SETA. -/
  | setb (n : Fin 128) (g : Gate) (p : Fin 8) (imm : BitVec 14)
  /-- SETB_P (R58): Sets a pointer to the active page of a parameter block. -/
  | setbP (n : Fin 128) (g : Gate) (p : Fin 8) (blk : Fin 256)
  /-- SETL (R57): Sets a pointer's window length. -/
  | setl (n : Fin 128) (g : Gate) (p : Fin 8) (imm : BitVec 15)
  /-- SETM (R57): Sets a modifier register from an immediate. -/
  | setm (n : Fin 128) (g : Gate) (m : Fin 8) (imm : BitVec 16)
  /-- SETM_D (R57): Sets a modifier register from a D register. -/
  | setmD (n : Fin 128) (g : Gate) (m : Fin 8) (x : Fin 16)
  /-- RDP (R57): Reads a pointer's offset from its base into a D register. -/
  | rdp (n : Fin 128) (g : Gate) (d : Fin 16) (p : Fin 8)
  /-- IN (R65): Reads one inlet word into a D register. -/
  | inW (n : Fin 128) (g : Gate) (d : Fin 16) (i : Fin 256)
  /-- INQ (R65): Reads four inlet words into a register quad. -/
  | inq (n : Fin 128) (g : Gate) (q : Fin 4) (i : Fin 256)
  /-- OUT (R65): Writes a D register to an outlet word. -/
  | outW (n : Fin 128) (g : Gate) (x : Fin 16) (i : Fin 256)
  /-- OUTQ (R65): Writes a register quad to four outlet words. -/
  | outq (n : Fin 128) (g : Gate) (q : Fin 4) (i : Fin 256)
  /-- SOUT (R66): Writes a D register to the needle's own seam-out word. -/
  | sout (n : Fin 128) (g : Gate) (x : Fin 16) (j : Fin 64)
  /-- SIN (R66): Reads a seam word of another needle as published for the previous stitch. -/
  | sin (n : Fin 128) (g : Gate) (d : Fin 16) (src : Fin 128) (j : Fin 64) (par : SeamPar)
  /-- SINF (R67): Reads a seam word of a same-pleat producer for the same stitch, waiting for its release. -/
  | sinf (n : Fin 128) (g : Gate) (d : Fin 16) (src : Fin 128) (j : Fin 64) (par : SeamPar)
  /-- BLD_W (R69): Loads a 32-bit word from a bobbin with byte-lane rotate. -/
  | bldW (n : Fin 128) (g : Gate) (d b : Fin 16) (off : BitVec 12) (rep : BobReport)
  /-- BLD_T (R69): Loads a packed 24-bit sample from a bobbin. -/
  | bldT (n : Fin 128) (g : Gate) (d b : Fin 16) (off : BitVec 12) (rep : BobReport)
  /-- BST_W (R69): Stores a 32-bit word to a bobbin with byte enables. -/
  | bstW (n : Fin 128) (g : Gate) (x b : Fin 16) (off : BitVec 12) (rep : BobReport)
  /-- BST_T (R69): Stores a packed 24-bit sample to a bobbin. -/
  | bstT (n : Fin 128) (g : Gate) (x b : Fin 16) (off : BitVec 12) (rep : BobReport)
  /-- COMMIT (R101): An Ursin COMMIT message requests a commit of a group at a stitch or NEXT. -/
  | commit (dt : Nat) (m : UMsg)
  /-- CC_COMMIT_GO (R116): A control core writes CC_COMMIT_GOn to commit a group. -/
  | ccCommitGo (dt : Nat) (core n : Fin 4) (v : BitVec 32)
  /-- GROUP0_COMMIT (R99): The dictionary engine issues COMMIT(0, NEXT) itself when a group-0 shadow differs from its committed value. -/
  | group0Commit (dt : Nat)
  /-- PAGE_COPY_DONE (R104): The page writer finishes copying an accepted commit's words into the pending banks and golden twins. -/
  | pageCopyDone (dt : Nat) (g : Nat)
  /-- COMMIT_CANCEL (R111): A write of a group to COMMIT_CANCEL cancels its outstanding commit. -/
  | commitCancel (dt : Nat) (w : Writer) (g : BitVec 16)
  /-- GROUP_TABLE_WRITE (R98): A write to a stream or universe group table turns basting on or off or moves a member between groups. -/
  | groupTableWrite (dt : Nat) (w : Writer) (num : BitVec 25) (i : Fin 1024) (v : BitVec 16)
  /-- PLACE_FULL (R129): A FULL write to PLACE_CMD copies the staged pattern and starts a full placement. -/
  | placeFull (dt : Nat) (w : Writer)
  /-- PLACEMENT_DECIDED (R396): The checks and the placement computation of step 2 end, with a refusal or with T0 at the next strobe. -/
  | placementDecided (dt : Nat)
  /-- PLACEMENT_LOADED (R129): The Last finishes writing programs, images, pages and anchors, so that T1 falls at the next strobe. -/
  | placementLoaded (dt : Nat)
  /-- PLACE_REMOVE (R131): A REMOVE write stops a piece at the next strobe and frees its resources. -/
  | placeRemove (dt : Nat) (w : Writer) (piece : BitVec 12)
  /-- PLACE_RESTORE (R131): A RESTORE write places a shed or removed piece again as a new piece. -/
  | placeRestore (dt : Nat) (w : Writer) (piece : BitVec 12)
  /-- PLACE_MOVE (R131): A MOVE write migrates a piece to the named needle with reason HOST. -/
  | placeMove (dt : Nat) (w : Writer) (piece : BitVec 12) (target : BitVec 7)
  /-- PLACE_SET_TAP (R137): A SET_TAP write changes a spool's delay to PLACE_ARG stitches. -/
  | placeSetTap (dt : Nat) (w : Writer) (spool : BitVec 12)
  /-- PLACE_REBALANCE (R131): A REBALANCE write migrates unpinned pieces where this improves the objectives. -/
  | placeRebalance (dt : Nat) (w : Writer)
  /-- PAT_STAGE_DATA (R117): A blob written to PAT_STAGE_DATA is staged at PAT_STAGE_OFFSET, which advances. -/
  | patStageData (dt : Nat) (w : Writer) (l : List Byte)
  /-- RESOURCE_MAP_WRITE (R138): A write to RESOURCE_MAP that removes needles raises POWER migrations. -/
  | resourceMapWrite (dt : Nat) (w : Writer) (i : Fin 4) (v : BitVec 32)
  /-- BOBBIN_MAP_WRITE (R151): A write to BOBBIN_MAP hands bobbins to their needles or to owner 255 and may raise POWER migrations. -/
  | bobbinMapWrite (dt : Nat) (w : Writer) (i : Fin 4) (v : BitVec 32)
  /-- MIGRATION_DECISION (R140): The Last chooses a target for a migration request and reserves slots, or logs NO_TARGET or DEFERRED. -/
  | migrationDecision (dt : Nat)
  /-- MIGRATION_COPY_DONE (R140): The copier finishes copying a piece to its target, which becomes ready to switch. -/
  | migrationCopyDone (dt : Nat) (piece : Fin 4096)
  /-- MIG_FORCED (R141): At the MIG_WAIT-th postponed stitch the switch is forced, with the skipped runs counted as lost. -/
  | migForced (dt : Nat) (piece : Fin 4096)
  /-- SPOOL_FETCH (R134): The spool engine starts fetching a read block 1 024 stitches ahead of its use. Here: the spool by its memory record and copy, and the first stitch of the block. -/
  | spoolFetch (dt : Nat) (rec_ : Nat) (second : Bool) (b : Nat)
  /-- SPOOL_FETCH_DONE (R133): A spool read block has been filled in the window from package memory. Here: the bursts of the block delivered bad (R364). -/
  | spoolFetchDone (dt : Nat) (rec_ : Nat) (second : Bool) (b : Nat) (bad : List (Fin 32)) (meets : List BobMeet)
  /-- SPOOL_LATE (R135): A fetch not complete 64 stitches before its block is abandoned and the block is zeroed. -/
  | spoolLate (dt : Nat) (rec_ : Nat) (second : Bool) (b : Nat)
  /-- SPOOL_DRAIN (R133): The spool engine starts draining a write block once its stitches have passed. -/
  | spoolDrain (dt : Nat) (rec_ : Nat) (second : Bool) (b : Nat)
  /-- SPOOL_DRAIN_DONE (R134): A write block has been drained to package memory. Here: the bytes of the window found with bad parity (R360), and the conflicts met. -/
  | spoolDrainDone (dt : Nat) (rec_ : Nat) (second : Bool) (b : Nat) (badBytes : List (BitVec 14)) (meets : List BobMeet)
  /-- BOBBIN_OWNER_WRITE (R151): A write to BOBBIN_OWNER of an unmapped bobbin starts a hand-over. -/
  | bobbinOwnerWrite (dt : Nat) (w : Writer) (b : Fin 128) (v : BitVec 8)
  /-- HANDOVER_DONE (R152): Both ports of a bobbin are idle after a hand-over, HANDOVER_BUSY clears and waiting accesses proceed. -/
  | handoverDone (dt : Nat) (b : Fin 128)
  /-- BOBBIN_WINDOW_ACCESS (R19): A control-core load or store to the bobbin window reaches the bobbin if the core owns it. Here: 2^size bytes; bad names the byte lanes found with bad parity in the words reached (R360). -/
  | bobbinWindowAccess (dt : Nat) (core : Fin 4) (b : Fin 128) (off : BitVec 19) (size : Fin 4) (store : Option (BitVec 64)) (bad : BitVec 8) (meets : List BobMeet) (atomic : Bool)
  /-- OBJECT_WINDOW_LOAD (R21): A control-core load from the object window reads a dictionary object. Here: 2^size bytes at offset off of the object of number num. -/
  | objectWindowLoad (dt : Nat) (core : Fin 4) (num : BitVec 25) (off : BitVec 3) (size : Fin 4) (atomic : Bool) (rep : DictRep)
  /-- OBJECT_WINDOW_STORE (R21): A control-core store to the object window writes a dictionary object and retires at acceptance or refusal. -/
  | objectWindowStore (dt : Nat) (core : Fin 4) (num : BitVec 25) (off : BitVec 3) (size : Fin 4) (atomic : Bool) (v : BitVec 64) (rep : DictRep)
  /-- CC_MSG_GO (R22): A core stores a request buffer offset to CC_MSG_GOn, and the dictionary engine handles the request and writes the reply. -/
  | ccMsgGo (dt : Nat) (core n : Fin 4) (v : BitVec 64) (rep : DictRep)
  /-- ARB_REQUEST (R165): A requester raises a request on a package-memory channel, and an idle arbiter grants at once. Here: the requests that arrive together. -/
  | arbRequest (dt : Nat) (l : List ArbReq)
  /-- BURST_DONE (R163): A burst ends, and the holder issues the next burst or its grant ends. Here: the burst's offset, which names its channel (R158), whether the holder's transfer is done, and the link verdicts of its first try and its retry. -/
  | burstDone (dt : Nat) (done : Bool) (wr : Bool) (off : BitVec 34) (bad1 bad2 : Bool)
  /-- GRANT_END (R165): A grant ends, and after at most 40 ns the chosen successor is granted. Here: the requesters that have dropped their requests since the choice. -/
  | grantEnd (dt : Nat) (ch : Fin 2) (drops : List (Fin 11))
  /-- REFRESH (R161): The refresh timer expires and refresh preempts the channel between bursts. -/
  | refresh (dt : Nat) (ch : Fin 2)
  /-- DEBUG_PREEMPT (R166): A waiting debug access preempts the channel for one burst. Here: the link verdicts of its first try and its retry. -/
  | debugPreempt (dt : Nat) (ch : Fin 2) (bad1 bad2 : Bool)
  /-- LINK_DOWN (R170): A Shuttle's link goes down: streams read LINK_DOWN, receive conceals and transmit discards. -/
  | linkDown (dt : Nat) (sh : Fin 2)
  /-- LINK_UP (R170): A Shuttle's link returns and streams resume. -/
  | linkUp (dt : Nat) (sh : Fin 2)
  /-- RX_FRAME (R169): A Shuttle receives an Ethernet frame and filters it by FCS, VLAN, checksum and destination. Here: the port (2 and 3 the T1S segments), invalid symbols met, the verdicts on its FCS and its nonzero UDP checksum, the VLAN tag it carries, its IPv4 source (0 of no packet), and where its addresses send it. -/
  | rxFrame (dt : Nat) (sh : Fin 4) (symbols : Nat) (fcsOk : Bool) (vid : Option (BitVec 12)) (csumOk : Bool) (src : BitVec 32) (kind : FrameKind)
  /-- RTP_PACKET (R180): A media packet matching an enabled receive stream is accepted or dropped as late, early, duplicate or stranger. -/
  | rtpPacket (dt : Nat) (sh : Fin 2) (src dest : BitVec 32) (port : BitVec 16) (pt : BitVec 7) (seq : BitVec 16) (ts : BitVec 32) (payload : List Byte) (meets : List BobMeet)
  /-- ARP_FRAME (R169): The Shuttle answers ARP for its own address. Here: the port (2 and 3 the T1S segments), whether it is a reply, the sender's and the target's IPv4 address and the sender's MAC address. -/
  | arpFrame (dt : Nat) (sh : Fin 4) (reply : Bool) (src target : BitVec 32) (mac : BitVec 48)
  /-- ICMP_ECHO (R169): The Shuttle answers an ICMP echo within its reply limit. Here: the port (2 and 3 the T1S segments) and the sender's address. -/
  | icmpEcho (dt : Nat) (sh : Fin 4) (src : BitVec 32)
  /-- IGMP_QUERY (R169): The Shuttle reports its groups, falling back to IGMPv2 after an IGMPv2 query. -/
  | igmpQuery (dt : Nat) (sh : Fin 2) (v2 : Bool)
  /-- IGMP_FALLBACK_END (R169): 260 s after the last IGMPv2 query the Shuttle returns to IGMPv3. -/
  | igmpFallbackEnd (dt : Nat) (sh : Fin 2)
  /-- INLET_POOL_WRITE (R185): A Shuttle writes all its inlet entries for a stitch, converted, concealed, gained and mapped. -/
  | inletPoolWrite (dt : Nat) (sh : Fin 2) (faults : List SampleFault) (meets : List BobMeet)
  /-- OUTLET_POOL_READ (R188): A transmit stream reads each newly readable outlet bank through its map and gains. Here: the stitch the read names (R14). -/
  | outletPoolRead (dt : Nat) (sh : Fin 2) (i : Fin 256) (k : Nat) (meets : List BobMeet)
  /-- TX_PACKET (R188): A transmit packet is sent within 1 µs of its last sample being formed. Here: the stream of a fault is the sample of the packet. -/
  | txPacket (dt : Nat) (sh : Fin 2) (i : Fin 256) (faults : List SampleFault) (meets : List BobMeet)
  /-- AUDIT_RECORD_EXPIRE (R191): An unmatched audit record older than 1 s is counted as lost. Here: the sending Shuttle, its stream and the record. -/
  | auditRecordExpire (dt : Nat) (sh : Fin 2) (i : Fin 256) (seq : BitVec 16)
  /-- STREAM_ENABLE (R171): A write to an ENABLE element of a receive or transmit stream enables or disables it after its checks. -/
  | streamEnable (dt : Nat) (w : Writer) (sh : Fin 2) (tx : Bool) (i : Fin 256) (on : Bool)
  /-- SH_RX_MAP_COMMIT (R184): A write of a stream index stages that receive stream's shadow map. -/
  | shRxMapCommit (dt : Nat) (w : Writer) (sh : Fin 2) (i : BitVec 16)
  /-- SH_TX_MAP_COMMIT (R184): A write of a stream index stages that transmit stream's shadow map. -/
  | shTxMapCommit (dt : Nat) (w : Writer) (sh : Fin 2) (i : BitVec 16)
  /-- SH_PAIR_MODE (R190): A write to SH_PAIR_MODE turns ST 2022-7 pair mode on or off while all streams are disabled. -/
  | shPairMode (dt : Nat) (w : Writer) (on : Bool)
  /-- TDM_RX_FRAME (R199): A received TDM frame completes and is written into the inlet bank of the first fitting stitch. Here: the BCLK period of a slave port in ps, and the pins in the frame's BCLK cycles. -/
  | tdmRxFrame (dt : Nat) (p : Fin 16) (bclk : Nat) (line : List TdmCycle)
  /-- TDM_TX_FRAME (R200): A TDM frame starts and carries the newest readable outlet bank. -/
  | tdmTxFrame (dt : Nat) (p : Fin 16) (bclk : Nat)
  /-- TDM_NO_CLOCK (R202): A slave port with no frame for 4 periods, or a master whose PLL is lost, enters NO_CLOCK. -/
  | tdmNoClock (dt : Nat) (p : Fin 16)
  /-- TDM_MAP_COMMIT (R203): A write of a port index stages that port's receive and transmit slot tables. -/
  | tdmMapCommit (dt : Nat) (w : Writer) (p : BitVec 8)
  /-- TDM_CFG_WRITE (R207): A write to a TDM_CFG element is checked and sets a port's format and role. -/
  | tdmCfgWrite (dt : Nat) (w : Writer) (p : Fin 16) (v : BitVec 32)
  /-- PTP_SYNC (R215): A Sync exchange completes an offset measurement that drives the servo and the timebase state. Here: origin and correction in ns. -/
  | ptpSync (dt : Nat) (h : PtpHdr) (leader : BitVec 64) (seq : BitVec 16) (twoStep : Bool) (origin corr : Int)
  /-- PTP_FOLLOW_UP (R211): A Follow_Up from a two-step leader completes a Sync exchange. -/
  | ptpFollowUp (dt : Nat) (h : PtpHdr) (leader : BitVec 64) (seq : BitVec 16) (origin corr : Int)
  /-- PTP_DELAY_RESP (R213): A Delay_Resp updates the mean path delay. Here: its logMessageInterval, and the receive time and correction in ns. -/
  | ptpDelayResp (dt : Nat) (h : PtpHdr) (leader : BitVec 64) (seq : BitVec 16) (interval : Int) (received corr : Int)
  /-- DELAY_REQ_SEND (R213): At its random interval the 9640 sends a Delay_Req. -/
  | delayReqSend (dt : Nat)
  /-- PTP_ANNOUNCE (R212): A received Announce runs the best-leader algorithm. -/
  | ptpAnnounce (dt : Nat) (h : PtpHdr) (leader : BitVec 64) (prio1 cls accuracy : BitVec 8) (variance : BitVec 16) (prio2 : BitVec 8) (steps : BitVec 16)
  /-- PTP_LEADER_SEND (R211): While leading, the 9640 sends its Sync and Announce messages at their intervals. -/
  | ptpLeaderSend (dt : Nat)
  /-- ANNOUNCE_TIMEOUT (R215): The announce receipt timeout expires, causing failover or holdover. -/
  | announceTimeout (dt : Nat)
  /-- SYNC_TIMEOUT (R215): 8 sync intervals pass without a valid offset and the timebase enters holdover. -/
  | syncTimeout (dt : Nat)
  /-- TB_STEP (R217): A due step is applied after the strobe of a suitable stitch, moving the next strobe onto the grid. -/
  | tbStep (dt : Nat)
  /-- FREQ_STEP (R209): The timebase increment takes one limited step toward the servo's correction. Here: the increment, in units of 2⁻³² ns a cycle, that the frequency reference in use asks for. -/
  | freqStep (dt : Nat) (ref : Int)
  /-- TB_SET (R217): A host write to TB_SET steps the timebase while leading free. Here: seconds and nanoseconds as nanoseconds. -/
  | tbSet (dt : Nat) (w : Writer) (ns : Nat)
  /-- PTP_PROFILE_WRITE (R211): A write to PTP_PROFILE resets domain, intervals and timeout to the profile's defaults. -/
  | ptpProfileWrite (dt : Nat) (w : Writer) (v : BitVec 8)
  /-- XTAL_FAIL (R221): The crystal shows no edge for 200 ns and the timebase continues from a fallback source in holdover. -/
  | xtalFail (dt : Nat)
  /-- XTAL_RESTORE (R221): The crystal has been stable for 10 ms and is taken back. -/
  | xtalRestore (dt : Nat)
  /-- REF_PRESENT (R222): A reference qualifies as present. Here: 0 WCK_IN, 1 REF_IN, 2 PPS_IN. -/
  | refPresent (dt : Nat) (r : Fin 3)
  /-- REF_LOST (R222): A reference is lost for lack of edges. -/
  | refLost (dt : Nat) (r : Fin 3)
  /-- PPS_EDGE (R222): A PPS_IN rising edge marks a whole second and may step the nanoseconds. -/
  | ppsEdge (dt : Nat)
  /-- LOCK_LOST (R226): A media PLL loses lock or reference and its outputs stop after their high phase. -/
  | lockLost (dt : Nat) (pll : Fin 2)
  /-- PLL_RELOCK (R226): A media PLL relocks and its outputs restart at the next strobe. -/
  | pllRelock (dt : Nat) (pll : Fin 2)
  /-- CLK_PHASE_WRITE (R227): A write to CLK_PHASE sets a phase target that the output slews toward. -/
  | clkPhaseWrite (dt : Nat) (w : Writer) (i : Fin 10) (v : BitVec 16)
  /-- HELLO (R268): A HELLO opens a handshake and returns the device nonce and ephemeral key. -/
  | hello (dt : Nat) (m : UMsg)
  /-- CERT (R268): A CERT carries the client chain and returns the device chain. -/
  | cert (dt : Nat) (m : UMsg)
  /-- KEY (R269): A KEY completes the handshake after the client checks, creating a session or refusing it. -/
  | key (dt : Nat) (m : UMsg) (k : KeyRep)
  /-- HANDSHAKE_TIMEOUT (R268): A handshake not complete 2 s after its HELLO is discarded. -/
  | handshakeTimeout (dt : Nat) (id : BitVec 32)
  /-- READ (R246): A READ returns an object's value, committed value or descriptor. -/
  | read (dt : Nat) (m : UMsg)
  /-- WRITE (R240): A WRITE is checked and merges a value into an object's shadow. -/
  | write (dt : Nat) (m : UMsg)
  /-- BLOCK_READ (R248): A BLOCK_READ returns entries for up to 256 numbers within one range. -/
  | blockRead (dt : Nat) (m : UMsg)
  /-- BLOCK_WRITE (R250): A BLOCK_WRITE writes up to 256 objects as one all-or-nothing step. -/
  | blockWrite (dt : Nat) (m : UMsg)
  /-- SUBSCRIBE (R254): A SUBSCRIBE creates a subscription and sends its initial NOTIFY. -/
  | subscribe (dt : Nat) (m : UMsg)
  /-- UNSUBSCRIBE (R254): An UNSUBSCRIBE ends a subscription. -/
  | unsubscribe (dt : Nat) (m : UMsg)
  /-- NOTIFY (R254): At a subscription's interval boundary the changed covered objects are sent in NOTIFY messages or ring entries. Here: the subscription by its owner and range. -/
  | notify (dt : Nat) (src : Src) (first : BitVec 25) (count : Nat)
  /-- TACK (R272): A TACK request takes a leased lock on a range of objects. -/
  | tack (dt : Nat) (m : UMsg)
  /-- RENEW (R272): A RENEW extends a held tack's lease. -/
  | renew (dt : Nat) (m : UMsg)
  /-- UNTACK (R272): An UNTACK ends a tack without breaking it. -/
  | untack (dt : Nat) (m : UMsg)
  /-- TACK_EXPIRE (R273): A tack's lease expires and the tack is broken with reason LEASE. -/
  | tackExpire (dt : Nat) (id : Nat)
  /-- TACK_RECORD_EXPIRE (R273): A broken-tack record older than 60 s is deleted. -/
  | tackRecordExpire (dt : Nat)
  /-- BYE (R270): A BYE ends the session after its reply. -/
  | bye (dt : Nat) (m : UMsg)
  /-- SESS_TIMEOUT (R270): A session with no passing message for SESS_TIMEOUT ends with reason TIMEOUT. -/
  | sessTimeout (dt : Nat) (id : BitVec 32)
  /-- SESS_KICK (R270): A write of a session id to SESS_KICK ends that session. -/
  | sessKick (dt : Nat) (w : Writer) (id : BitVec 32)
  /-- REASSEMBLY_TIMEOUT (R259): An IPv4 reassembly not complete in 100 ms is discarded. -/
  | reassemblyTimeout (dt : Nat) (id : Nat)
  /-- DICT_CC_SUB (R255): A core write to DICT_CC_SUBn creates or cancels a subscription into its ring. Here: core writes the object of core n. -/
  | dictCcSub (dt : Nat) (core n : Fin 4) (v : BitVec 64)
  /-- DICT_CC_RING_CONFIG (R255): A write of a ring base or length sets HEAD and TAIL to 0. Here: BASE, LEN or TAIL. -/
  | dictCcRingConfig (dt : Nat) (w : Writer) (n : Fin 4) (which : Fin 3) (v : BitVec 64)
  /-- CC_TACK_GO (R272): A core write to CC_TACK_GOn takes or renews the core's tack. -/
  | ccTackGo (dt : Nat) (core n : Fin 4) (lease : BitVec 16)
  /-- CC_UNTACK (R272): A core write to CC_TACK_GOn with UNTACK ends the core's tack. -/
  | ccUntack (dt : Nat) (core n : Fin 4)
  /-- JOURNAL_BATCH (R252): A 1 s persistence batch ends and its latest values are appended or compacted into flash. Here: whether the flash reports a failed program or erase. -/
  | journalBatch (dt : Nat) (failed : Bool)
  /-- JOURNAL_ERASE_DONE (R252): The erase of the other journal area ends and a waiting batch proceeds. -/
  | journalEraseDone (dt : Nat) (failed : Bool)
  /-- SERIAL_WRITE_FRAME (R274): A write frame on the slave serial port delivers one Ursin message. Here: the type byte and the bytes clocked after the ready byte; the message is a command of its own. -/
  | serialWriteFrame (dt : Nat) (kind : Byte) (bytes : List Byte)
  /-- SERIAL_READ_REQUEST (R274): A read request on the slave serial port returns the oldest queued reply or NOTIFY. Here: whether the host clocks the whole answer. -/
  | serialReadRequest (dt : Nat) (whole : Bool) (extra : BitVec 16)
  /-- SEL_IN_ASSERT (R298): SEL_IN is asserted, making the port slave or causing a mode fault. -/
  | selInAssert (dt : Nat)
  /-- SEL_IN_DEASSERT (R302): SEL_IN is deasserted, ending the slave transaction and discarding any partial frame. -/
  | selInDeassert (dt : Nat)
  /-- SER_M_GO (R300): A core writes a transaction record offset to SER_M_GOn and the transaction is queued. -/
  | serMGo (dt : Nat) (core n : Fin 4) (v : BitVec 64)
  /-- SERIAL_MASTER_START (R299): A queued master transaction starts once SEL_IN has been deasserted for 1 µs. -/
  | serialMasterStart (dt : Nat)
  /-- SERIAL_MASTER_DONE (R300): A master transaction completes and SER_M_STATUSn reads DONE. Here: the bytes read, where the device is not the boot flash. -/
  | serialMasterDone (dt : Nat) (rx : List Byte)
  /-- DMA_GO (R309): A write of a channel to DMA_GO starts its descriptor chain. -/
  | dmaGo (dt : Nat) (w : Writer) (c : Byte)
  /-- DMA_STOP (R309): A write of a channel to DMA_STOP stops it after its current piece. -/
  | dmaStop (dt : Nat) (w : Writer) (c : Byte)
  /-- DMA_PIECE_DONE (R307): A DMA piece completes and the channel continues its descriptor or fetches the next one. Here: a read burst of the piece, or, before a descriptor's first piece, that of the descriptor is delivered bad, the bytes of the source bobbin found with bad parity, and the conflicts met; the channel is the one R307 puts next. -/
  | dmaPieceDone (dt : Nat) (bad : Bool) (badBytes : List (BitVec 19)) (meets : List BobMeet)
  /-- SACN_DATA_PACKET (R277): An sACN data packet is filtered and merged into venue slots or held for synchronization. Here: the port as for RX_FRAME, and whether the slot engine's queue is full. -/
  | sacnDataPacket (dt : Nat) (port : Fin 4) (p : SacnPkt) (full : Bool)
  /-- SACN_SYNC_PACKET (R279): A synchronization packet merges every held packet of its CID for that address as one step. -/
  | sacnSyncPacket (dt : Nat) (port : Fin 4) (valid : Bool) (cid : BitVec 128) (addr : BitVec 16) (seq : BitVec 8)
  /-- SACN_SYNC_TIMEOUT (R279): Held packets with no synchronization within 1 s are merged each on its own. -/
  | sacnSyncTimeout (dt : Nat) (cid : BitVec 128) (addr : BitVec 16)
  /-- SACN_SOURCE_EXPIRE (R278): An sACN source with no accepted packet for 2.5 s ends. -/
  | sacnSourceExpire (dt : Nat) (cid : BitVec 128) (u : Fin 32768)
  /-- SACN_CUE_POINT (R283): At a cue point of SACN_TX_HZ one data packet is sent per TX universe, then a sync packet. Here: the packets not sent within 5 ms, and the segments whose transmit queue is full. -/
  | sacnCuePoint (dt : Nat) (slow : List (Fin 4 × Fin 32768)) (full : BitVec 2)
  /-- SACN_TX_LATE (R283): A packet not sent 5 ms after its cue point is dropped. -/
  | sacnTxLate (dt : Nat)
  /-- SACN_DISCOVERY (R283): Every 10 s the 9640 sends universe discovery packets. -/
  | sacnDiscovery (dt : Nat)
  /-- UNIV_CFG_WRITE (R276): A write to a UNIV_CFG element sets RX, TX or policy within the limits. -/
  | univCfgWrite (dt : Nat) (w : Writer) (u : Fin 32768) (v : BitVec 16)
  /-- DMX_CUE_POINT (R286): At a cue point a DMX port in OUT mode starts a frame or counts a skip. -/
  | dmxCuePoint (dt : Nat) (p : Fin 8)
  /-- DMX_FRAME_RECEIVED (R287): A DMX frame on an IN port is accepted and merged, or discarded for a framing error. -/
  | dmxFrameReceived (dt : Nat) (p : Fin 8) (f : DmxFrame)
  /-- DMX_SOURCE_EXPIRE (R287): A DMX IN source with no accepted frame for 1.25 s expires. -/
  | dmxSourceExpire (dt : Nat) (p : Fin 8)
  /-- DMX_CFG_WRITE (R284): A write to DMX_CFG or DMX_TIMING sets a port's mode and timing. -/
  | dmxCfgWrite (dt : Nat) (w : Writer) (timing : Bool) (p : Fin 8) (v : BitVec 32)
  /-- RDM_CMD (R288): A write to RDM_CMDp queues an RDM request for the port. -/
  | rdmCmd (dt : Nat) (w : Writer) (p : Fin 8) (l : List Byte)
  /-- RDM_TRANSACTION (R288): An RDM request is sent in a fitting gap or a given-up cue point. -/
  | rdmTransaction (dt : Nat) (p : Fin 8)
  /-- RDM_RESPONSE (R288): An RDM response arrives and is checked into RDM_RESPp. -/
  | rdmResponse (dt : Nat) (p : Fin 8) (r : RdmAnswer)
  /-- RDM_TIMEOUT (R288): No response within the 2.8 ms window ends the command with TIMEOUT. -/
  | rdmTimeout (dt : Nat) (p : Fin 8)
  /-- RDM_DISCOVER (R289): A write of a port to RDM_DISCOVER starts or restarts binary-search discovery. -/
  | rdmDiscover (dt : Nat) (w : Writer) (p : Byte)
  /-- T1S_BEACON (R292): A PLCA beacon is received and a fallen-back follower returns to PLCA. -/
  | t1sBeacon (dt : Nat) (g : Fin 2)
  /-- T1S_BEACON_LOSS (R292): A follower with no beacon for 400 µs falls back to CSMA/CD. -/
  | t1sBeaconLoss (dt : Nat) (g : Fin 2)
  /-- T1S_COLLISION (R292): A collision on a segment is counted and the frame retried up to 16 times. Here: the attempt that collided, from 0, or a transmission past the jabber limit. -/
  | t1sCollision (dt : Nat) (g : Fin 2) (what : T1sFault)
  /-- OSC_PACKET (R293): An OSC datagram from a peer is mapped and written as one step. Here: the messages of the datagram, bundles flattened. -/
  | oscPacket (dt : Nat) (port : Fin 4) (ip : BitVec 32) (udp : BitVec 16) (l : List OscMsg)
  /-- OSC_PEER_EXPIRE (R293): An OSC peer source with no accepted message for 10 s expires. -/
  | oscPeerExpire (dt : Nat) (peer : Fin 8)
  /-- OSC_MAP_ENTRY (R294): A write to OSC_MAP_ENTRY sets the mapping entry named by OSC_MAP_SEL. -/
  | oscMapEntry (dt : Nat) (w : Writer) (l : List Byte)
  /-- OSC_SEND (R294): At an OSC_INTERVAL boundary changed OUT mappings are sent to the peers. Here: the segments whose transmit queue is full. -/
  | oscSend (dt : Nat) (full : BitVec 2)
  /-- POWER_ON (R377): VKEEP is applied from OFF and RAIL_EN starts the rail sequence. -/
  | powerOn (dt : Nat)
  /-- RESET_RELEASE (R313): Internal reset is released: straps are sampled, stitch 0 strikes and the ROM starts the safety matrix. -/
  | resetRelease (dt : Nat) (straps : BitVec 6)
  /-- SAFETY_MATRIX_START (R313): At the first strobe after the safety matrix is loaded it runs on PLEAT[0]. -/
  | safetyMatrixStart (dt : Nat)
  /-- SLOT_CHOICE (R319): After reading the slot records the ROM chooses the boot order and writes its records. -/
  | slotChoice (dt : Nat)
  /-- JOURNAL_RESTORE (R253): The ROM restores PERSIST values from the journal and admits control traffic. -/
  | journalRestore (dt : Nat)
  /-- MANIFEST_CHECK (R321): A slot's manifest is read and checked, refusing the slot at the first failure. -/
  | manifestCheck (dt : Nat)
  /-- CHUNK_LOADED (R322): An image chunk is read and hashed, becoming verified or refusing the slot after two failures.  Here: whether the chunk was read as the flash holds it. -/
  | chunkLoaded (dt : Nat) (readOk : Bool)
  /-- CORE_RELEASE (R323): CC0 sets bits of CORE_RELEASE and the named cores start at their CORE_ENTRY. -/
  | coreRelease (dt : Nat) (w : Writer) (v : Byte)
  /-- TRIAL_WDOG (R328): The trial watchdog expires without ACCEPT and the 9640 resets. -/
  | trialWdog (dt : Nat)
  /-- ACCEPT (R327): A write of 1 to ACCEPT marks the trial slot ACTIVE and blows rollback fuses. -/
  | accept (dt : Nat) (w : Writer) (v : Byte)
  /-- KEY_REVOKE (R329): A write to KEY_REVOKE blows a key's revocation fuse. -/
  | keyRevoke (dt : Nat) (w : Writer) (v : Byte)
  /-- BEGIN (R330): UPD_CMD BEGIN marks the target slot WRITTEN and opens an update. -/
  | updBegin (dt : Nat) (w : Writer)
  /-- VALIDATE (R330): UPD_CMD VALIDATE checks the target and marks it VALID or refuses it. -/
  | validate (dt : Nat) (w : Writer)
  /-- TRIAL_RESET (R330): UPD_CMD TRIAL_RESET schedules a reset 100 ms after acceptance. -/
  | trialReset (dt : Nat) (w : Writer)
  /-- UPD_DATA (R330): A blob written to UPD_DATA is erased, programmed and read back at the next expected offset. -/
  | updData (dt : Nat) (w : Writer) (l : List Byte)
  /-- RECOVERY_OPEN (R332): A RECOVERY_OPEN opens a recovery write to a slot as BEGIN. -/
  | recoveryOpen (dt : Nat) (m : UMsg)
  /-- RECOVERY_DATA (R332): A RECOVERY_DATA writes image bytes at an offset as UPD_DATA. -/
  | recoveryData (dt : Nat) (m : UMsg)
  /-- RECOVERY_CLOSE (R332): A RECOVERY_CLOSE validates the slot and resets into a trial boot. Here: whether the slot was read back as the flash holds it. -/
  | recoveryClose (dt : Nat) (m : UMsg) (readOk : Bool)
  /-- SAFE_STAGE_DATA (R316): A blob written to SAFE_STAGE_DATA is staged and SAFE_STAGE_OFFSET advances. -/
  | safeStageData (dt : Nat) (w : Writer) (l : List Byte)
  /-- SAFE_WRITE (R316): A write of 1 to SAFE_WRITE checks the staged table and writes it to the unchosen copy. -/
  | safeWrite (dt : Nat) (w : Writer) (v : Byte)
  /-- MEAS_EXT_GO (R326): A write to MEAS_EXT_GO extends MEAS_5-MEAS_7 by the staged digest words. -/
  | measExtGo (dt : Nat) (w : Writer) (i : Byte)
  /-- DELAYED_RESET (R336): The 100 ms delay after a trial reset or lifecycle advance expires and the device resets. -/
  | delayedReset (dt : Nat)
  /-- RESET_N (R355): RESET_N held low for at least 1 µs resets the device. -/
  | resetN (dt : Nat)
  /-- PGOOD_LOSS (R355): PGOOD low for 1 µs with RAIL_EN high resets the device. -/
  | pgoodLoss (dt : Nat)
  /-- RESET_CMD (R355): A write of 1 to RESET_CMD resets the device. -/
  | resetCmd (dt : Nat) (w : Writer) (v : Byte)
  /-- CC_RESET (R356): A write to CC_RESET resets CC1-CC3, breaking their tacks and stopping their DMA. -/
  | ccReset (dt : Nat) (w : Writer) (v : Byte)
  /-- OWNER_KEY_HASH (R335): A write of 48 bytes blows the owner key hash fuses in BLANK. -/
  | ownerKeyHash (dt : Nat) (w : Writer) (l : List Byte)
  /-- LC_ADVANCE (R336): A write to LC_ADVANCE blows the next lifecycle fuse and schedules a reset. -/
  | lcAdvance (dt : Nat) (w : Writer) (v : Byte)
  /-- THM_OP (R338): A core write to THM_OPn starts an AES-256-GCM operation on a key slot. -/
  | thmOp (dt : Nat) (core n : Fin 4) (v : BitVec 64)
  /-- THM_OP_DONE (R338): A Thimble key operation ends with DONE or an error. -/
  | thmOpDone (dt : Nat) (n : Fin 4)
  /-- DEBUG_OPEN (R340): A write of 1 to DEBUG_OPEN in DEVELOP opens the debug level. -/
  | debugOpen (dt : Nat) (w : Writer) (v : Bool)
  /-- IDCODE (R339): The IDCODE instruction returns the device identifier. -/
  | idcode (dt : Nat)
  /-- BYPASS (R339): The BYPASS instruction, or an unknown code, selects the 1-bit bypass. Here: the code shifted in. -/
  | bypass (dt : Nat) (code : Byte)
  /-- SAMPLE_PRELOAD (R339): The SAMPLE/PRELOAD instruction samples the pins when SCAN is granted. -/
  | samplePreload (dt : Nat)
  /-- EXTEST (R339): The EXTEST instruction drives external test when SCAN is granted. -/
  | extest (dt : Nat) (pins : Nat)
  /-- DBG_CHALLENGE (R341): Reading DBG_CHALLENGE returns a nonce and the Thimble's ephemeral key. -/
  | dbgChallenge (dt : Nat)
  /-- DBG_RESPONSE (R341): A response shifted into DBG_RESPONSE is checked and opens or refuses a debug session.  Here: what the checks of the chain found, the host's key and the signature. -/
  | dbgResponse (dt : Nat) (k : KeyRep) (hostKey sig : List Byte)
  /-- DBG_ACCESS (R345): A DBG_ACCESS frame performs a debug access of a granted kind or is answered DENIED. -/
  | dbgAccess (dt : Nat) (tagOk : Bool) (op : DbgOp)
  /-- DBG_END (R342): A DBG_END frame ends the debug session and resumes halted cores. -/
  | dbgEnd (dt : Nat) (tagOk : Bool)
  /-- TRST_N (R342): TRST_N low or Test-Logic-Reset ends any debug session. -/
  | trstN (dt : Nat)
  /-- DEBUG_SESSION_TIMEOUT (R342): 60 s without a passing frame ends the debug session. -/
  | debugSessionTimeout (dt : Nat)
  /-- CHALLENGE_LOCKOUT_END (R341): 10 s after three consecutive refusals challenges become readable again. -/
  | challengeLockoutEnd (dt : Nat)
  /-- POWER_CMD_RUN (R349): The RUN command leaves HUSH, waking pleats and restarting pieces as newly placed. -/
  | powerCmdRun (dt : Nat) (w : Writer)
  /-- POWER_CMD_HUSH (R349): The HUSH command unpowers every pleat from the next strobe. -/
  | powerCmdHush (dt : Nat) (w : Writer) (force : Bool)
  /-- POWER_CMD_STANDBY (R350): The STANDBY command ends sessions, flushes the journal, stops outputs and drops RAIL_EN. -/
  | powerCmdStandby (dt : Nat) (w : Writer) (force : Bool)
  /-- WAKE (R351): A wake pin or the RTC alarm raises RAIL_EN and the device restarts. Here: the wake pins at their active level. -/
  | wake (dt : Nat) (pins : BitVec 4)
  /-- PLEAT_WAKE_START (R352): The wake sequencer begins a queued pleat wake or power-down within the slew limit. -/
  | pleatWakeStart (dt : Nat)
  /-- PLEAT_READY (R352): A pleat is ready 4 µs after its wake began. -/
  | pleatReady (dt : Nat) (p : Fin 16)
  /-- NEEDLE_BIST (R354): TEST_CMD KIND 1 requests the needle datapath test. -/
  | needleBist (dt : Nat) (w : Writer) (pleats : BitVec 16) (rate : BitVec 3) (force : Bool)
  /-- MEMORY_BIST (R354): TEST_CMD KIND 2 requests the march test of needle memories and bobbins. -/
  | memoryBist (dt : Nat) (w : Writer) (pleats : BitVec 16) (rate : BitVec 3) (force : Bool)
  /-- ANALOG (R354): TEST_CMD KIND 3 requests the Tape, sensor, PLL and AVSBus test. -/
  | analog (dt : Nat) (w : Writer) (pleats : BitVec 16) (rate : BitVec 3) (force : Bool)
  /-- END (R354): TEST_CMD KIND 0 ends a running test early. -/
  | testEnd (dt : Nat) (w : Writer)
  /-- TEST_LENGTH_END (R354): The test's length passes and the 9640 returns to TEST_FROM with the result. -/
  | testLengthEnd (dt : Nat) (r : TestRes)
  /-- SENSOR_UPDATE (R385): The junction sensors update every 1 ms, driving TJ_WARN, refresh halving, migration and the thermal trip. -/
  | sensorUpdate (dt : Nat) (pleats drams : List (BitVec 8))
  /-- NDL_STICKY_WRITE (R37): A W1C write to NDL_STICKY clears sticky bits unless the needle set them in the stitch in progress. -/
  | ndlStickyWrite (dt : Nat) (w : Writer) (n : Fin 128) (v : BitVec 32)
  /-- NDL_TAPE_STATUS_WRITE (R86): A W1C write to NDL_TAPE_STATUS clears FLOOR_HIT, or FRAYED on a needle with no piece. -/
  | ndlTapeStatusWrite (dt : Nat) (w : Writer) (n : Fin 128) (v : BitVec 32)
  /-- AVS_STATUS_WRITE (R89): A W1C write clearing AVS_STATUS.FAULT lets the loop issue writes again. -/
  | avsStatusWrite (dt : Nat) (w : Writer) (v : BitVec 32)
  /-- VCORE_LIMIT_WRITE (R87): A write to VCORE_MIN or VCORE_MAX is checked and may move VCORE at once or at the next fitting. -/
  | vcoreLimitWrite (dt : Nat) (w : Writer) (max : Bool) (v : BitVec 16)
  /-- OBJECT_WRITE (R240): A write to an object that has no row of its own is checked and applied under its policy. Here: the type code and the encoded value of R265. -/
  | objectWrite (dt : Nat) (w : Writer) (num : BitVec 25) (first : BitVec 16) (ty : Byte) (l : List Byte)
  /-- DELAY_REQ_RECEIVED (R213): While the 9640 leads, a Delay_Req from a follower arrives, is timestamped and answered with a Delay_Resp. -/
  | delayReqReceived (dt : Nat) (h : PtpHdr) (follower : BitVec 64) (seq : BitVec 16) (corr : Int)
  /-- CLK_SLEW_DONE (R227): An MCK or WCK output slewing toward its CLK_PHASE target reaches it and CLK_STATE returns from SLEWING to RUN. -/
  | clkSlewDone (dt : Nat) (i : Fin 10)
  /-- UPD_VALIDATE_DONE (R330): The read-back and check of an update target ends, writing the VALID record or leaving IMAGE_BAD with its reason, and UPD_STATUS leaves VALIDATING.  Here: whether the slot was read back as the flash holds it. -/
  | updValidateDone (dt : Nat) (readOk : Bool)
  /-- STANDBY_ENTRY_DONE (R350): The last of the STANDBY entry steps ends, SerDes and PHYs stop and RAIL_EN goes low, leaving only the standby island. -/
  | standbyEntryDone (dt : Nat)
  /-- VKEEP_LOSS (R351): VKEEP is removed and the 9640 enters OFF, losing the RTC and the standby island's contents. -/
  | vkeepLoss (dt : Nat)
  /-- HISTORY_ZEROING_DONE (R349): The Last finishes zeroing every history region and spool, and reloading images after a test, so that pieces start as newly placed at the next strobe. -/
  | historyZeroingDone (dt : Nat)
  /-- DMX_FRAME_SENT (R286): A DMX port in OUT mode finishes sending its frame and becomes idle, and in STANDBY entry or a service change it then holds DE low or takes up its new behaviour. -/
  | dmxFrameSent (dt : Nat) (p : Fin 8)
  deriving DecidableEq, Repr

end Sys2Proof
end

