-- ==== Sys2Proof/Decode.lean ====
section
/-!
DEFINITION. The command a word of the opcode table's bits spells. The table gives no row bits: the 9640 is a block that
takes commands, so no word spells one. (The encoding of needle instructions in program memory, R52–R60, is
Machine/Code.lean's.)
-/

namespace Sys2Proof

/-- No row of the opcode table has bits. -/
def decodeTableWord (_nbits _w : Nat) : Option Instr := none

end Sys2Proof
end

