-- ==== Sys2Proof/Config.lean ====
section
/-!
DEFINITION. What one part fixes and what the spec leaves open. Every constant here is opaque: it has no body, so nothing
can evaluate it, and a statement that names one holds for every value of it.
-/
namespace Sys2Proof.Config

/-- A fresh free value for each use: a value the spec leaves undefined or unstated, or a random value the part draws
(nonces, challenges, session ids, back-off times). State's counter `free` is its argument. -/
opaque freeNat : Nat → Nat

/-- The MAC address fused for Shuttle A (0) or Shuttle B (1) (SH_MAC, R193). -/
opaque shuttleMac : Nat → Nat
/-- The MAC address fused for a 10BASE-T1S segment (T1S_MAC, R296). -/
opaque t1sMac : Nat → Nat
/-- The RDM UID fused for a DMX port (RDM_SRC_UID, R296). -/
opaque rdmUid : Nat → Nat
/-- The sACN component identifier fused for the part (SACN_CID, R296), byte by byte. -/
opaque sacnCid : Nat → Nat
/-- The device certificate chain (DEV_CERT_CHAIN, R275). -/
opaque certChain : List Nat
/-- The vendor key hash (VENDOR_KEY_HASH, R357). -/
opaque vendorKeyHash : List Nat
/-- The device root secret (ROOT_KEY, R334). -/
opaque rootKey : BitVec 256
/-- The private key of P-384 that slot 0's 48 bytes are (R338), which gives no rule for it; taken modulo the order less one, plus
one. -/
opaque keyScalar : List (BitVec 8) → Nat
/-- Coefficients of the sample-rate converter ROMs: SH_SRC_COEF2 (first argument 2) and SH_SRC_COEF4 (4) (R182). -/
opaque srcCoef : Nat → Nat → Int
/-- The payload of a message on UDP whose layout a standard outside the spec gives (0 PTP, 1–3 sACN data, synchronization and
discovery, 4 OSC), by the values and byte strings it carries. -/
opaque stdPayload : Nat → List Int → List (List Nat) → List Nat
/-- The UDP source port of such a message. -/
opaque udpSource : Nat → Nat
/-- What a descriptor's fields hold that the spec does not state (R235, R239, R267), by object number, field (0 UNIT, 1 MIN,
2 MAX, 3 EXT, 4 VALUE, 5 COMMITTED, 6 DEFAULT as heap references) and the placement the object belongs to. -/
opaque descField : Nat → Nat → Nat → Nat

end Sys2Proof.Config
end

