-- ==== Sys2Proof/Machine/Objects.lean ====
section
/-!
DEFINITION. The device objects of the dictionary, one descriptor a row, written from the object tables of the spec's
chapters (R3, R21, R37, R67, R82, R91, R116, R147, R168, R193, R207, R230, R257, R275, R296, R310, R333, R357, R372,
R393), with each object's number under its own name. Needle n's objects stand at #000C000 + 64n and share needle 0's
rows (R37, R67, R82, R372); Shuttle B's stand at #0006000 and share Shuttle A's rows (R193).
-/
namespace Sys2Proof.Machine

/-- The value types of R238; an ARRAY is its element type with the descriptor's `arr` set. -/
inductive Ty where
  | bool | u8 | i8 | u16 | i16 | u32 | i32 | u64 | i64 | q31 | f32 | gain | time | str | blob
  deriving DecidableEq, Repr

/-- What a hem boundary does with an object (R368, R370): nothing, restart (`hem`: a maximum, a minimum or overflow bits;
`count`: a hem counter), or nothing to a lifetime counter (`life`). -/
inductive CountClass where
  | plain | hem | count | life
  deriving DecidableEq, Repr

/-- One row of an object table. `lo`–`hi` are the numbers it covers; `n` is the element count (1 for a scalar); `rd`
and `wr` hold one bit per role (R237); `own` marks an object only its own control core may write; `wo` a write-only
object (R397); `dflt` the default value of each element. -/
structure Desc where
  lo : Nat
  hi : Nat
  ty : Ty
  arr : Bool
  n : Nat
  rd : Nat
  wr : Nat
  own : Bool
  wo : Bool
  persist : Bool
  live : Bool
  snap : Bool
  cls : CountClass
  dflt : Int
  deriving DecidableEq, Repr

/-- DEVICE_ID (R3). -/
def Obj.deviceId : Nat := 0x0
/-- SILICON_REV (R3). -/
def Obj.siliconRev : Nat := 0x1
/-- ORDER_CODE (R3). -/
def Obj.orderCode : Nat := 0x2
/-- PKG_MEM_GIB (R3). -/
def Obj.pkgMemGib : Nat := 0x3
/-- SERVICE_LEVEL (R3). -/
def Obj.serviceLevel : Nat := 0x10
/-- CC_WSTATUS0 (R21). -/
def Obj.ccWstatus0 : Nat := 0x40
/-- CC_WSTATUS1 (R21). -/
def Obj.ccWstatus1 : Nat := 0x41
/-- CC_WSTATUS2 (R21). -/
def Obj.ccWstatus2 : Nat := 0x42
/-- CC_WSTATUS3 (R21). -/
def Obj.ccWstatus3 : Nat := 0x43
/-- CC_MSG_GO0 (R21). -/
def Obj.ccMsgGo0 : Nat := 0x44
/-- NDL_STICKY (R37). -/
def Obj.ndlSticky : Nat := 0xC020
/-- NDL_SAT_HEM (R37). -/
def Obj.ndlSatHem : Nat := 0xC021
/-- NDL_WRAP_HEM (R37). -/
def Obj.ndlWrapHem : Nat := 0xC022
/-- NDL_DOMAIN_HEM (R37). -/
def Obj.ndlDomainHem : Nat := 0xC023
/-- NDL_SAT_LIFE (R37). -/
def Obj.ndlSatLife : Nat := 0xC024
/-- NDL_WRAP_LIFE (R37). -/
def Obj.ndlWrapLife : Nat := 0xC025
/-- NDL_WB_MODE (R37). -/
def Obj.ndlWbMode : Nat := 0xC026
/-- NDL_CNT_OVF (R37). -/
def Obj.ndlCntOvf : Nat := 0xC027
/-- NDL_SEAM_HELD_HEM (R67). -/
def Obj.ndlSeamHeldHem : Nat := 0xC028
/-- NDL_FWD_WAIT_MAX (R67). -/
def Obj.ndlFwdWaitMax : Nat := 0xC029
/-- NDL_BOB2_HEM (R67). -/
def Obj.ndlBob2Hem : Nat := 0xC02A
/-- NDL_IO_OVF (R67). -/
def Obj.ndlIoOvf : Nat := 0xC02B
/-- NDL_STATE (R82). -/
def Obj.ndlState : Nat := 0xC000
/-- NDL_TAPE_STATUS (R82). -/
def Obj.ndlTapeStatus : Nat := 0xC001
/-- NDL_LAST_DONE (R82). -/
def Obj.ndlLastDone : Nat := 0xC002
/-- NDL_MAX_DONE_HEM (R82). -/
def Obj.ndlMaxDoneHem : Nat := 0xC003
/-- NDL_MIN_MARGIN_HEM (R82). -/
def Obj.ndlMinMarginHem : Nat := 0xC004
/-- NDL_OVERRUN_HEM (R82). -/
def Obj.ndlOverrunHem : Nat := 0xC005
/-- NDL_SKIP_HEM (R82). -/
def Obj.ndlSkipHem : Nat := 0xC006
/-- NDL_LATE_HEM (R82). -/
def Obj.ndlLateHem : Nat := 0xC007
/-- NDL_OVERRUN_LIFE (R82). -/
def Obj.ndlOverrunLife : Nat := 0xC008
/-- NDL_BUDGET (R82). -/
def Obj.ndlBudget : Nat := 0xC009
/-- NDL_SLOTS (R82). -/
def Obj.ndlSlots : Nat := 0xC00A
/-- NDL_TAPE_OVF (R82). -/
def Obj.ndlTapeOvf : Nat := 0xC00B
/-- STITCH_RATE (R91). -/
def Obj.stitchRate : Nat := 0x100
/-- STITCH_NOW (R91). -/
def Obj.stitchNow : Nat := 0x101
/-- DEADLINE_CODE (R91). -/
def Obj.deadlineCode : Nat := 0x102
/-- FIT_STITCH (R91). -/
def Obj.fitStitch : Nat := 0x103
/-- FIT_TIME (R91). -/
def Obj.fitTime : Nat := 0x104
/-- FIT_MARGIN (R91). -/
def Obj.fitMargin : Nat := 0x105
/-- PLEAT_FIT_MARGIN (R91). -/
def Obj.pleatFitMargin : Nat := 0x106
/-- VCORE_NOW (R91). -/
def Obj.vcoreNow : Nat := 0x107
/-- VCORE_MIN (R91). -/
def Obj.vcoreMin : Nat := 0x108
/-- VCORE_MAX (R91). -/
def Obj.vcoreMax : Nat := 0x109
/-- VCORE_BOOT (R91). -/
def Obj.vcoreBoot : Nat := 0x10A
/-- MARGIN_TARGET (R91). -/
def Obj.marginTarget : Nat := 0x10B
/-- MARGIN_FLOOR (R91). -/
def Obj.marginFloor : Nat := 0x10C
/-- AVS_STATUS (R91). -/
def Obj.avsStatus : Nat := 0x10D
/-- AVS_RAISE_HEM (R91). -/
def Obj.avsRaiseHem : Nat := 0x10E
/-- AVS_LOWER_HEM (R91). -/
def Obj.avsLowerHem : Nat := 0x10F
/-- FLOOR_HIT_HEM (R91). -/
def Obj.floorHitHem : Nat := 0x110
/-- SHED_HEM (R91). -/
def Obj.shedHem : Nat := 0x111
/-- EMERGENCY_LIFE (R91). -/
def Obj.emergencyLife : Nat := 0x112
/-- HISTORY_MAP (R91). -/
def Obj.historyMap : Nat := 0x113
/-- HISTORY_ALL (R91). -/
def Obj.historyAll : Nat := 0x114
/-- TAPE_CNT_OVF (R91). -/
def Obj.tapeCntOvf : Nat := 0x115
/-- COMMIT_ACCEPTED_HEM (R116). -/
def Obj.commitAcceptedHem : Nat := 0xF000
/-- COMMIT_APPLIED_HEM (R116). -/
def Obj.commitAppliedHem : Nat := 0xF001
/-- COMMIT_REFUSED_HEM (R116). -/
def Obj.commitRefusedHem : Nat := 0xF002
/-- COMMIT_CANCELLED_HEM (R116). -/
def Obj.commitCancelledHem : Nat := 0xF003
/-- COMMIT_SLIPPED_HEM (R116). -/
def Obj.commitSlippedHem : Nat := 0xF004
/-- GOLDEN_REBUILD_HEM (R116). -/
def Obj.goldenRebuildHem : Nat := 0xF005
/-- BASTE_CNT_OVF (R116). -/
def Obj.basteCntOvf : Nat := 0xF006
/-- COPY_RATE (R116). -/
def Obj.copyRate : Nat := 0xF007
/-- COPY_BACKLOG (R116). -/
def Obj.copyBacklog : Nat := 0xF008
/-- COMMIT_CANCEL (R116). -/
def Obj.commitCancel : Nat := 0xF009
/-- CC_COMMIT_STITCH0 (R116). -/
def Obj.ccCommitStitch0 : Nat := 0xF010
/-- CC_COMMIT_GO0 (R116). -/
def Obj.ccCommitGo0 : Nat := 0xF014
/-- CC_COMMIT_RESULT0 (R116). -/
def Obj.ccCommitResult0 : Nat := 0xF018
/-- UNIV_GROUP0 (R116). -/
def Obj.univGroup0 : Nat := 0xF020
/-- SHA_RX_GROUP (R116). -/
def Obj.shaRxGroup : Nat := 0xF040
/-- SHA_TX_GROUP (R116). -/
def Obj.shaTxGroup : Nat := 0xF041
/-- SHB_RX_GROUP (R116). -/
def Obj.shbRxGroup : Nat := 0xF042
/-- SHB_TX_GROUP (R116). -/
def Obj.shbTxGroup : Nat := 0xF043
/-- GROUP_CFG0 (R116). -/
def Obj.groupCfg0 : Nat := 0xF050
/-- GROUP_PEND0 (R116). -/
def Obj.groupPend0 : Nat := 0xF054
/-- GROUP_LAST0 (R116). -/
def Obj.groupLast0 : Nat := 0xF058
/-- PLACE_CMD (R147). -/
def Obj.placeCmd : Nat := 0xE000
/-- PLACE_ARG (R147). -/
def Obj.placeArg : Nat := 0xE001
/-- PLACE_SEED (R147). -/
def Obj.placeSeed : Nat := 0xE002
/-- PLACE_STATUS (R147). -/
def Obj.placeStatus : Nat := 0xE003
/-- PLACE_DETAIL (R147). -/
def Obj.placeDetail : Nat := 0xE004
/-- LAST_FREEZE (R147). -/
def Obj.lastFreeze : Nat := 0xE005
/-- RESOURCE_MAP (R147). -/
def Obj.resourceMap : Nat := 0xE006
/-- BOBBIN_MAP (R147). -/
def Obj.bobbinMap : Nat := 0xE007
/-- EFFECTIVE_MAP (R147). -/
def Obj.effectiveMap : Nat := 0xE008
/-- PLACE_DIGEST (R147). -/
def Obj.placeDigest : Nat := 0xE009
/-- SPOOL_THRESHOLD (R147). -/
def Obj.spoolThreshold : Nat := 0xE00A
/-- SPOOL_BW_LIMIT (R147). -/
def Obj.spoolBwLimit : Nat := 0xE00B
/-- SPOOL_BW_RESERVED (R147). -/
def Obj.spoolBwReserved : Nat := 0xE00C
/-- FREE_SPOOL_KIB (R147). -/
def Obj.freeSpoolKib : Nat := 0xE00D
/-- MIG_INTERVAL (R147). -/
def Obj.migInterval : Nat := 0xE00E
/-- MIG_WAIT (R147). -/
def Obj.migWait : Nat := 0xE00F
/-- PARITY_STORM_LIMIT (R147). -/
def Obj.parityStormLimit : Nat := 0xE010
/-- TEMP_MIGRATE (R147). -/
def Obj.tempMigrate : Nat := 0xE011
/-- PAT_STAGE_OFFSET (R147). -/
def Obj.patStageOffset : Nat := 0xE012
/-- PAT_STAGE_DATA (R147). -/
def Obj.patStageData : Nat := 0xE013
/-- PAT_STAGE_ADDR (R147). -/
def Obj.patStageAddr : Nat := 0xE014
/-- PAT_ID (R147). -/
def Obj.patId : Nat := 0xE015
/-- PLACE_TIME (R147). -/
def Obj.placeTime : Nat := 0xE016
/-- MIGRATE_HEM (R147). -/
def Obj.migrateHem : Nat := 0xE017
/-- MIG_LOST_HEM (R147). -/
def Obj.migLostHem : Nat := 0xE018
/-- SPOOL_LATE_HEM (R147). -/
def Obj.spoolLateHem : Nat := 0xE019
/-- TWIN_MISMATCH_HEM (R147). -/
def Obj.twinMismatchHem : Nat := 0xE01A
/-- LAST_CNT_OVF (R147). -/
def Obj.lastCntOvf : Nat := 0xE01B
/-- PLACE_TABLE0 (R147). -/
def Obj.placeTable0 : Nat := 0xE100
/-- PATH_LATENCY (R147). -/
def Obj.pathLatency : Nat := 0xE200
/-- FREE_SLOTS (R147). -/
def Obj.freeSlots : Nat := 0xE210
/-- FREE_X (R147). -/
def Obj.freeX : Nat := 0xE211
/-- FREE_Y (R147). -/
def Obj.freeY : Nat := 0xE212
/-- FREE_BOBBIN (R147). -/
def Obj.freeBobbin : Nat := 0xE213
/-- BOBBIN_OWNER (R168). -/
def Obj.bobbinOwner : Nat := 0xB000
/-- HANDOVER_BUSY (R168). -/
def Obj.handoverBusy : Nat := 0xB001
/-- ACCESS_DENIED_HEM (R168). -/
def Obj.accessDeniedHem : Nat := 0xB002
/-- BOB_CONFLICT_HEM (R168). -/
def Obj.bobConflictHem : Nat := 0xB003
/-- BOBBIN_PARITY_HEM (R168). -/
def Obj.bobbinParityHem : Nat := 0xB004
/-- BOB_CNT_OVF (R168). -/
def Obj.bobCntOvf : Nat := 0xB005
/-- PM_FW_MIB (R168). -/
def Obj.pmFwMib : Nat := 0xB100
/-- PM_SPILL_MIB (R168). -/
def Obj.pmSpillMib : Nat := 0xB101
/-- PM_SPOOL_MIB (R168). -/
def Obj.pmSpoolMib : Nat := 0xB102
/-- PM_REGION_BASE (R168). -/
def Obj.pmRegionBase : Nat := 0xB103
/-- PM_LINK_RETRY_HEM (R168). -/
def Obj.pmLinkRetryHem : Nat := 0xB104
/-- PM_LINK_ERR_HEM (R168). -/
def Obj.pmLinkErrHem : Nat := 0xB105
/-- PM_LINK_ERR_LIFE (R168). -/
def Obj.pmLinkErrLife : Nat := 0xB106
/-- PM_REFRESH_X2 (R168). -/
def Obj.pmRefreshX2 : Nat := 0xB107
/-- PM_CNT_OVF (R168). -/
def Obj.pmCntOvf : Nat := 0xB108
/-- ARB_CLASS (R168). -/
def Obj.arbClass : Nat := 0xB200
/-- ARB_HOLD_LIMIT (R168). -/
def Obj.arbHoldLimit : Nat := 0xB201
/-- ARB_QUOTA (R168). -/
def Obj.arbQuota : Nat := 0xB202
/-- ARB_WINDOW (R168). -/
def Obj.arbWindow : Nat := 0xB203
/-- ARB_HOLD_CUT (R168). -/
def Obj.arbHoldCut : Nat := 0xB204
/-- ARB_GRANTS_A_HEM (R168). -/
def Obj.arbGrantsAHem : Nat := 0xB205
/-- ARB_GRANTS_B_HEM (R168). -/
def Obj.arbGrantsBHem : Nat := 0xB206
/-- ARB_BURSTS_HEM (R168). -/
def Obj.arbBurstsHem : Nat := 0xB207
/-- HOLD_CUT_HEM (R168). -/
def Obj.holdCutHem : Nat := 0xB208
/-- ARB_CNT_OVF (R168). -/
def Obj.arbCntOvf : Nat := 0xB209
/-- SH_LINK (R193). -/
def Obj.shLink : Nat := 0x4000
/-- SH_MAC (R193). -/
def Obj.shMac : Nat := 0x4001
/-- SH_IP (R193). -/
def Obj.shIp : Nat := 0x4002
/-- SH_MASK (R193). -/
def Obj.shMask : Nat := 0x4003
/-- SH_GATEWAY (R193). -/
def Obj.shGateway : Nat := 0x4004
/-- SH_VLAN (R193). -/
def Obj.shVlan : Nat := 0x4005
/-- SH_DSCP (R193). -/
def Obj.shDscp : Nat := 0x4006
/-- SH_PAIR_MODE (R193). -/
def Obj.shPairMode : Nat := 0x4007
/-- SH_RX_ENABLE (R193). -/
def Obj.shRxEnable : Nat := 0x4010
/-- SH_RX_FORMAT (R193). -/
def Obj.shRxFormat : Nat := 0x4011
/-- SH_RX_DEST (R193). -/
def Obj.shRxDest : Nat := 0x4012
/-- SH_RX_UDP (R193). -/
def Obj.shRxUdp : Nat := 0x4013
/-- SH_RX_LATENCY (R193). -/
def Obj.shRxLatency : Nat := 0x4014
/-- SH_RX_OFFSET (R193). -/
def Obj.shRxOffset : Nat := 0x4015
/-- SH_RX_SRC (R193). -/
def Obj.shRxSrc : Nat := 0x4016
/-- SH_RX_STATE (R193). -/
def Obj.shRxState : Nat := 0x4017
/-- SH_RX_MAP_COMMIT (R193). -/
def Obj.shRxMapCommit : Nat := 0x4018
/-- SH_RX_MAP_STITCH (R193). -/
def Obj.shRxMapStitch : Nat := 0x4019
/-- SH_RX_PEER_FLAGS (R193). -/
def Obj.shRxPeerFlags : Nat := 0x401A
/-- SH_TX_ENABLE (R193). -/
def Obj.shTxEnable : Nat := 0x4020
/-- SH_TX_FORMAT (R193). -/
def Obj.shTxFormat : Nat := 0x4021
/-- SH_TX_DEST (R193). -/
def Obj.shTxDest : Nat := 0x4022
/-- SH_TX_UDP (R193). -/
def Obj.shTxUdp : Nat := 0x4023
/-- SH_TX_SSRC (R193). -/
def Obj.shTxSsrc : Nat := 0x4024
/-- SH_TX_OFFSET (R193). -/
def Obj.shTxOffset : Nat := 0x4025
/-- SH_TX_STATE (R193). -/
def Obj.shTxState : Nat := 0x4026
/-- SH_TX_MAP_COMMIT (R193). -/
def Obj.shTxMapCommit : Nat := 0x4027
/-- SH_TX_MAP_STITCH (R193). -/
def Obj.shTxMapStitch : Nat := 0x4028
/-- SH_RX_MAP0 (R193). -/
def Obj.shRxMap0 : Nat := 0x4100
/-- SH_RX_MAP_ACTIVE0 (R193). -/
def Obj.shRxMapActive0 : Nat := 0x4110
/-- SH_RX_GAIN0 (R193). -/
def Obj.shRxGain0 : Nat := 0x4120
/-- SH_TX_MAP0 (R193). -/
def Obj.shTxMap0 : Nat := 0x4130
/-- SH_TX_MAP_ACTIVE0 (R193). -/
def Obj.shTxMapActive0 : Nat := 0x4140
/-- SH_TX_GAIN0 (R193). -/
def Obj.shTxGain0 : Nat := 0x4150
/-- SH_RX_PKT_HEM (R193). -/
def Obj.shRxPktHem : Nat := 0x4200
/-- SH_RX_MISS_HEM (R193). -/
def Obj.shRxMissHem : Nat := 0x4201
/-- SH_RX_LATE_HEM (R193). -/
def Obj.shRxLateHem : Nat := 0x4202
/-- SH_RX_EARLY_HEM (R193). -/
def Obj.shRxEarlyHem : Nat := 0x4203
/-- SH_RX_FMT_HEM (R193). -/
def Obj.shRxFmtHem : Nat := 0x4204
/-- SH_RX_DUP_HEM (R193). -/
def Obj.shRxDupHem : Nat := 0x4205
/-- SH_TX_PKT_HEM (R193). -/
def Obj.shTxPktHem : Nat := 0x4206
/-- SH_FCS_HEM (R193). -/
def Obj.shFcsHem : Nat := 0x4210
/-- SH_UDP_CSUM_HEM (R193). -/
def Obj.shUdpCsumHem : Nat := 0x4211
/-- SH_STRANGER_HEM (R193). -/
def Obj.shStrangerHem : Nat := 0x4212
/-- SH_UNMATCHED_HEM (R193). -/
def Obj.shUnmatchedHem : Nat := 0x4213
/-- SH_PARITY_HEM (R193). -/
def Obj.shParityHem : Nat := 0x4214
/-- SH_SPILL_LATE_HEM (R193). -/
def Obj.shSpillLateHem : Nat := 0x4215
/-- SH_CLIP_HEM (R193). -/
def Obj.shClipHem : Nat := 0x4216
/-- SH_CTRL_DROP_HEM (R193). -/
def Obj.shCtrlDropHem : Nat := 0x4217
/-- POOL_LATE (R193). -/
def Obj.poolLate : Nat := 0x4218
/-- SH_TX_DROP_HEM (R193). -/
def Obj.shTxDropHem : Nat := 0x4219
/-- SH_STRANGER_LIST (R193). -/
def Obj.shStrangerList : Nat := 0x421A
/-- SH_CNT_OVF (R193). -/
def Obj.shCntOvf : Nat := 0x421B
/-- SH_BUF_SRAM_USED (R193). -/
def Obj.shBufSramUsed : Nat := 0x4220
/-- SH_BUF_SPILL_USED (R193). -/
def Obj.shBufSpillUsed : Nat := 0x4221
/-- SH_TX_LOAD (R193). -/
def Obj.shTxLoad : Nat := 0x4222
/-- SH_AUDIT_CFG (R193). -/
def Obj.shAuditCfg : Nat := 0x4300
/-- SH_AUDIT_LAST (R193). -/
def Obj.shAuditLast : Nat := 0x4301
/-- SH_AUDIT_MIN (R193). -/
def Obj.shAuditMin : Nat := 0x4302
/-- SH_AUDIT_MAX (R193). -/
def Obj.shAuditMax : Nat := 0x4303
/-- SH_AUDIT_OK_HEM (R193). -/
def Obj.shAuditOkHem : Nat := 0x4304
/-- SH_AUDIT_BAD_HEM (R193). -/
def Obj.shAuditBadHem : Nat := 0x4305
/-- SH_AUDIT_LOST_HEM (R193). -/
def Obj.shAuditLostHem : Nat := 0x4306
/-- SH_AUDIT_OVF (R193). -/
def Obj.shAuditOvf : Nat := 0x4307
/-- SH_SRC_COEF2 (R193). -/
def Obj.shSrcCoef2 : Nat := 0x4400
/-- SH_SRC_COEF4 (R193). -/
def Obj.shSrcCoef4 : Nat := 0x4401
/-- TDM_CFG (R207). -/
def Obj.tdmCfg : Nat := 0x8000
/-- TDM_STATE (R207). -/
def Obj.tdmState : Nat := 0x8001
/-- TDM_RX_MAP (R207). -/
def Obj.tdmRxMap : Nat := 0x8002
/-- TDM_TX_MAP (R207). -/
def Obj.tdmTxMap : Nat := 0x8003
/-- TDM_RX_MAP_ACTIVE (R207). -/
def Obj.tdmRxMapActive : Nat := 0x8004
/-- TDM_TX_MAP_ACTIVE (R207). -/
def Obj.tdmTxMapActive : Nat := 0x8005
/-- TDM_MAP_COMMIT (R207). -/
def Obj.tdmMapCommit : Nat := 0x8006
/-- TDM_MAP_STITCH (R207). -/
def Obj.tdmMapStitch : Nat := 0x8007
/-- TDM_SLIP_HEM (R207). -/
def Obj.tdmSlipHem : Nat := 0x8008
/-- TDM_POOL_LATE (R207). -/
def Obj.tdmPoolLate : Nat := 0x8009
/-- TDM_REALIGN_HEM (R207). -/
def Obj.tdmRealignHem : Nat := 0x800A
/-- TDM_CNT_OVF (R207). -/
def Obj.tdmCntOvf : Nat := 0x800B
/-- TB_STATE (R230). -/
def Obj.tbState : Nat := 0x3000
/-- TB_NOW (R230). -/
def Obj.tbNow : Nat := 0x3001
/-- TB_FREQ (R230). -/
def Obj.tbFreq : Nat := 0x3002
/-- TB_OFFSET (R230). -/
def Obj.tbOffset : Nat := 0x3003
/-- TB_PATH_DELAY (R230). -/
def Obj.tbPathDelay : Nat := 0x3004
/-- TB_ROLE (R230). -/
def Obj.tbRole : Nat := 0x3005
/-- PTP_PORT_STATE (R230). -/
def Obj.ptpPortState : Nat := 0x3006
/-- PTP_PROFILE (R230). -/
def Obj.ptpProfile : Nat := 0x3007
/-- PTP_DOMAIN (R230). -/
def Obj.ptpDomain : Nat := 0x3008
/-- PTP_INTERVALS (R230). -/
def Obj.ptpIntervals : Nat := 0x3009
/-- PTP_ANN_TIMEOUT (R230). -/
def Obj.ptpAnnTimeout : Nat := 0x300A
/-- PTP_PRIORITY (R230). -/
def Obj.ptpPriority : Nat := 0x300B
/-- PTP_PORT_CFG (R230). -/
def Obj.ptpPortCfg : Nat := 0x300C
/-- PTP_PORT_ACTIVE (R230). -/
def Obj.ptpPortActive : Nat := 0x300D
/-- PTP_ASYM (R230). -/
def Obj.ptpAsym : Nat := 0x300E
/-- PTP_LEADER (R230). -/
def Obj.ptpLeader : Nat := 0x300F
/-- PTP_LEADER_CLASS (R230). -/
def Obj.ptpLeaderClass : Nat := 0x3010
/-- TB_SERVO_BW (R230). -/
def Obj.tbServoBw : Nat := 0x3011
/-- TB_STEP_NS (R230). -/
def Obj.tbStepNs : Nat := 0x3012
/-- TB_LOCK_NS (R230). -/
def Obj.tbLockNs : Nat := 0x3013
/-- TB_REF_SEL (R230). -/
def Obj.tbRefSel : Nat := 0x3014
/-- TB_TIME_SRC (R230). -/
def Obj.tbTimeSrc : Nat := 0x3015
/-- TB_SET (R230). -/
def Obj.tbSet : Nat := 0x3016
/-- REF_STATUS (R230). -/
def Obj.refStatus : Nat := 0x3017
/-- PLL_STATUS (R230). -/
def Obj.pllStatus : Nat := 0x3018
/-- CLK_CFG (R230). -/
def Obj.clkCfg : Nat := 0x3019
/-- CLK_PHASE (R230). -/
def Obj.clkPhase : Nat := 0x301A
/-- CLK_STATE (R230). -/
def Obj.clkState : Nat := 0x301B
/-- TB_STEP_HEM (R230). -/
def Obj.tbStepHem : Nat := 0x301C
/-- HOLDOVER_HEM (R230). -/
def Obj.holdoverHem : Nat := 0x301D
/-- PTP_FAILOVER_HEM (R230). -/
def Obj.ptpFailoverHem : Nat := 0x301E
/-- PTP_IGNORED_HEM (R230). -/
def Obj.ptpIgnoredHem : Nat := 0x301F
/-- LOCK_LOST_HEM (R230). -/
def Obj.lockLostHem : Nat := 0x3020
/-- CLK_CNT_OVF (R230). -/
def Obj.clkCntOvf : Nat := 0x3021
/-- DICT_OPS_HEM (R257). -/
def Obj.dictOpsHem : Nat := 0x2800
/-- DICT_BUSY_HEM (R257). -/
def Obj.dictBusyHem : Nat := 0x2801
/-- DICT_LAT_MAX (R257). -/
def Obj.dictLatMax : Nat := 0x2802
/-- DICT_CACHE_HIT_HEM (R257). -/
def Obj.dictCacheHitHem : Nat := 0x2803
/-- DICT_CACHE_MISS_HEM (R257). -/
def Obj.dictCacheMissHem : Nat := 0x2804
/-- DICT_CRC_HEM (R257). -/
def Obj.dictCrcHem : Nat := 0x2805
/-- DICT_HEAP_FREE (R257). -/
def Obj.dictHeapFree : Nat := 0x2806
/-- DICT_MERGE_USED (R257). -/
def Obj.dictMergeUsed : Nat := 0x2807
/-- DICT_SUB_USED (R257). -/
def Obj.dictSubUsed : Nat := 0x2808
/-- JOURNAL_STATE (R257). -/
def Obj.journalState : Nat := 0x2809
/-- JOURNAL_USED (R257). -/
def Obj.journalUsed : Nat := 0x280A
/-- JOURNAL_FAIL_HEM (R257). -/
def Obj.journalFailHem : Nat := 0x280B
/-- DICT_CC_DROP_HEM (R257). -/
def Obj.dictCcDropHem : Nat := 0x280C
/-- DICT_CNT_OVF (R257). -/
def Obj.dictCntOvf : Nat := 0x280D
/-- DICT_CC_PRIORITY0 (R257). -/
def Obj.dictCcPriority0 : Nat := 0x2810
/-- DICT_CC_SUB0 (R257). -/
def Obj.dictCcSub0 : Nat := 0x2814
/-- DICT_CC_RING_BASE0 (R257). -/
def Obj.dictCcRingBase0 : Nat := 0x2818
/-- DICT_CC_RING_LEN0 (R257). -/
def Obj.dictCcRingLen0 : Nat := 0x281C
/-- DICT_CC_RING_HEAD0 (R257). -/
def Obj.dictCcRingHead0 : Nat := 0x2820
/-- DICT_CC_RING_TAIL0 (R257). -/
def Obj.dictCcRingTail0 : Nat := 0x2824
/-- SESS_TIMEOUT (R275). -/
def Obj.sessTimeout : Nat := 0x2000
/-- STRANGER_MODE (R275). -/
def Obj.strangerMode : Nat := 0x2001
/-- ROLE_PRIO_MAX (R275). -/
def Obj.rolePrioMax : Nat := 0x2002
/-- TRUST_ROOTS (R275). -/
def Obj.trustRoots : Nat := 0x2003
/-- DEV_CERT_CHAIN (R275). -/
def Obj.devCertChain : Nat := 0x2004
/-- SESS_USED (R275). -/
def Obj.sessUsed : Nat := 0x2005
/-- SESS_ID (R275). -/
def Obj.sessId : Nat := 0x2006
/-- SESS_ROLE (R275). -/
def Obj.sessRole : Nat := 0x2007
/-- SESS_PRIO (R275). -/
def Obj.sessPrio : Nat := 0x2008
/-- SESS_TRANSPORT (R275). -/
def Obj.sessTransport : Nat := 0x2009
/-- SESS_KICK (R275). -/
def Obj.sessKick : Nat := 0x200A
/-- URSIN_TAG_FAIL_HEM (R275). -/
def Obj.ursinTagFailHem : Nat := 0x200B
/-- URSIN_DROP_HEM (R275). -/
def Obj.ursinDropHem : Nat := 0x200C
/-- URSIN_SEQ_OLD_HEM (R275). -/
def Obj.ursinSeqOldHem : Nat := 0x200D
/-- SESS_TIMEOUT_HEM (R275). -/
def Obj.sessTimeoutHem : Nat := 0x200E
/-- HANDSHAKE_FAIL_HEM (R275). -/
def Obj.handshakeFailHem : Nat := 0x200F
/-- URSIN_CNT_OVF (R275). -/
def Obj.ursinCntOvf : Nat := 0x2010
/-- TACK_USED (R275). -/
def Obj.tackUsed : Nat := 0x2100
/-- TACK_BROKEN_HEM (R275). -/
def Obj.tackBrokenHem : Nat := 0x2101
/-- CC_TACK_FIRST0 (R275). -/
def Obj.ccTackFirst0 : Nat := 0x2110
/-- CC_TACK_LAST0 (R275). -/
def Obj.ccTackLast0 : Nat := 0x2114
/-- CC_TACK_GO0 (R275). -/
def Obj.ccTackGo0 : Nat := 0x2118
/-- UNIV_CFG0 (R296). -/
def Obj.univCfg0 : Nat := 0x9000
/-- UNIV_BASE (R296). -/
def Obj.univBase : Nat := 0x9020
/-- SACN_CID (R296). -/
def Obj.sacnCid : Nat := 0x9021
/-- SACN_NAME (R296). -/
def Obj.sacnName : Nat := 0x9022
/-- SACN_TX_PRIO (R296). -/
def Obj.sacnTxPrio : Nat := 0x9023
/-- SACN_TX_HZ (R296). -/
def Obj.sacnTxHz : Nat := 0x9024
/-- SACN_SYNC_ADDR (R296). -/
def Obj.sacnSyncAddr : Nat := 0x9025
/-- SACN_TX_PORTS (R296). -/
def Obj.sacnTxPorts : Nat := 0x9026
/-- SACN_RX_USED (R296). -/
def Obj.sacnRxUsed : Nat := 0x9027
/-- SACN_TX_USED (R296). -/
def Obj.sacnTxUsed : Nat := 0x9028
/-- SLOT_SRC_USED (R296). -/
def Obj.slotSrcUsed : Nat := 0x9029
/-- SACN_RX_PKT_HEM (R296). -/
def Obj.sacnRxPktHem : Nat := 0x9030
/-- SACN_IGNORED_HEM (R296). -/
def Obj.sacnIgnoredHem : Nat := 0x9031
/-- SACN_UNMATCHED_HEM (R296). -/
def Obj.sacnUnmatchedHem : Nat := 0x9032
/-- SACN_SEQ_HEM (R296). -/
def Obj.sacnSeqHem : Nat := 0x9033
/-- SACN_SRC_FULL_HEM (R296). -/
def Obj.sacnSrcFullHem : Nat := 0x9034
/-- SACN_REFUSED_HEM (R296). -/
def Obj.sacnRefusedHem : Nat := 0x9035
/-- SACN_RX_DROP_HEM (R296). -/
def Obj.sacnRxDropHem : Nat := 0x9036
/-- SACN_SYNC_LOST_HEM (R296). -/
def Obj.sacnSyncLostHem : Nat := 0x9037
/-- SACN_TX_PKT_HEM (R296). -/
def Obj.sacnTxPktHem : Nat := 0x9038
/-- SACN_TX_LATE_HEM (R296). -/
def Obj.sacnTxLateHem : Nat := 0x9039
/-- DMX_CFG (R296). -/
def Obj.dmxCfg : Nat := 0x9100
/-- DMX_TIMING (R296). -/
def Obj.dmxTiming : Nat := 0x9101
/-- DMX_UNIV (R296). -/
def Obj.dmxUniv : Nat := 0x9102
/-- DMX_STATE (R296). -/
def Obj.dmxState : Nat := 0x9103
/-- DMX_SAFE_LOOK0 (R296). -/
def Obj.dmxSafeLook0 : Nat := 0x9110
/-- DMX_FRAME_HEM (R296). -/
def Obj.dmxFrameHem : Nat := 0x9120
/-- DMX_SKIP_HEM (R296). -/
def Obj.dmxSkipHem : Nat := 0x9121
/-- DMX_FRAMING_HEM (R296). -/
def Obj.dmxFramingHem : Nat := 0x9122
/-- DMX_BREAK_HEM (R296). -/
def Obj.dmxBreakHem : Nat := 0x9123
/-- RDM_SRC_UID (R296). -/
def Obj.rdmSrcUid : Nat := 0x9200
/-- RDM_DISCOVER (R296). -/
def Obj.rdmDiscover : Nat := 0x9201
/-- RDM_DISC_STATE (R296). -/
def Obj.rdmDiscState : Nat := 0x9202
/-- RDM_KNOWN (R296). -/
def Obj.rdmKnown : Nat := 0x9203
/-- RDM_STRANGERS (R296). -/
def Obj.rdmStrangers : Nat := 0x9204
/-- RDM_UIDS0 (R296). -/
def Obj.rdmUids0 : Nat := 0x9210
/-- RDM_CMD0 (R296). -/
def Obj.rdmCmd0 : Nat := 0x9220
/-- RDM_RESP0 (R296). -/
def Obj.rdmResp0 : Nat := 0x9228
/-- RDM_TIMEOUT_HEM (R296). -/
def Obj.rdmTimeoutHem : Nat := 0x9230
/-- RDM_CSUM_HEM (R296). -/
def Obj.rdmCsumHem : Nat := 0x9231
/-- RDM_COLLIDE_HEM (R296). -/
def Obj.rdmCollideHem : Nat := 0x9232
/-- T1S_CFG (R296). -/
def Obj.t1sCfg : Nat := 0x9300
/-- T1S_MAC (R296). -/
def Obj.t1sMac : Nat := 0x9301
/-- T1S_IP (R296). -/
def Obj.t1sIp : Nat := 0x9302
/-- T1S_MASK (R296). -/
def Obj.t1sMask : Nat := 0x9303
/-- T1S_STATE (R296). -/
def Obj.t1sState : Nat := 0x9304
/-- T1S_TX_UNIV (R296). -/
def Obj.t1sTxUniv : Nat := 0x9305
/-- T1S_COLL_HEM (R296). -/
def Obj.t1sCollHem : Nat := 0x9310
/-- T1S_BEACON_LOSS_HEM (R296). -/
def Obj.t1sBeaconLossHem : Nat := 0x9311
/-- T1S_JABBER_HEM (R296). -/
def Obj.t1sJabberHem : Nat := 0x9312
/-- T1S_SYMBOL_HEM (R296). -/
def Obj.t1sSymbolHem : Nat := 0x9313
/-- T1S_FCS_HEM (R296). -/
def Obj.t1sFcsHem : Nat := 0x9314
/-- T1S_TX_DROP_HEM (R296). -/
def Obj.t1sTxDropHem : Nat := 0x9315
/-- OSC_UDP (R296). -/
def Obj.oscUdp : Nat := 0x9400
/-- OSC_PEERS (R296). -/
def Obj.oscPeers : Nat := 0x9401
/-- OSC_ROLE (R296). -/
def Obj.oscRole : Nat := 0x9402
/-- OSC_PRIO (R296). -/
def Obj.oscPrio : Nat := 0x9403
/-- OSC_INTERVAL (R296). -/
def Obj.oscInterval : Nat := 0x9404
/-- OSC_MAP_SEL (R296). -/
def Obj.oscMapSel : Nat := 0x9405
/-- OSC_MAP_ENTRY (R296). -/
def Obj.oscMapEntry : Nat := 0x9406
/-- OSC_MAP_USED (R296). -/
def Obj.oscMapUsed : Nat := 0x9407
/-- OSC_RX_HEM (R296). -/
def Obj.oscRxHem : Nat := 0x9410
/-- OSC_UNMATCHED_HEM (R296). -/
def Obj.oscUnmatchedHem : Nat := 0x9411
/-- OSC_STRANGER_HEM (R296). -/
def Obj.oscStrangerHem : Nat := 0x9412
/-- OSC_REFUSED_HEM (R296). -/
def Obj.oscRefusedHem : Nat := 0x9413
/-- OSC_TX_HEM (R296). -/
def Obj.oscTxHem : Nat := 0x9414
/-- VENUE_CNT_OVF (R296). -/
def Obj.venueCntOvf : Nat := 0x9500
/-- SER_STATUS (R310). -/
def Obj.serStatus : Nat := 0xA000
/-- SER_M_DIV (R310). -/
def Obj.serMDiv : Nat := 0xA001
/-- SER_M_GO (R310). -/
def Obj.serMGo : Nat := 0xA002
/-- SER_M_STATUS (R310). -/
def Obj.serMStatus : Nat := 0xA003
/-- SER_MODE_FAULT_HEM (R310). -/
def Obj.serModeFaultHem : Nat := 0xA004
/-- SER_FRAME_ERR_HEM (R310). -/
def Obj.serFrameErrHem : Nat := 0xA005
/-- SER_ABORT_HEM (R310). -/
def Obj.serAbortHem : Nat := 0xA006
/-- SER_CNT_OVF (R310). -/
def Obj.serCntOvf : Nat := 0xA007
/-- DMA_DESC (R310). -/
def Obj.dmaDesc : Nat := 0xA100
/-- DMA_GO (R310). -/
def Obj.dmaGo : Nat := 0xA101
/-- DMA_STOP (R310). -/
def Obj.dmaStop : Nat := 0xA102
/-- DMA_CORE (R310). -/
def Obj.dmaCore : Nat := 0xA103
/-- DMA_STATE (R310). -/
def Obj.dmaState : Nat := 0xA104
/-- DMA_CUR (R310). -/
def Obj.dmaCur : Nat := 0xA105
/-- DMA_ERR_HEM (R310). -/
def Obj.dmaErrHem : Nat := 0xA106
/-- DMA_CNT_OVF (R310). -/
def Obj.dmaCntOvf : Nat := 0xA107
/-- CORE_RELEASE (R333). -/
def Obj.coreRelease : Nat := 0x50
/-- CORE_ENTRY (R333). -/
def Obj.coreEntry : Nat := 0x51
/-- BOOT_STATE (R333). -/
def Obj.bootState : Nat := 0x1000
/-- IMAGE_VERIFIED (R333). -/
def Obj.imageVerified : Nat := 0x1001
/-- BOOT_SLOT (R333). -/
def Obj.bootSlot : Nat := 0x1002
/-- BOOT_KIND (R333). -/
def Obj.bootKind : Nat := 0x1003
/-- SLOT_STATE (R333). -/
def Obj.slotState : Nat := 0x1004
/-- SLOT_SEQ (R333). -/
def Obj.slotSeq : Nat := 0x1005
/-- SLOT_TRIES (R333). -/
def Obj.slotTries : Nat := 0x1006
/-- BOOT_REJECT (R333). -/
def Obj.bootReject : Nat := 0x1007
/-- TIE (R333). -/
def Obj.tie : Nat := 0x1008
/-- IMAGE_ID (R333). -/
def Obj.imageId : Nat := 0x1009
/-- IMAGE_SEC_VERSION (R333). -/
def Obj.imageSecVersion : Nat := 0x100A
/-- CHUNKS_VERIFIED (R333). -/
def Obj.chunksVerified : Nat := 0x100B
/-- TRIAL_LEFT (R333). -/
def Obj.trialLeft : Nat := 0x100C
/-- ACCEPT (R333). -/
def Obj.accept : Nat := 0x100D
/-- BOOT_COPY_BASE (R333). -/
def Obj.bootCopyBase : Nat := 0x100E
/-- ROOT_LOCKED (R333). -/
def Obj.rootLocked : Nat := 0x100F
/-- ROLLBACK_COUNT (R333). -/
def Obj.rollbackCount : Nat := 0x1010
/-- KEY_REVOKED (R333). -/
def Obj.keyRevoked : Nat := 0x1011
/-- KEY_REVOKE (R333). -/
def Obj.keyRevoke : Nat := 0x1012
/-- BOOT_FALLBACK_LIFE (R333). -/
def Obj.bootFallbackLife : Nat := 0x1013
/-- MEAS_0 (R333). -/
def Obj.meas0 : Nat := 0x1020
/-- MEAS_EXT_WORD0 (R333). -/
def Obj.measExtWord0 : Nat := 0x1028
/-- MEAS_EXT_GO (R333). -/
def Obj.measExtGo : Nat := 0x102E
/-- UPD_CMD (R333). -/
def Obj.updCmd : Nat := 0x1030
/-- UPD_OFFSET (R333). -/
def Obj.updOffset : Nat := 0x1031
/-- UPD_DATA (R333). -/
def Obj.updData : Nat := 0x1032
/-- UPD_STATUS (R333). -/
def Obj.updStatus : Nat := 0x1033
/-- SAFE_STAGE_OFFSET (R333). -/
def Obj.safeStageOffset : Nat := 0x1040
/-- SAFE_STAGE_DATA (R333). -/
def Obj.safeStageData : Nat := 0x1041
/-- SAFE_WRITE (R333). -/
def Obj.safeWrite : Nat := 0x1042
/-- SAFE_STATE (R333). -/
def Obj.safeState : Nat := 0x1043
/-- SAFE_SEQ (R333). -/
def Obj.safeSeq : Nat := 0x1044
/-- SAFE_COPY (R333). -/
def Obj.safeCopy : Nat := 0x1045
/-- LIFECYCLE (R357). -/
def Obj.lifecycle : Nat := 0x200
/-- LC_ADVANCE (R357). -/
def Obj.lcAdvance : Nat := 0x201
/-- OWNER_KEY_HASH (R357). -/
def Obj.ownerKeyHash : Nat := 0x202
/-- VENDOR_KEY_HASH (R357). -/
def Obj.vendorKeyHash : Nat := 0x203
/-- KEY_SLOT_STATE (R357). -/
def Obj.keySlotState : Nat := 0x204
/-- POWER_STATE (R357). -/
def Obj.powerState : Nat := 0x210
/-- POWER_CMD (R357). -/
def Obj.powerCmd : Nat := 0x211
/-- RESET_CAUSE (R357). -/
def Obj.resetCause : Nat := 0x212
/-- RESET_CMD (R357). -/
def Obj.resetCmd : Nat := 0x213
/-- CC_RESET (R357). -/
def Obj.ccReset : Nat := 0x214
/-- WAKE_CFG (R357). -/
def Obj.wakeCfg : Nat := 0x215
/-- WAKE_SOURCE (R357). -/
def Obj.wakeSource : Nat := 0x216
/-- RTC_NOW (R357). -/
def Obj.rtcNow : Nat := 0x217
/-- RTC_ALARM (R357). -/
def Obj.rtcAlarm : Nat := 0x218
/-- PLEAT_POWER (R357). -/
def Obj.pleatPower : Nat := 0x219
/-- WAKE_QUEUED_HEM (R357). -/
def Obj.wakeQueuedHem : Nat := 0x21A
/-- WAKE_WAIT_MAX (R357). -/
def Obj.wakeWaitMax : Nat := 0x21B
/-- PWR_CNT_OVF (R357). -/
def Obj.pwrCntOvf : Nat := 0x21C
/-- THM_OP0 (R357). -/
def Obj.thmOp0 : Nat := 0x220
/-- THM_STATUS0 (R357). -/
def Obj.thmStatus0 : Nat := 0x224
/-- TEST_CMD (R357). -/
def Obj.testCmd : Nat := 0x230
/-- TEST_STATE (R357). -/
def Obj.testState : Nat := 0x231
/-- TEST_FROM (R357). -/
def Obj.testFrom : Nat := 0x232
/-- TEST_RESULT (R357). -/
def Obj.testResult : Nat := 0x233
/-- DEBUG_LEVEL (R357). -/
def Obj.debugLevel : Nat := 0x2180
/-- DEBUG_OPEN (R357). -/
def Obj.debugOpen : Nat := 0x2181
/-- DBG_ROLE (R357). -/
def Obj.dbgRole : Nat := 0x2182
/-- DBG_FAIL_HEM (R357). -/
def Obj.dbgFailHem : Nat := 0x2183
/-- DBG_DENIED_HEM (R357). -/
def Obj.dbgDeniedHem : Nat := 0x2184
/-- DBG_CNT_OVF (R357). -/
def Obj.dbgCntOvf : Nat := 0x2185
/-- NDL_XY_PARITY_HEM (R372). -/
def Obj.ndlXyParityHem : Nat := 0xC030
/-- NDL_PROG_PARITY_HEM (R372). -/
def Obj.ndlProgParityHem : Nat := 0xC031
/-- NDL_SEAM_PARITY_HEM (R372). -/
def Obj.ndlSeamParityHem : Nat := 0xC032
/-- NDL_XY_LOST_HEM (R372). -/
def Obj.ndlXyLostHem : Nat := 0xC033
/-- NDL_PAR_OVF (R372). -/
def Obj.ndlParOvf : Nat := 0xC034
/-- HEM_SECONDS (R372). -/
def Obj.hemSeconds : Nat := 0x11000
/-- HEM_SEQ (R372). -/
def Obj.hemSeq : Nat := 0x11001
/-- HEM_START (R372). -/
def Obj.hemStart : Nat := 0x11002
/-- HEM_SNAP_SEQ (R372). -/
def Obj.hemSnapSeq : Nat := 0x11003
/-- HEM_SNAP_STITCH (R372). -/
def Obj.hemSnapStitch : Nat := 0x11004
/-- EVT_HEAD (R372). -/
def Obj.evtHead : Nat := 0x11010
/-- EVT_SUPPRESSED_HEM (R372). -/
def Obj.evtSuppressedHem : Nat := 0x11011
/-- INTEG_CNT_OVF (R372). -/
def Obj.integCntOvf : Nat := 0x11012
/-- EVT_SUPPRESSED_SNAP (R372). -/
def Obj.evtSuppressedSnap : Nat := 0x11013
/-- INTEG_CNT_OVF_SNAP (R372). -/
def Obj.integCntOvfSnap : Nat := 0x11014
/-- EVT_ENTRY0 (R372). -/
def Obj.evtEntry0 : Nat := 0x11800
/-- STRAP_STATE (R393). -/
def Obj.strapState : Nat := 0x300
/-- TJ_PLEAT (R393). -/
def Obj.tjPleat : Nat := 0x301
/-- TJ_DRAM (R393). -/
def Obj.tjDram : Nat := 0x302
/-- TJ_MAX_HEM (R393). -/
def Obj.tjMaxHem : Nat := 0x303
/-- TJ_WARN (R393). -/
def Obj.tjWarn : Nat := 0x304
/-- IRQ_MASK (R393). -/
def Obj.irqMask : Nat := 0x305
/-- IRQ_STATUS (R393). -/
def Obj.irqStatus : Nat := 0x306
/-- GPIO_DIR (R393). -/
def Obj.gpioDir : Nat := 0x307
/-- GPIO_OUT (R393). -/
def Obj.gpioOut : Nat := 0x308
/-- GPIO_IN (R393). -/
def Obj.gpioIn : Nat := 0x309
/-- THERM_LATCH (R393). -/
def Obj.thermLatch : Nat := 0x30A

/-- Rows of the objects in #0000000–#0000FFF, part 1. -/
def descs0a : List Desc :=
  [⟨0x0, 0x0, .u32, false, 1, 0x1F, 0x0, false, false, false, false, false, .plain, 38464⟩,
   ⟨0x1, 0x1, .u8, false, 1, 0x1F, 0x0, false, false, false, false, false, .plain, 176⟩,
   ⟨0x2, 0x2, .u8, false, 1, 0x1F, 0x0, false, false, false, false, false, .plain, 0⟩,
   ⟨0x3, 0x3, .u8, false, 1, 0x1F, 0x0, false, false, false, false, false, .plain, 0⟩,
   ⟨0x10, 0x10, .u8, false, 1, 0x1F, 0x0, false, false, false, false, false, .plain, 1⟩,
   ⟨0x40, 0x40, .u16, false, 1, 0x1C, 0x0, false, false, false, false, false, .plain, 0⟩,
   ⟨0x41, 0x41, .u16, false, 1, 0x1C, 0x0, false, false, false, false, false, .plain, 0⟩,
   ⟨0x42, 0x42, .u16, false, 1, 0x1C, 0x0, false, false, false, false, false, .plain, 0⟩,
   ⟨0x43, 0x43, .u16, false, 1, 0x1C, 0x0, false, false, false, false, false, .plain, 0⟩,
   ⟨0x44, 0x47, .u64, false, 1, 0x8, 0x8, true, true, false, false, false, .plain, 0⟩,
   ⟨0x100, 0x100, .u8, false, 1, 0x1F, 0x0, false, false, false, false, false, .plain, 1⟩,
   ⟨0x101, 0x101, .u64, false, 1, 0x1F, 0x0, false, false, false, false, false, .plain, 0⟩,
   ⟨0x102, 0x102, .u16, false, 1, 0x1F, 0x0, false, false, false, false, false, .plain, 41026⟩,
   ⟨0x103, 0x103, .u64, false, 1, 0x1F, 0x0, false, false, false, false, false, .plain, 0⟩,
   ⟨0x104, 0x104, .time, false, 1, 0x1F, 0x0, false, false, false, false, false, .plain, 0⟩,
   ⟨0x105, 0x105, .i16, false, 1, 0x1F, 0x0, false, false, false, false, false, .plain, 32767⟩,
   ⟨0x106, 0x106, .i16, true, 16, 0x1F, 0x0, false, false, false, false, false, .plain, 32767⟩,
   ⟨0x107, 0x107, .u16, false, 1, 0x1F, 0x0, false, false, false, false, false, .plain, 800⟩,
   ⟨0x108, 0x108, .u16, false, 1, 0x1F, 0x18, false, false, true, false, false, .plain, 600⟩,
   ⟨0x109, 0x109, .u16, false, 1, 0x1F, 0x18, false, false, true, false, false, .plain, 850⟩,
   ⟨0x10A, 0x10A, .u16, false, 1, 0x1F, 0x0, false, false, false, false, false, .plain, 800⟩,
   ⟨0x10B, 0x10B, .u16, false, 1, 0x1F, 0x18, false, false, true, false, false, .plain, 100⟩,
   ⟨0x10C, 0x10C, .u16, false, 1, 0x1F, 0x18, false, false, true, false, false, .plain, 40⟩,
   ⟨0x10D, 0x10D, .u32, false, 1, 0x1F, 0x18, false, false, false, false, false, .plain, 0⟩,
   ⟨0x10E, 0x10E, .u32, false, 1, 0x1F, 0x0, false, false, false, false, false, .count, 0⟩,
   ⟨0x10F, 0x10F, .u32, false, 1, 0x1F, 0x0, false, false, false, false, false, .count, 0⟩,
   ⟨0x110, 0x110, .u32, false, 1, 0x1F, 0x0, false, false, false, false, false, .count, 0⟩,
   ⟨0x111, 0x111, .u32, false, 1, 0x1F, 0x0, false, false, false, false, false, .count, 0⟩,
   ⟨0x112, 0x112, .u64, false, 1, 0x1F, 0x0, false, false, false, false, false, .life, 0⟩,
   ⟨0x113, 0x113, .u32, true, 128, 0x1F, 0x0, false, false, false, false, false, .plain, 0⟩,
   ⟨0x114, 0x114, .bool, false, 1, 0x1F, 0x0, false, false, false, false, false, .plain, 0⟩,
   ⟨0x115, 0x115, .u32, false, 1, 0x1F, 0x0, false, false, false, false, false, .hem, 0⟩,
   ⟨0x50, 0x50, .u8, false, 1, 0x1F, 0x8, true, false, false, false, false, .plain, 0⟩,
   ⟨0x51, 0x51, .u64, true, 4, 0x8, 0x8, true, false, false, false, false, .plain, 0⟩,
   ⟨0x200, 0x200, .u8, false, 1, 0x1F, 0x0, false, false, false, false, false, .plain, 0⟩,
   ⟨0x201, 0x201, .u8, false, 1, 0x18, 0x18, false, true, false, false, false, .plain, 0⟩,
   ⟨0x202, 0x202, .blob, false, 1, 0x1F, 0x18, false, false, false, false, false, .plain, 0⟩,
   ⟨0x203, 0x203, .blob, false, 1, 0x1F, 0x0, false, false, false, false, false, .plain, 0⟩,
   ⟨0x204, 0x204, .u8, true, 8, 0x1F, 0x0, false, false, false, false, false, .plain, 0⟩,
   ⟨0x210, 0x210, .u8, false, 1, 0x1F, 0x0, false, false, false, false, false, .plain, 1⟩]

/-- Rows of the objects in #0000000–#0000FFF, part 2. -/
def descs0b : List Desc :=
  [⟨0x211, 0x211, .u8, false, 1, 0x18, 0x18, false, true, false, false, false, .plain, 0⟩,
   ⟨0x212, 0x212, .u8, false, 1, 0x1F, 0x0, false, false, false, false, false, .plain, 0⟩,
   ⟨0x213, 0x213, .u8, false, 1, 0x18, 0x18, false, true, false, false, false, .plain, 0⟩,
   ⟨0x214, 0x214, .u8, false, 1, 0x18, 0x18, false, true, false, false, false, .plain, 0⟩,
   ⟨0x215, 0x215, .u16, false, 1, 0x1F, 0x18, false, false, true, false, false, .plain, 0⟩,
   ⟨0x216, 0x216, .u8, false, 1, 0x1F, 0x0, false, false, false, false, false, .plain, 0⟩,
   ⟨0x217, 0x217, .u32, false, 1, 0x1F, 0x18, false, false, false, false, false, .plain, 0⟩,
   ⟨0x218, 0x218, .u32, false, 1, 0x1F, 0x18, false, false, false, false, false, .plain, 0⟩,
   ⟨0x219, 0x219, .u16, false, 1, 0x1F, 0x0, false, false, false, false, false, .plain, 1⟩,
   ⟨0x21A, 0x21A, .u32, false, 1, 0x1F, 0x0, false, false, false, false, false, .count, 0⟩,
   ⟨0x21B, 0x21B, .u32, false, 1, 0x1F, 0x0, false, false, false, false, false, .hem, 0⟩,
   ⟨0x21C, 0x21C, .u32, false, 1, 0x1F, 0x0, false, false, false, false, false, .hem, 0⟩,
   ⟨0x220, 0x223, .u64, false, 1, 0x8, 0x8, true, true, false, false, false, .plain, 0⟩,
   ⟨0x224, 0x227, .u8, false, 1, 0x1F, 0x0, false, false, false, false, false, .plain, 0⟩,
   ⟨0x230, 0x230, .u32, false, 1, 0x18, 0x18, false, true, false, false, false, .plain, 0⟩,
   ⟨0x231, 0x231, .u8, false, 1, 0x1F, 0x0, false, false, false, false, false, .plain, 0⟩,
   ⟨0x232, 0x232, .u8, false, 1, 0x1F, 0x0, false, false, false, false, false, .plain, 255⟩,
   ⟨0x233, 0x233, .u32, true, 5, 0x1F, 0x0, false, false, false, false, false, .plain, 0⟩,
   ⟨0x300, 0x300, .u8, false, 1, 0x1F, 0x0, false, false, false, false, false, .plain, 0⟩,
   ⟨0x301, 0x301, .i8, true, 16, 0x1F, 0x0, false, false, false, true, false, .plain, 0⟩,
   ⟨0x302, 0x302, .i8, true, 2, 0x1F, 0x0, false, false, false, true, false, .plain, 0⟩,
   ⟨0x303, 0x303, .i8, false, 1, 0x1F, 0x0, false, false, false, false, false, .hem, (-128)⟩,
   ⟨0x304, 0x304, .i8, false, 1, 0x1F, 0x18, false, false, true, false, false, .plain, 0⟩,
   ⟨0x305, 0x305, .u8, false, 1, 0x1F, 0x18, false, false, true, false, false, .plain, 0⟩,
   ⟨0x306, 0x306, .u8, false, 1, 0x1F, 0x0, false, false, false, true, false, .plain, 0⟩,
   ⟨0x307, 0x307, .u16, false, 1, 0x1F, 0x1C, false, false, true, false, false, .plain, 0⟩,
   ⟨0x308, 0x308, .u16, false, 1, 0x1F, 0x1E, false, false, true, false, false, .plain, 0⟩,
   ⟨0x309, 0x309, .u16, false, 1, 0x1F, 0x0, false, false, false, true, false, .plain, 0⟩,
   ⟨0x30A, 0x30A, .bool, false, 1, 0x1F, 0x0, false, false, false, false, false, .plain, 0⟩]

/-- Rows of the objects in #0001000–#0001FFF. -/
def descs1 : List Desc :=
  [⟨0x1000, 0x1000, .u8, false, 1, 0x1F, 0x0, false, false, false, false, false, .plain, 0⟩,
   ⟨0x1001, 0x1001, .bool, false, 1, 0x1F, 0x0, false, false, false, false, false, .plain, 0⟩,
   ⟨0x1002, 0x1002, .u8, false, 1, 0x1F, 0x0, false, false, false, false, false, .plain, 255⟩,
   ⟨0x1003, 0x1003, .u8, false, 1, 0x1F, 0x0, false, false, false, false, false, .plain, 255⟩,
   ⟨0x1004, 0x1004, .u8, true, 2, 0x1F, 0x0, false, false, false, false, false, .plain, 0⟩,
   ⟨0x1005, 0x1005, .u32, true, 2, 0x1F, 0x0, false, false, false, false, false, .plain, 0⟩,
   ⟨0x1006, 0x1006, .u8, true, 2, 0x1F, 0x0, false, false, false, false, false, .plain, 0⟩,
   ⟨0x1007, 0x1007, .u8, true, 2, 0x1F, 0x0, false, false, false, false, false, .plain, 0⟩,
   ⟨0x1008, 0x1008, .bool, false, 1, 0x1F, 0x0, false, false, false, false, false, .plain, 0⟩,
   ⟨0x1009, 0x1009, .u32, false, 1, 0x1F, 0x0, false, false, false, false, false, .plain, 0⟩,
   ⟨0x100A, 0x100A, .u16, false, 1, 0x1F, 0x0, false, false, false, false, false, .plain, 0⟩,
   ⟨0x100B, 0x100B, .u16, false, 1, 0x1F, 0x0, false, false, false, false, false, .plain, 0⟩,
   ⟨0x100C, 0x100C, .u32, false, 1, 0x1F, 0x0, false, false, false, false, false, .plain, 0⟩,
   ⟨0x100D, 0x100D, .u8, false, 1, 0x18, 0x18, false, true, false, false, false, .plain, 0⟩,
   ⟨0x100E, 0x100E, .u64, false, 1, 0x1F, 0x0, false, false, false, false, false, .plain, 0⟩,
   ⟨0x100F, 0x100F, .bool, false, 1, 0x1F, 0x0, false, false, false, false, false, .plain, 0⟩,
   ⟨0x1010, 0x1010, .u16, false, 1, 0x1F, 0x0, false, false, false, false, false, .plain, 0⟩,
   ⟨0x1011, 0x1011, .u8, true, 2, 0x1F, 0x0, false, false, false, false, false, .plain, 0⟩,
   ⟨0x1012, 0x1012, .u8, false, 1, 0x18, 0x18, false, true, false, false, false, .plain, 0⟩,
   ⟨0x1013, 0x1013, .u64, false, 1, 0x1F, 0x0, false, false, false, false, false, .life, 0⟩,
   ⟨0x1020, 0x1027, .blob, false, 1, 0x1F, 0x0, false, false, false, false, false, .plain, 0⟩,
   ⟨0x1028, 0x102D, .u64, false, 1, 0x8, 0x8, false, false, false, false, false, .plain, 0⟩,
   ⟨0x102E, 0x102E, .u8, false, 1, 0x8, 0x8, false, true, false, false, false, .plain, 0⟩,
   ⟨0x1030, 0x1030, .u8, false, 1, 0x18, 0x18, false, true, false, false, false, .plain, 0⟩,
   ⟨0x1031, 0x1031, .u32, false, 1, 0x18, 0x18, false, false, false, false, false, .plain, 0⟩,
   ⟨0x1032, 0x1032, .blob, false, 1, 0x1F, 0x18, false, false, false, false, false, .plain, 0⟩,
   ⟨0x1033, 0x1033, .u16, false, 1, 0x1F, 0x0, false, false, false, false, false, .plain, 0⟩,
   ⟨0x1040, 0x1040, .u32, false, 1, 0x18, 0x18, false, false, false, false, false, .plain, 0⟩,
   ⟨0x1041, 0x1041, .blob, false, 1, 0x1F, 0x18, false, false, false, false, false, .plain, 0⟩,
   ⟨0x1042, 0x1042, .u8, false, 1, 0x18, 0x18, false, true, false, false, false, .plain, 0⟩,
   ⟨0x1043, 0x1043, .u8, false, 1, 0x1F, 0x0, false, false, false, false, false, .plain, 0⟩,
   ⟨0x1044, 0x1044, .u32, false, 1, 0x1F, 0x0, false, false, false, false, false, .plain, 0⟩,
   ⟨0x1045, 0x1045, .u8, false, 1, 0x1F, 0x0, false, false, false, false, false, .plain, 255⟩]

/-- Rows of the objects in #0002000–#0002FFF, part 1. -/
def descs2a : List Desc :=
  [⟨0x2800, 0x2800, .u32, false, 1, 0x1F, 0x0, false, false, false, false, false, .count, 0⟩,
   ⟨0x2801, 0x2801, .u32, false, 1, 0x1F, 0x0, false, false, false, false, false, .count, 0⟩,
   ⟨0x2802, 0x2802, .u32, false, 1, 0x1F, 0x0, false, false, false, false, false, .hem, 0⟩,
   ⟨0x2803, 0x2803, .u32, false, 1, 0x1F, 0x0, false, false, false, false, false, .count, 0⟩,
   ⟨0x2804, 0x2804, .u32, false, 1, 0x1F, 0x0, false, false, false, false, false, .count, 0⟩,
   ⟨0x2805, 0x2805, .u32, false, 1, 0x1F, 0x0, false, false, false, false, false, .count, 0⟩,
   ⟨0x2806, 0x2806, .u32, false, 1, 0x1F, 0x0, false, false, false, false, false, .plain, 1007616⟩,
   ⟨0x2807, 0x2807, .u32, false, 1, 0x1F, 0x0, false, false, false, false, false, .plain, 0⟩,
   ⟨0x2808, 0x2808, .u32, false, 1, 0x1F, 0x0, false, false, false, false, false, .plain, 0⟩,
   ⟨0x2809, 0x2809, .u8, false, 1, 0x1F, 0x0, false, false, false, false, false, .plain, 0⟩,
   ⟨0x280A, 0x280A, .u32, false, 1, 0x1F, 0x0, false, false, false, false, false, .plain, 0⟩,
   ⟨0x280B, 0x280B, .u32, false, 1, 0x1F, 0x0, false, false, false, false, false, .count, 0⟩,
   ⟨0x280C, 0x280C, .u32, true, 4, 0x1F, 0x0, false, false, false, false, false, .count, 0⟩,
   ⟨0x280D, 0x280D, .u32, false, 1, 0x1F, 0x0, false, false, false, false, false, .hem, 0⟩,
   ⟨0x2810, 0x2813, .u8, false, 1, 0x1F, 0x18, false, false, true, false, false, .plain, 100⟩,
   ⟨0x2814, 0x2817, .u64, false, 1, 0x8, 0x8, true, true, false, false, false, .plain, 0⟩,
   ⟨0x2818, 0x281B, .u64, false, 1, 0x18, 0x18, false, false, false, false, false, .plain, 0⟩,
   ⟨0x281C, 0x281F, .u32, false, 1, 0x18, 0x18, false, false, false, false, false, .plain, 64⟩,
   ⟨0x2820, 0x2823, .u32, false, 1, 0x1F, 0x0, false, false, false, false, false, .plain, 0⟩,
   ⟨0x2824, 0x2827, .u32, false, 1, 0x18, 0x18, false, false, false, false, false, .plain, 0⟩,
   ⟨0x2000, 0x2000, .u32, false, 1, 0x1F, 0x18, false, false, true, false, false, .plain, 10000⟩,
   ⟨0x2001, 0x2001, .u8, false, 1, 0x1F, 0x18, false, false, true, false, false, .plain, 0⟩,
   ⟨0x2002, 0x2002, .u8, true, 5, 0x1F, 0x18, false, false, true, false, false, .plain, 0⟩,
   ⟨0x2003, 0x2003, .blob, false, 1, 0x1F, 0x18, false, false, true, false, false, .plain, 0⟩,
   ⟨0x2004, 0x2004, .blob, false, 1, 0x1F, 0x0, false, false, false, false, false, .plain, 0⟩,
   ⟨0x2005, 0x2005, .u16, false, 1, 0x1F, 0x0, false, false, false, false, false, .plain, 0⟩,
   ⟨0x2006, 0x2006, .u32, true, 256, 0x18, 0x0, false, false, false, false, false, .plain, 0⟩,
   ⟨0x2007, 0x2007, .u8, true, 256, 0x18, 0x0, false, false, false, false, false, .plain, 255⟩,
   ⟨0x2008, 0x2008, .u8, true, 256, 0x18, 0x0, false, false, false, false, false, .plain, 0⟩,
   ⟨0x2009, 0x2009, .u8, true, 256, 0x18, 0x0, false, false, false, false, false, .plain, 255⟩,
   ⟨0x200A, 0x200A, .u32, false, 1, 0x18, 0x18, false, true, false, false, false, .plain, 0⟩,
   ⟨0x200B, 0x200B, .u32, false, 1, 0x1F, 0x0, false, false, false, false, false, .count, 0⟩,
   ⟨0x200C, 0x200C, .u32, false, 1, 0x1F, 0x0, false, false, false, false, false, .count, 0⟩,
   ⟨0x200D, 0x200D, .u32, false, 1, 0x1F, 0x0, false, false, false, false, false, .count, 0⟩,
   ⟨0x200E, 0x200E, .u32, false, 1, 0x1F, 0x0, false, false, false, false, false, .count, 0⟩,
   ⟨0x200F, 0x200F, .u32, false, 1, 0x1F, 0x0, false, false, false, false, false, .count, 0⟩,
   ⟨0x2010, 0x2010, .u32, false, 1, 0x1F, 0x0, false, false, false, false, false, .hem, 0⟩,
   ⟨0x2100, 0x2100, .u16, false, 1, 0x1F, 0x0, false, false, false, false, false, .plain, 0⟩,
   ⟨0x2101, 0x2101, .u32, false, 1, 0x1F, 0x0, false, false, false, false, false, .count, 0⟩,
   ⟨0x2110, 0x2113, .u32, false, 1, 0x18, 0x18, false, false, false, false, false, .plain, 0⟩]

/-- Rows of the objects in #0002000–#0002FFF, part 2. -/
def descs2b : List Desc :=
  [⟨0x2114, 0x2117, .u32, false, 1, 0x18, 0x18, false, false, false, false, false, .plain, 0⟩,
   ⟨0x2118, 0x211B, .u32, false, 1, 0x8, 0x8, true, true, false, false, false, .plain, 0⟩,
   ⟨0x2180, 0x2180, .u8, false, 1, 0x1F, 0x0, false, false, false, false, false, .plain, 0⟩,
   ⟨0x2181, 0x2181, .bool, false, 1, 0x1F, 0x18, false, false, false, false, false, .plain, 0⟩,
   ⟨0x2182, 0x2182, .u8, false, 1, 0x1F, 0x0, false, false, false, false, false, .plain, 255⟩,
   ⟨0x2183, 0x2183, .u32, false, 1, 0x1F, 0x0, false, false, false, false, false, .count, 0⟩,
   ⟨0x2184, 0x2184, .u32, false, 1, 0x1F, 0x0, false, false, false, false, false, .count, 0⟩,
   ⟨0x2185, 0x2185, .u32, false, 1, 0x1F, 0x0, false, false, false, false, false, .hem, 0⟩]

/-- Rows of the objects in #0003000–#0003FFF. -/
def descs3 : List Desc :=
  [⟨0x3000, 0x3000, .u8, false, 1, 0x1F, 0x0, false, false, false, false, false, .plain, 0⟩,
   ⟨0x3001, 0x3001, .time, false, 1, 0x1F, 0x0, false, false, false, false, false, .plain, 0⟩,
   ⟨0x3002, 0x3002, .i32, false, 1, 0x1F, 0x0, false, false, false, false, false, .plain, 0⟩,
   ⟨0x3003, 0x3003, .i32, false, 1, 0x1F, 0x0, false, false, false, false, false, .plain, 0⟩,
   ⟨0x3004, 0x3004, .u32, false, 1, 0x1F, 0x0, false, false, false, false, false, .plain, 0⟩,
   ⟨0x3005, 0x3005, .u8, false, 1, 0x1F, 0x18, false, false, true, false, false, .plain, 0⟩,
   ⟨0x3006, 0x3006, .u8, false, 1, 0x1F, 0x0, false, false, false, false, false, .plain, 1⟩,
   ⟨0x3007, 0x3007, .u8, false, 1, 0x1F, 0x18, false, false, true, false, false, .plain, 0⟩,
   ⟨0x3008, 0x3008, .u8, false, 1, 0x1F, 0x18, false, false, true, false, false, .plain, 0⟩,
   ⟨0x3009, 0x3009, .i8, true, 3, 0x1F, 0x18, false, false, true, false, false, .plain, 0⟩,
   ⟨0x300A, 0x300A, .u8, false, 1, 0x1F, 0x18, false, false, true, false, false, .plain, 3⟩,
   ⟨0x300B, 0x300B, .u8, true, 2, 0x1F, 0x18, false, false, true, false, false, .plain, 0⟩,
   ⟨0x300C, 0x300C, .u8, false, 1, 0x1F, 0x18, false, false, true, false, false, .plain, 2⟩,
   ⟨0x300D, 0x300D, .u8, false, 1, 0x1F, 0x0, false, false, false, false, false, .plain, 0⟩,
   ⟨0x300E, 0x300E, .i32, true, 2, 0x1F, 0x18, false, false, true, false, false, .plain, 0⟩,
   ⟨0x300F, 0x300F, .u64, false, 1, 0x1F, 0x0, false, false, false, false, false, .plain, 0⟩,
   ⟨0x3010, 0x3010, .u8, false, 1, 0x1F, 0x0, false, false, false, false, false, .plain, 0⟩,
   ⟨0x3011, 0x3011, .u16, false, 1, 0x1F, 0x18, false, false, true, false, false, .plain, 10⟩,
   ⟨0x3012, 0x3012, .u32, false, 1, 0x1F, 0x18, false, false, true, false, false, .plain, 1000⟩,
   ⟨0x3013, 0x3013, .u32, false, 1, 0x1F, 0x18, false, false, true, false, false, .plain, 100⟩,
   ⟨0x3014, 0x3014, .u8, false, 1, 0x1F, 0x18, false, false, true, false, false, .plain, 0⟩,
   ⟨0x3015, 0x3015, .u8, false, 1, 0x1F, 0x18, false, false, true, false, false, .plain, 0⟩,
   ⟨0x3016, 0x3016, .time, false, 1, 0x18, 0x18, false, true, false, false, false, .plain, 0⟩,
   ⟨0x3017, 0x3017, .u8, false, 1, 0x1F, 0x18, false, false, false, false, false, .plain, 1⟩,
   ⟨0x3018, 0x3018, .u8, true, 2, 0x1F, 0x18, false, false, false, false, false, .plain, 0⟩,
   ⟨0x3019, 0x3019, .u32, true, 10, 0x1F, 0x1C, false, false, true, false, false, .plain, 0⟩,
   ⟨0x301A, 0x301A, .i16, true, 10, 0x1F, 0x1C, false, false, true, false, false, .plain, 0⟩,
   ⟨0x301B, 0x301B, .u8, true, 10, 0x1F, 0x0, false, false, false, false, false, .plain, 0⟩,
   ⟨0x301C, 0x301C, .u32, false, 1, 0x1F, 0x0, false, false, false, false, false, .count, 0⟩,
   ⟨0x301D, 0x301D, .u32, false, 1, 0x1F, 0x0, false, false, false, false, false, .count, 0⟩,
   ⟨0x301E, 0x301E, .u32, false, 1, 0x1F, 0x0, false, false, false, false, false, .count, 0⟩,
   ⟨0x301F, 0x301F, .u32, false, 1, 0x1F, 0x0, false, false, false, false, false, .count, 0⟩,
   ⟨0x3020, 0x3020, .u32, true, 2, 0x1F, 0x0, false, false, false, false, false, .count, 0⟩,
   ⟨0x3021, 0x3021, .u32, false, 1, 0x1F, 0x0, false, false, false, false, false, .hem, 0⟩]

/-- Rows of the objects in #0004000–#0004FFF, part 1. -/
def descs4a : List Desc :=
  [⟨0x4000, 0x4000, .u8, false, 1, 0x1F, 0x0, false, false, false, false, false, .plain, 0⟩,
   ⟨0x4001, 0x4001, .u64, false, 1, 0x1F, 0x0, false, false, false, false, false, .plain, 0⟩,
   ⟨0x4002, 0x4002, .u32, false, 1, 0x1F, 0x18, false, false, true, false, false, .plain, 0⟩,
   ⟨0x4003, 0x4003, .u32, false, 1, 0x1F, 0x18, false, false, true, false, false, .plain, 0⟩,
   ⟨0x4004, 0x4004, .u32, false, 1, 0x1F, 0x18, false, false, true, false, false, .plain, 0⟩,
   ⟨0x4005, 0x4005, .u16, false, 1, 0x1F, 0x18, false, false, true, false, false, .plain, 0⟩,
   ⟨0x4006, 0x4006, .u8, true, 3, 0x1F, 0x18, false, false, true, false, false, .plain, 0⟩,
   ⟨0x4007, 0x4007, .bool, false, 1, 0x1F, 0x1C, false, false, true, false, false, .plain, 0⟩,
   ⟨0x4010, 0x4010, .bool, true, 256, 0x1F, 0x1C, false, false, false, false, false, .plain, 0⟩,
   ⟨0x4011, 0x4011, .u32, true, 256, 0x1F, 0x1C, false, false, true, false, false, .plain, 12583625⟩,
   ⟨0x4012, 0x4012, .u32, true, 256, 0x1F, 0x1C, false, false, true, false, false, .plain, 0⟩,
   ⟨0x4013, 0x4013, .u16, true, 256, 0x1F, 0x1C, false, false, true, false, false, .plain, 5004⟩,
   ⟨0x4014, 0x4014, .u8, true, 256, 0x1F, 0x1C, false, false, true, false, false, .plain, 2⟩,
   ⟨0x4015, 0x4015, .u32, true, 256, 0x1F, 0x1C, false, false, true, false, false, .plain, 0⟩,
   ⟨0x4016, 0x4016, .u32, true, 1024, 0x1F, 0x1C, false, false, true, false, false, .plain, 0⟩,
   ⟨0x4017, 0x4017, .u8, true, 256, 0x1F, 0x0, false, false, false, false, false, .plain, 0⟩,
   ⟨0x4018, 0x4018, .u16, false, 1, 0x1C, 0x1C, false, true, false, false, false, .plain, 0⟩,
   ⟨0x4019, 0x4019, .u64, true, 256, 0x1F, 0x0, false, false, false, false, false, .plain, 18446744073709551615⟩,
   ⟨0x401A, 0x401A, .u8, true, 256, 0x1F, 0x0, false, false, false, false, false, .plain, 0⟩,
   ⟨0x4020, 0x4020, .bool, true, 256, 0x1F, 0x1C, false, false, false, false, false, .plain, 0⟩,
   ⟨0x4021, 0x4021, .u32, true, 256, 0x1F, 0x1C, false, false, true, false, false, .plain, 12583625⟩,
   ⟨0x4022, 0x4022, .u32, true, 256, 0x1F, 0x1C, false, false, true, false, false, .plain, 0⟩,
   ⟨0x4023, 0x4023, .u16, true, 256, 0x1F, 0x1C, false, false, true, false, false, .plain, 5004⟩,
   ⟨0x4024, 0x4024, .u32, true, 256, 0x1F, 0x1C, false, false, true, false, false, .plain, 0⟩,
   ⟨0x4025, 0x4025, .u32, true, 256, 0x1F, 0x1C, false, false, true, false, false, .plain, 0⟩,
   ⟨0x4026, 0x4026, .u8, true, 256, 0x1F, 0x0, false, false, false, false, false, .plain, 0⟩,
   ⟨0x4027, 0x4027, .u16, false, 1, 0x1C, 0x1C, false, true, false, false, false, .plain, 0⟩,
   ⟨0x4028, 0x4028, .u64, true, 256, 0x1F, 0x0, false, false, false, false, false, .plain, 18446744073709551615⟩,
   ⟨0x4100, 0x410F, .u16, true, 1024, 0x1F, 0x1C, false, false, true, false, false, .plain, 65535⟩,
   ⟨0x4110, 0x411F, .u16, true, 1024, 0x1F, 0x0, false, false, false, false, false, .plain, 65535⟩,
   ⟨0x4120, 0x412F, .i32, true, 1024, 0x1F, 0x1E, false, false, true, false, false, .plain, 536870912⟩,
   ⟨0x4130, 0x413F, .u16, true, 1024, 0x1F, 0x1C, false, false, true, false, false, .plain, 65535⟩,
   ⟨0x4140, 0x414F, .u16, true, 1024, 0x1F, 0x0, false, false, false, false, false, .plain, 65535⟩,
   ⟨0x4150, 0x415F, .i32, true, 1024, 0x1F, 0x1E, false, false, true, false, false, .plain, 536870912⟩,
   ⟨0x4200, 0x4200, .u32, true, 256, 0x1F, 0x0, false, false, false, false, false, .count, 0⟩,
   ⟨0x4201, 0x4201, .u32, true, 256, 0x1F, 0x0, false, false, false, false, false, .count, 0⟩,
   ⟨0x4202, 0x4202, .u32, true, 256, 0x1F, 0x0, false, false, false, false, false, .count, 0⟩,
   ⟨0x4203, 0x4203, .u32, true, 256, 0x1F, 0x0, false, false, false, false, false, .count, 0⟩,
   ⟨0x4204, 0x4204, .u32, true, 256, 0x1F, 0x0, false, false, false, false, false, .count, 0⟩,
   ⟨0x4205, 0x4205, .u32, true, 256, 0x1F, 0x0, false, false, false, false, false, .count, 0⟩]

/-- Rows of the objects in #0004000–#0004FFF, part 2. -/
def descs4b : List Desc :=
  [⟨0x4206, 0x4206, .u32, true, 256, 0x1F, 0x0, false, false, false, false, false, .count, 0⟩,
   ⟨0x4210, 0x4210, .u32, false, 1, 0x1F, 0x0, false, false, false, false, false, .count, 0⟩,
   ⟨0x4211, 0x4211, .u32, false, 1, 0x1F, 0x0, false, false, false, false, false, .count, 0⟩,
   ⟨0x4212, 0x4212, .u32, false, 1, 0x1F, 0x0, false, false, false, false, false, .count, 0⟩,
   ⟨0x4213, 0x4213, .u32, false, 1, 0x1F, 0x0, false, false, false, false, false, .count, 0⟩,
   ⟨0x4214, 0x4214, .u32, false, 1, 0x1F, 0x0, false, false, false, false, false, .count, 0⟩,
   ⟨0x4215, 0x4215, .u32, false, 1, 0x1F, 0x0, false, false, false, false, false, .count, 0⟩,
   ⟨0x4216, 0x4216, .u32, false, 1, 0x1F, 0x0, false, false, false, false, false, .count, 0⟩,
   ⟨0x4217, 0x4217, .u32, false, 1, 0x1F, 0x0, false, false, false, false, false, .count, 0⟩,
   ⟨0x4218, 0x4218, .u32, false, 1, 0x1F, 0x0, false, false, false, false, false, .count, 0⟩,
   ⟨0x4219, 0x4219, .u32, false, 1, 0x1F, 0x0, false, false, false, false, false, .count, 0⟩,
   ⟨0x421A, 0x421A, .u32, true, 16, 0x1F, 0x0, false, false, false, false, false, .plain, 0⟩,
   ⟨0x421B, 0x421B, .u32, true, 57, 0x1F, 0x0, false, false, false, false, false, .hem, 0⟩,
   ⟨0x4220, 0x4220, .u32, false, 1, 0x1F, 0x0, false, false, false, false, false, .plain, 0⟩,
   ⟨0x4221, 0x4221, .u32, false, 1, 0x1F, 0x0, false, false, false, false, false, .plain, 0⟩,
   ⟨0x4222, 0x4222, .u32, false, 1, 0x1F, 0x0, false, false, false, false, false, .plain, 0⟩,
   ⟨0x4300, 0x4300, .u32, true, 16, 0x1F, 0x1C, false, false, false, false, false, .plain, 0⟩,
   ⟨0x4301, 0x4301, .u32, true, 16, 0x1F, 0x0, false, false, false, false, false, .plain, 0⟩,
   ⟨0x4302, 0x4302, .u32, true, 16, 0x1F, 0x0, false, false, false, false, false, .hem, 4294967295⟩,
   ⟨0x4303, 0x4303, .u32, true, 16, 0x1F, 0x0, false, false, false, false, false, .hem, 0⟩,
   ⟨0x4304, 0x4304, .u32, true, 16, 0x1F, 0x0, false, false, false, false, false, .count, 0⟩,
   ⟨0x4305, 0x4305, .u32, true, 16, 0x1F, 0x0, false, false, false, false, false, .count, 0⟩,
   ⟨0x4306, 0x4306, .u32, true, 16, 0x1F, 0x0, false, false, false, false, false, .count, 0⟩,
   ⟨0x4307, 0x4307, .u64, false, 1, 0x1F, 0x0, false, false, false, false, false, .hem, 0⟩,
   ⟨0x4400, 0x4400, .q31, true, 97, 0x1F, 0x0, false, false, false, false, false, .plain, 0⟩,
   ⟨0x4401, 0x4401, .q31, true, 193, 0x1F, 0x0, false, false, false, false, false, .plain, 0⟩]

/-- Rows of the objects in #0008000–#0008FFF. -/
def descs8 : List Desc :=
  [⟨0x8000, 0x8000, .u32, true, 16, 0x1F, 0x1C, false, false, true, false, false, .plain, 0⟩,
   ⟨0x8001, 0x8001, .u8, true, 16, 0x1F, 0x0, false, false, false, false, false, .plain, 0⟩,
   ⟨0x8002, 0x8002, .u16, true, 256, 0x1F, 0x1C, false, false, true, false, false, .plain, 0⟩,
   ⟨0x8003, 0x8003, .u16, true, 256, 0x1F, 0x1C, false, false, true, false, false, .plain, 65535⟩,
   ⟨0x8004, 0x8004, .u16, true, 256, 0x1F, 0x0, false, false, false, false, false, .plain, 0⟩,
   ⟨0x8005, 0x8005, .u16, true, 256, 0x1F, 0x0, false, false, false, false, false, .plain, 65535⟩,
   ⟨0x8006, 0x8006, .u8, false, 1, 0x1C, 0x1C, false, true, false, false, false, .plain, 0⟩,
   ⟨0x8007, 0x8007, .u64, true, 16, 0x1F, 0x0, false, false, false, false, false, .plain, 18446744073709551615⟩,
   ⟨0x8008, 0x8008, .u32, true, 16, 0x1F, 0x0, false, false, false, false, false, .count, 0⟩,
   ⟨0x8009, 0x8009, .u32, true, 16, 0x1F, 0x0, false, false, false, false, false, .count, 0⟩,
   ⟨0x800A, 0x800A, .u32, true, 16, 0x1F, 0x0, false, false, false, false, false, .count, 0⟩,
   ⟨0x800B, 0x800B, .u64, false, 1, 0x1F, 0x0, false, false, false, false, false, .hem, 0⟩]

/-- Rows of the objects in #0009000–#0009FFF, part 1. -/
def descs9a : List Desc :=
  [⟨0x9000, 0x901F, .u16, true, 1024, 0x1F, 0x1C, false, false, true, false, false, .plain, 8⟩,
   ⟨0x9020, 0x9020, .u16, false, 1, 0x1F, 0x18, false, false, true, false, false, .plain, 1⟩,
   ⟨0x9021, 0x9021, .blob, false, 1, 0x1F, 0x18, false, false, true, false, false, .plain, 0⟩,
   ⟨0x9022, 0x9022, .str, false, 1, 0x1F, 0x1C, false, false, true, false, false, .plain, 0⟩,
   ⟨0x9023, 0x9023, .u8, false, 1, 0x1F, 0x1C, false, false, true, false, false, .plain, 100⟩,
   ⟨0x9024, 0x9024, .u8, false, 1, 0x1F, 0x1C, false, false, true, false, false, .plain, 44⟩,
   ⟨0x9025, 0x9025, .u16, false, 1, 0x1F, 0x1C, false, false, true, false, false, .plain, 0⟩,
   ⟨0x9026, 0x9026, .u8, false, 1, 0x1F, 0x1C, false, false, true, false, false, .plain, 1⟩,
   ⟨0x9027, 0x9027, .u16, false, 1, 0x1F, 0x0, false, false, false, false, false, .plain, 0⟩,
   ⟨0x9028, 0x9028, .u16, false, 1, 0x1F, 0x0, false, false, false, false, false, .plain, 0⟩,
   ⟨0x9029, 0x9029, .u32, false, 1, 0x1F, 0x0, false, false, false, false, false, .plain, 0⟩,
   ⟨0x9030, 0x9030, .u32, false, 1, 0x1F, 0x0, false, false, false, false, false, .count, 0⟩,
   ⟨0x9031, 0x9031, .u32, false, 1, 0x1F, 0x0, false, false, false, false, false, .count, 0⟩,
   ⟨0x9032, 0x9032, .u32, false, 1, 0x1F, 0x0, false, false, false, false, false, .count, 0⟩,
   ⟨0x9033, 0x9033, .u32, false, 1, 0x1F, 0x0, false, false, false, false, false, .count, 0⟩,
   ⟨0x9034, 0x9034, .u32, false, 1, 0x1F, 0x0, false, false, false, false, false, .count, 0⟩,
   ⟨0x9035, 0x9035, .u32, false, 1, 0x1F, 0x0, false, false, false, false, false, .count, 0⟩,
   ⟨0x9036, 0x9036, .u32, false, 1, 0x1F, 0x0, false, false, false, false, false, .count, 0⟩,
   ⟨0x9037, 0x9037, .u32, false, 1, 0x1F, 0x0, false, false, false, false, false, .count, 0⟩,
   ⟨0x9038, 0x9038, .u32, false, 1, 0x1F, 0x0, false, false, false, false, false, .count, 0⟩,
   ⟨0x9039, 0x9039, .u32, false, 1, 0x1F, 0x0, false, false, false, false, false, .count, 0⟩,
   ⟨0x9100, 0x9100, .u32, true, 8, 0x1F, 0x1C, false, false, true, false, false, .plain, 0⟩,
   ⟨0x9101, 0x9101, .u32, true, 8, 0x1F, 0x1C, false, false, true, false, false, .plain, 0⟩,
   ⟨0x9102, 0x9102, .u16, true, 8, 0x1F, 0x1C, false, false, true, false, false, .plain, 0⟩,
   ⟨0x9103, 0x9103, .u8, true, 8, 0x1F, 0x0, false, false, false, false, false, .plain, 0⟩,
   ⟨0x9110, 0x9117, .blob, false, 1, 0x1F, 0x0, false, false, false, false, false, .plain, 0⟩,
   ⟨0x9120, 0x9120, .u32, true, 8, 0x1F, 0x0, false, false, false, false, false, .count, 0⟩,
   ⟨0x9121, 0x9121, .u32, true, 8, 0x1F, 0x0, false, false, false, false, false, .count, 0⟩,
   ⟨0x9122, 0x9122, .u32, true, 8, 0x1F, 0x0, false, false, false, false, false, .count, 0⟩,
   ⟨0x9123, 0x9123, .u32, true, 8, 0x1F, 0x0, false, false, false, false, false, .count, 0⟩,
   ⟨0x9200, 0x9200, .u64, true, 8, 0x1F, 0x18, false, false, true, false, false, .plain, 0⟩,
   ⟨0x9201, 0x9201, .u8, false, 1, 0x1C, 0x1C, false, true, false, false, false, .plain, 0⟩,
   ⟨0x9202, 0x9202, .u8, true, 8, 0x1F, 0x0, false, false, false, false, false, .plain, 0⟩,
   ⟨0x9203, 0x9203, .u64, true, 1024, 0x1F, 0x1C, false, false, true, false, false, .plain, 0⟩,
   ⟨0x9204, 0x9204, .u64, true, 64, 0x1F, 0x0, false, false, false, false, false, .plain, 0⟩,
   ⟨0x9210, 0x9217, .u64, true, 256, 0x1F, 0x0, false, false, false, false, false, .plain, 0⟩,
   ⟨0x9220, 0x9227, .blob, false, 1, 0x1F, 0x1C, false, false, false, false, false, .plain, 0⟩,
   ⟨0x9228, 0x922F, .blob, false, 1, 0x1F, 0x0, false, false, false, false, false, .plain, 0⟩,
   ⟨0x9230, 0x9230, .u32, true, 8, 0x1F, 0x0, false, false, false, false, false, .count, 0⟩,
   ⟨0x9231, 0x9231, .u32, true, 8, 0x1F, 0x0, false, false, false, false, false, .count, 0⟩]

/-- Rows of the objects in #0009000–#0009FFF, part 2. -/
def descs9b : List Desc :=
  [⟨0x9232, 0x9232, .u32, true, 8, 0x1F, 0x0, false, false, false, false, false, .count, 0⟩,
   ⟨0x9300, 0x9300, .u64, true, 2, 0x1F, 0x18, false, false, true, false, false, .plain, 0⟩,
   ⟨0x9301, 0x9301, .u64, true, 2, 0x1F, 0x0, false, false, false, false, false, .plain, 0⟩,
   ⟨0x9302, 0x9302, .u32, true, 2, 0x1F, 0x18, false, false, true, false, false, .plain, 0⟩,
   ⟨0x9303, 0x9303, .u32, true, 2, 0x1F, 0x18, false, false, true, false, false, .plain, 0⟩,
   ⟨0x9304, 0x9304, .u8, true, 2, 0x1F, 0x0, false, false, false, false, false, .plain, 0⟩,
   ⟨0x9305, 0x9305, .u16, true, 32, 0x1F, 0x1C, false, false, true, false, false, .plain, 65535⟩,
   ⟨0x9310, 0x9310, .u32, true, 2, 0x1F, 0x0, false, false, false, false, false, .count, 0⟩,
   ⟨0x9311, 0x9311, .u32, true, 2, 0x1F, 0x0, false, false, false, false, false, .count, 0⟩,
   ⟨0x9312, 0x9312, .u32, true, 2, 0x1F, 0x0, false, false, false, false, false, .count, 0⟩,
   ⟨0x9313, 0x9313, .u32, true, 2, 0x1F, 0x0, false, false, false, false, false, .count, 0⟩,
   ⟨0x9314, 0x9314, .u32, true, 2, 0x1F, 0x0, false, false, false, false, false, .count, 0⟩,
   ⟨0x9315, 0x9315, .u32, true, 2, 0x1F, 0x0, false, false, false, false, false, .count, 0⟩,
   ⟨0x9400, 0x9400, .u16, false, 1, 0x1F, 0x18, false, false, true, false, false, .plain, 8000⟩,
   ⟨0x9401, 0x9401, .u64, true, 8, 0x1F, 0x18, false, false, true, false, false, .plain, 0⟩,
   ⟨0x9402, 0x9402, .u8, false, 1, 0x1F, 0x18, false, false, true, false, false, .plain, 1⟩,
   ⟨0x9403, 0x9403, .u8, false, 1, 0x1F, 0x1C, false, false, true, false, false, .plain, 100⟩,
   ⟨0x9404, 0x9404, .u16, false, 1, 0x1F, 0x1C, false, false, true, false, false, .plain, 20⟩,
   ⟨0x9405, 0x9405, .u16, false, 1, 0x1F, 0x1C, false, false, false, false, false, .plain, 0⟩,
   ⟨0x9406, 0x9406, .blob, false, 1, 0x1F, 0x1C, false, false, false, false, false, .plain, 0⟩,
   ⟨0x9407, 0x9407, .u16, false, 1, 0x1F, 0x0, false, false, false, false, false, .plain, 0⟩,
   ⟨0x9410, 0x9410, .u32, false, 1, 0x1F, 0x0, false, false, false, false, false, .count, 0⟩,
   ⟨0x9411, 0x9411, .u32, false, 1, 0x1F, 0x0, false, false, false, false, false, .count, 0⟩,
   ⟨0x9412, 0x9412, .u32, false, 1, 0x1F, 0x0, false, false, false, false, false, .count, 0⟩,
   ⟨0x9413, 0x9413, .u32, false, 1, 0x1F, 0x0, false, false, false, false, false, .count, 0⟩,
   ⟨0x9414, 0x9414, .u32, false, 1, 0x1F, 0x0, false, false, false, false, false, .count, 0⟩,
   ⟨0x9500, 0x9500, .u32, true, 5, 0x1F, 0x0, false, false, false, false, false, .hem, 0⟩]

/-- Rows of the objects in #000A000–#000AFFF. -/
def descsA : List Desc :=
  [⟨0xA000, 0xA000, .u32, false, 1, 0x1F, 0x18, false, false, false, false, false, .plain, 0⟩,
   ⟨0xA001, 0xA001, .u8, true, 3, 0x1F, 0x18, false, false, true, false, false, .plain, 2⟩,
   ⟨0xA002, 0xA002, .u64, true, 4, 0x8, 0x8, true, true, false, false, false, .plain, 0⟩,
   ⟨0xA003, 0xA003, .u8, true, 4, 0x1F, 0x0, false, false, false, false, false, .plain, 0⟩,
   ⟨0xA004, 0xA004, .u32, false, 1, 0x1F, 0x0, false, false, false, false, false, .count, 0⟩,
   ⟨0xA005, 0xA005, .u32, false, 1, 0x1F, 0x0, false, false, false, false, false, .count, 0⟩,
   ⟨0xA006, 0xA006, .u32, false, 1, 0x1F, 0x0, false, false, false, false, false, .count, 0⟩,
   ⟨0xA007, 0xA007, .u32, false, 1, 0x1F, 0x0, false, false, false, false, false, .hem, 0⟩,
   ⟨0xA100, 0xA100, .u64, true, 16, 0x1F, 0x18, false, false, false, false, false, .plain, 0⟩,
   ⟨0xA101, 0xA101, .u8, false, 1, 0x18, 0x18, false, true, false, false, false, .plain, 0⟩,
   ⟨0xA102, 0xA102, .u8, false, 1, 0x18, 0x18, false, true, false, false, false, .plain, 0⟩,
   ⟨0xA103, 0xA103, .u8, true, 16, 0x1F, 0x18, false, false, false, false, false, .plain, 0⟩,
   ⟨0xA104, 0xA104, .u32, true, 16, 0x1F, 0x18, false, false, false, false, false, .plain, 0⟩,
   ⟨0xA105, 0xA105, .u64, true, 16, 0x1F, 0x0, false, false, false, false, false, .plain, 0⟩,
   ⟨0xA106, 0xA106, .u32, false, 1, 0x1F, 0x0, false, false, false, false, false, .count, 0⟩,
   ⟨0xA107, 0xA107, .u32, false, 1, 0x1F, 0x0, false, false, false, false, false, .hem, 0⟩]

/-- Rows of the objects in #000B000–#000BFFF. -/
def descsB : List Desc :=
  [⟨0xB000, 0xB000, .u8, true, 128, 0x1F, 0x18, false, false, false, false, false, .plain, 0⟩,
   ⟨0xB001, 0xB001, .u32, true, 4, 0x1F, 0x0, false, false, false, false, false, .plain, 0⟩,
   ⟨0xB002, 0xB002, .u32, true, 137, 0x1F, 0x0, false, false, false, false, false, .count, 0⟩,
   ⟨0xB003, 0xB003, .u32, true, 137, 0x1F, 0x0, false, false, false, false, false, .count, 0⟩,
   ⟨0xB004, 0xB004, .u32, true, 128, 0x1F, 0x0, false, false, false, false, false, .count, 0⟩,
   ⟨0xB005, 0xB005, .u32, true, 14, 0x1F, 0x0, false, false, false, false, false, .hem, 0⟩,
   ⟨0xB100, 0xB100, .u32, false, 1, 0x1F, 0x18, false, false, true, false, false, .plain, 0⟩,
   ⟨0xB101, 0xB101, .u32, false, 1, 0x1F, 0x18, false, false, true, false, false, .plain, 0⟩,
   ⟨0xB102, 0xB102, .u32, false, 1, 0x1F, 0x18, false, false, true, false, false, .plain, 0⟩,
   ⟨0xB103, 0xB103, .u64, true, 4, 0x1F, 0x0, false, false, false, false, false, .plain, 0⟩,
   ⟨0xB104, 0xB104, .u32, false, 1, 0x1F, 0x0, false, false, false, false, false, .count, 0⟩,
   ⟨0xB105, 0xB105, .u32, false, 1, 0x1F, 0x0, false, false, false, false, false, .count, 0⟩,
   ⟨0xB106, 0xB106, .u64, false, 1, 0x1F, 0x0, false, false, false, false, false, .life, 0⟩,
   ⟨0xB107, 0xB107, .bool, true, 2, 0x1F, 0x0, false, false, false, false, false, .plain, 0⟩,
   ⟨0xB108, 0xB108, .u32, false, 1, 0x1F, 0x0, false, false, false, false, false, .hem, 0⟩,
   ⟨0xB200, 0xB200, .u8, true, 11, 0x1F, 0x18, false, false, true, false, false, .plain, 0⟩,
   ⟨0xB201, 0xB201, .u16, true, 11, 0x1F, 0x18, false, false, true, false, false, .plain, 0⟩,
   ⟨0xB202, 0xB202, .u16, false, 1, 0x1F, 0x18, false, false, true, false, false, .plain, 48⟩,
   ⟨0xB203, 0xB203, .u16, false, 1, 0x1F, 0x18, false, false, true, false, false, .plain, 64⟩,
   ⟨0xB204, 0xB204, .u32, false, 1, 0x1F, 0x18, false, false, false, false, false, .plain, 0⟩,
   ⟨0xB205, 0xB205, .u32, true, 13, 0x1F, 0x0, false, false, false, false, false, .count, 0⟩,
   ⟨0xB206, 0xB206, .u32, true, 13, 0x1F, 0x0, false, false, false, false, false, .count, 0⟩,
   ⟨0xB207, 0xB207, .u32, true, 13, 0x1F, 0x0, false, false, false, false, false, .count, 0⟩,
   ⟨0xB208, 0xB208, .u32, true, 11, 0x1F, 0x0, false, false, false, false, false, .count, 0⟩,
   ⟨0xB209, 0xB209, .u64, false, 1, 0x1F, 0x0, false, false, false, false, false, .hem, 0⟩]

/-- Rows of the objects in #000C000–#000CFFF. -/
def descsC : List Desc :=
  [⟨0xC020, 0xC020, .u32, false, 1, 0x1F, 0x1C, false, false, false, false, false, .plain, 0⟩,
   ⟨0xC021, 0xC021, .u32, false, 1, 0x1F, 0x0, false, false, false, false, false, .count, 0⟩,
   ⟨0xC022, 0xC022, .u32, false, 1, 0x1F, 0x0, false, false, false, false, false, .count, 0⟩,
   ⟨0xC023, 0xC023, .u32, false, 1, 0x1F, 0x0, false, false, false, false, false, .count, 0⟩,
   ⟨0xC024, 0xC024, .u64, false, 1, 0x1F, 0x0, false, false, false, false, false, .life, 0⟩,
   ⟨0xC025, 0xC025, .u64, false, 1, 0x1F, 0x0, false, false, false, false, false, .life, 0⟩,
   ⟨0xC026, 0xC026, .u8, false, 1, 0x1F, 0x0, false, false, false, false, false, .plain, 1⟩,
   ⟨0xC027, 0xC027, .u32, false, 1, 0x1F, 0x0, false, false, false, false, false, .hem, 0⟩,
   ⟨0xC028, 0xC028, .u32, false, 1, 0x1F, 0x0, false, false, false, false, false, .count, 0⟩,
   ⟨0xC029, 0xC029, .u16, false, 1, 0x1F, 0x0, false, false, false, false, false, .hem, 0⟩,
   ⟨0xC02A, 0xC02A, .u32, false, 1, 0x1F, 0x0, false, false, false, false, false, .count, 0⟩,
   ⟨0xC02B, 0xC02B, .u32, false, 1, 0x1F, 0x0, false, false, false, false, false, .hem, 0⟩,
   ⟨0xC000, 0xC000, .u8, false, 1, 0x1F, 0x0, false, false, false, false, false, .plain, 0⟩,
   ⟨0xC001, 0xC001, .u32, false, 1, 0x1F, 0x18, false, false, false, false, false, .plain, 0⟩,
   ⟨0xC002, 0xC002, .u16, false, 1, 0x1F, 0x0, false, false, false, false, false, .plain, 0⟩,
   ⟨0xC003, 0xC003, .u16, false, 1, 0x1F, 0x0, false, false, false, false, false, .hem, 0⟩,
   ⟨0xC004, 0xC004, .i16, false, 1, 0x1F, 0x0, false, false, false, false, false, .hem, 32767⟩,
   ⟨0xC005, 0xC005, .u32, false, 1, 0x1F, 0x0, false, false, false, false, false, .count, 0⟩,
   ⟨0xC006, 0xC006, .u32, false, 1, 0x1F, 0x0, false, false, false, false, false, .count, 0⟩,
   ⟨0xC007, 0xC007, .u32, false, 1, 0x1F, 0x0, false, false, false, false, false, .count, 0⟩,
   ⟨0xC008, 0xC008, .u64, false, 1, 0x1F, 0x0, false, false, false, false, false, .life, 0⟩,
   ⟨0xC009, 0xC009, .u16, false, 1, 0x1F, 0x0, false, false, false, false, false, .plain, 0⟩,
   ⟨0xC00A, 0xC00A, .u16, false, 1, 0x1F, 0x0, false, false, false, false, false, .plain, 0⟩,
   ⟨0xC00B, 0xC00B, .u32, false, 1, 0x1F, 0x0, false, false, false, false, false, .hem, 0⟩,
   ⟨0xC030, 0xC030, .u32, false, 1, 0x1F, 0x0, false, false, false, false, false, .count, 0⟩,
   ⟨0xC031, 0xC031, .u32, false, 1, 0x1F, 0x0, false, false, false, false, false, .count, 0⟩,
   ⟨0xC032, 0xC032, .u32, false, 1, 0x1F, 0x0, false, false, false, false, false, .count, 0⟩,
   ⟨0xC033, 0xC033, .u32, false, 1, 0x1F, 0x0, false, false, false, false, false, .count, 0⟩,
   ⟨0xC034, 0xC034, .u32, false, 1, 0x1F, 0x0, false, false, false, false, false, .hem, 0⟩]

/-- Rows of the objects in #000E000–#000EFFF. -/
def descsE : List Desc :=
  [⟨0xE000, 0xE000, .u32, false, 1, 0x1C, 0x1C, false, true, false, false, false, .plain, 0⟩,
   ⟨0xE001, 0xE001, .u32, false, 1, 0x1C, 0x1C, false, false, false, false, false, .plain, 0⟩,
   ⟨0xE002, 0xE002, .u32, false, 1, 0x1F, 0x1C, false, false, false, false, false, .plain, 0⟩,
   ⟨0xE003, 0xE003, .u32, false, 1, 0x1F, 0x0, false, false, false, false, false, .plain, 0⟩,
   ⟨0xE004, 0xE004, .u32, false, 1, 0x1F, 0x0, false, false, false, false, false, .plain, 0⟩,
   ⟨0xE005, 0xE005, .bool, false, 1, 0x1F, 0x1E, false, false, false, false, false, .plain, 0⟩,
   ⟨0xE006, 0xE006, .u32, true, 4, 0x1F, 0x18, false, false, true, false, false, .plain, 4294967295⟩,
   ⟨0xE007, 0xE007, .u32, true, 4, 0x1F, 0x18, false, false, true, false, false, .plain, 4294967295⟩,
   ⟨0xE008, 0xE008, .u32, true, 8, 0x1F, 0x0, false, false, false, false, false, .plain, 4294967295⟩,
   ⟨0xE009, 0xE009, .u64, false, 1, 0x1F, 0x0, false, false, false, false, false, .plain, 0⟩,
   ⟨0xE00A, 0xE00A, .u32, false, 1, 0x1F, 0x1C, false, false, true, false, false, .plain, 65536⟩,
   ⟨0xE00B, 0xE00B, .u32, false, 1, 0x1F, 0x1C, false, false, true, false, false, .plain, 16000⟩,
   ⟨0xE00C, 0xE00C, .u32, false, 1, 0x1F, 0x0, false, false, false, false, false, .plain, 0⟩,
   ⟨0xE00D, 0xE00D, .u32, false, 1, 0x1F, 0x0, false, false, false, false, false, .plain, 0⟩,
   ⟨0xE00E, 0xE00E, .u16, false, 1, 0x1F, 0x1C, false, false, true, false, false, .plain, 100⟩,
   ⟨0xE00F, 0xE00F, .u16, false, 1, 0x1F, 0x1C, false, false, true, false, false, .plain, 64⟩,
   ⟨0xE010, 0xE010, .u16, false, 1, 0x1F, 0x1C, false, false, true, false, false, .plain, 16⟩,
   ⟨0xE011, 0xE011, .i8, false, 1, 0x1F, 0x18, false, false, true, false, false, .plain, 0⟩,
   ⟨0xE012, 0xE012, .u32, false, 1, 0x1C, 0x1C, false, false, false, false, false, .plain, 0⟩,
   ⟨0xE013, 0xE013, .blob, false, 1, 0x1C, 0x1C, false, true, false, false, false, .plain, 0⟩,
   ⟨0xE014, 0xE014, .u64, false, 1, 0x18, 0x0, false, false, false, false, false, .plain, 0⟩,
   ⟨0xE015, 0xE015, .u32, false, 1, 0x1F, 0x0, false, false, false, false, false, .plain, 0⟩,
   ⟨0xE016, 0xE016, .u32, false, 1, 0x1F, 0x0, false, false, false, false, false, .plain, 0⟩,
   ⟨0xE017, 0xE017, .u32, false, 1, 0x1F, 0x0, false, false, false, false, false, .count, 0⟩,
   ⟨0xE018, 0xE018, .u32, false, 1, 0x1F, 0x0, false, false, false, false, false, .count, 0⟩,
   ⟨0xE019, 0xE019, .u32, false, 1, 0x1F, 0x0, false, false, false, false, false, .count, 0⟩,
   ⟨0xE01A, 0xE01A, .u32, false, 1, 0x1F, 0x0, false, false, false, false, false, .count, 0⟩,
   ⟨0xE01B, 0xE01B, .u32, false, 1, 0x1F, 0x0, false, false, false, false, false, .hem, 0⟩,
   ⟨0xE100, 0xE13F, .blob, false, 1, 0x1F, 0x0, false, false, false, false, false, .plain, 0⟩,
   ⟨0xE200, 0xE200, .u16, true, 1024, 0x1F, 0x0, false, false, false, false, false, .plain, 65535⟩,
   ⟨0xE210, 0xE210, .u16, true, 128, 0x1F, 0x0, false, false, false, false, false, .plain, 0⟩,
   ⟨0xE211, 0xE211, .u16, true, 128, 0x1F, 0x0, false, false, false, false, false, .plain, 16384⟩,
   ⟨0xE212, 0xE212, .u16, true, 128, 0x1F, 0x0, false, false, false, false, false, .plain, 16384⟩,
   ⟨0xE213, 0xE213, .u32, true, 128, 0x1F, 0x0, false, false, false, false, false, .plain, 131072⟩]

/-- Rows of the objects in #000F000–#000FFFF. -/
def descsF : List Desc :=
  [⟨0xF000, 0xF000, .u32, false, 1, 0x1F, 0x0, false, false, false, false, false, .count, 0⟩,
   ⟨0xF001, 0xF001, .u32, false, 1, 0x1F, 0x0, false, false, false, false, false, .count, 0⟩,
   ⟨0xF002, 0xF002, .u32, false, 1, 0x1F, 0x0, false, false, false, false, false, .count, 0⟩,
   ⟨0xF003, 0xF003, .u32, false, 1, 0x1F, 0x0, false, false, false, false, false, .count, 0⟩,
   ⟨0xF004, 0xF004, .u32, false, 1, 0x1F, 0x0, false, false, false, false, false, .count, 0⟩,
   ⟨0xF005, 0xF005, .u32, false, 1, 0x1F, 0x0, false, false, false, false, false, .count, 0⟩,
   ⟨0xF006, 0xF006, .u32, false, 1, 0x1F, 0x0, false, false, false, false, false, .hem, 0⟩,
   ⟨0xF007, 0xF007, .u16, false, 1, 0x1F, 0x0, false, false, false, false, false, .plain, 4266⟩,
   ⟨0xF008, 0xF008, .u32, false, 1, 0x1F, 0x0, false, false, false, false, false, .plain, 0⟩,
   ⟨0xF009, 0xF009, .u16, false, 1, 0x1E, 0x1E, false, true, false, false, false, .plain, 0⟩,
   ⟨0xF010, 0xF013, .u64, false, 1, 0x18, 0x18, false, false, false, false, false, .plain, 0⟩,
   ⟨0xF014, 0xF017, .u32, false, 1, 0x8, 0x8, true, true, false, false, false, .plain, 0⟩,
   ⟨0xF018, 0xF01B, .u64, false, 1, 0x18, 0x0, false, false, false, false, false, .plain, 0⟩,
   ⟨0xF020, 0xF03F, .u16, true, 1024, 0x1F, 0x1C, false, false, false, false, false, .plain, 65535⟩,
   ⟨0xF040, 0xF040, .u16, true, 256, 0x1F, 0x1C, false, false, false, false, false, .plain, 65535⟩,
   ⟨0xF041, 0xF041, .u16, true, 256, 0x1F, 0x1C, false, false, false, false, false, .plain, 65535⟩,
   ⟨0xF042, 0xF042, .u16, true, 256, 0x1F, 0x1C, false, false, false, false, false, .plain, 65535⟩,
   ⟨0xF043, 0xF043, .u16, true, 256, 0x1F, 0x1C, false, false, false, false, false, .plain, 65535⟩,
   ⟨0xF050, 0xF053, .u16, true, 1024, 0x1F, 0x1C, false, false, false, false, false, .plain, 1⟩,
   ⟨0xF054, 0xF057, .u64, true, 1024, 0x1F, 0x0, false, false, false, false, false, .plain, 18446744073709551615⟩,
   ⟨0xF058, 0xF05B, .u64, true, 1024, 0x1F, 0x0, false, false, false, false, false, .plain, 18446744073709551615⟩]

/-- Rows of the objects in #0011000–#0011FFF. -/
def descs11 : List Desc :=
  [⟨0x11000, 0x11000, .u16, false, 1, 0x1F, 0x18, false, false, true, false, false, .plain, 60⟩,
   ⟨0x11001, 0x11001, .u32, false, 1, 0x1F, 0x0, false, false, false, false, false, .plain, 0⟩,
   ⟨0x11002, 0x11002, .time, false, 1, 0x1F, 0x0, false, false, false, false, false, .plain, 0⟩,
   ⟨0x11003, 0x11003, .u32, false, 1, 0x1F, 0x0, false, false, false, false, true, .plain, 0⟩,
   ⟨0x11004, 0x11004, .u64, true, 2, 0x1F, 0x0, false, false, false, false, true, .plain, 0⟩,
   ⟨0x11010, 0x11010, .u64, false, 1, 0x1F, 0x0, false, false, false, false, false, .plain, 0⟩,
   ⟨0x11011, 0x11011, .u32, false, 1, 0x1F, 0x0, false, false, false, false, false, .count, 0⟩,
   ⟨0x11012, 0x11012, .u32, false, 1, 0x1F, 0x0, false, false, false, false, false, .hem, 0⟩,
   ⟨0x11013, 0x11013, .u32, false, 1, 0x1F, 0x0, false, false, false, false, true, .plain, 0⟩,
   ⟨0x11014, 0x11014, .u32, false, 1, 0x1F, 0x0, false, false, false, false, true, .plain, 0⟩,
   ⟨0x11800, 0x11FFF, .blob, false, 1, 0x1F, 0x0, false, false, false, false, false, .plain, 0⟩]

/-- The row number a number shares: needle n's objects use needle 0's rows, Shuttle B's use Shuttle A's (R193 keeps
SH_PAIR_MODE in Shuttle A's range alone, so its number in Shuttle B's range is reserved and maps to no row). -/
def Obj.canon (num : Nat) : Nat :=
  if 0xC000 ≤ num && decide (num < 0xE000) then 0xC000 + num % 64
  else if num = 0x6007 then 0xFFFFFFFF
  else if 0x6000 ≤ num && decide (num < 0x8000) then num - 0x2000
  else num

/-- The rows of the block of 4 096 numbers that holds a canonical number. -/
def Obj.rowsOf (c : Nat) : List Desc :=
  match c / 4096 with
  | 0x0 => descs0a ++ descs0b
  | 0x1 => descs1
  | 0x2 => descs2a ++ descs2b
  | 0x3 => descs3
  | 0x4 => descs4a ++ descs4b
  | 0x8 => descs8
  | 0x9 => descs9a ++ descs9b
  | 0xA => descsA
  | 0xB => descsB
  | 0xC => descsC
  | 0xE => descsE
  | 0xF => descsF
  | 0x11 => descs11
  | _ => []

/-- The descriptor of a device object's number, if the number holds one (R9, R231). -/
def Obj.desc? (num : Nat) : Option Desc :=
  let c := Obj.canon num
  (Obj.rowsOf c).find? (fun d => decide (d.lo ≤ c) && decide (c ≤ d.hi))
/-- The default the spec states element by element, or by order code, or as a fused value (R3, R147, R159, R162, R193,
R207, R230, R275, R296, R357, R393); `e16` says which order code the part is (R1). None: the row's own default.
PAT_STAGE_ADDR (0xE014) follows the model's place of the staging area, for which the table has a dash (DESIGN CHOICE,
assumption 112). -/
def Obj.special (e16 : Bool) (c i : Nat) : Option Int :=
  match c with
  | 0x2 => some (if e16 then 1 else 2)
  | 0x3 => some (if e16 then 16 else 8)
  | 0xE00D => some ((if e16 then 12032 else 4352) * 1024)
  | 0xE011 => some (if e16 then 100 else 80)
  | 0xE014 => some (Int.ofNat (0x400000000 + (if e16 then 16128 else 7936) * 1048576 + 0x1000000))
  | 0x50 => some 1
  | 0x100E => some (Int.ofNat ((if e16 then 16128 else 7936) * 1048576))
  | 0xE210 => some 8192
  | 0xB000 => some (Int.ofNat i)
  | 0xB100 => some 1024
  | 0xB101 => some (if e16 then 1024 else 512)
  | 0xB102 => some (if e16 then 12032 else 4352)
  | 0xB103 => some (Int.ofNat (([0, 1024, if e16 then 2048 else 1536, if e16 then 14080 else 5888].getD i 0) * 1048576))
  | 0xB200 => some (Int.ofNat ([0, 0, 2, 0, 1, 1, 2, 2, 2, 2, 1].getD i 0))
  | 0xB201 => some (Int.ofNat ([64, 64, 64, 32, 64, 16, 32, 32, 32, 32, 32].getD i 0))
  | 0x4006 => some (Int.ofNat ([34, 46, 0].getD i 0))
  | 0x4400 => some (Config.srcCoef 2 i)
  | 0x4401 => some (Config.srcCoef 4 i)
  | 0x8002 => some (Int.ofNat (8192 + i))
  | 0x8004 => some (Int.ofNat (8192 + i))
  | 0x3009 => some ([(-3 : Int), 1, 0].getD i 0)
  | 0x300B => some 128
  | 0x3019 => some (if i < 4 then 200 * 65536 else if i < 8 then 65536 else 2 * 65536 + 10)
  | 0x2002 => some (Int.ofNat ([0, 100, 150, 200, 200].getD i 0))
  | 0x9100 => some 0x64880280
  | 0x9101 => some 0x0B003000
  | 0x9102 => some (Int.ofNat i)
  | 0x9200 => some (Int.ofNat (Config.rdmUid i))
  | 0x9300 => some (Int.ofNat (128 * 2 ^ 33 + 32 * 2 ^ 17 + 8 * 2 ^ 11 + 2))
  | 0x9301 => some (Int.ofNat (Config.t1sMac i))
  | 0x304 => some (if e16 then 105 else 85)
  | _ => none

/-- The rest value of element i of object num: what it reads after reset (the Default column); a snapshot's is that of
its source, which no boundary has latched yet (R369). -/
def Obj.dflt (e16 : Bool) (num i : Nat) : Int :=
  if num = Obj.shMac then Int.ofNat (Config.shuttleMac 0)
  else if num = Obj.shMac + 0x2000 then Int.ofNat (Config.shuttleMac 1)
  else
    match Obj.special e16 (Obj.canon num) i with
    | some v => v
    | none =>
      match Obj.desc? num with
      | some d => d.dflt
      | none =>
        if 0x10000 ≤ num && decide (num ≤ 0x1FFFF) then ((Obj.desc? (num - 0x10000)).map (·.dflt)).getD 0 else 0

/-- Keys of the register file: 2 048 keys for each object number, one an element. -/
def objKey (num i : Nat) : Nat := num * 2048 + i

/-- The rest value of a register-file key. -/
def objRest (e16 : Bool) (k : Nat) : Int := Obj.dflt e16 (k / 2048) (k % 2048)

/-- The rest value of a STR or BLOB object (Default column of R275, R296, R333, R357, R372). -/
def Obj.blobDflt (num : Nat) : List Byte :=
  if num = Obj.devCertChain then Config.certChain.map (BitVec.ofNat 8)
  else if num = Obj.vendorKeyHash then Config.vendorKeyHash.map (BitVec.ofNat 8)
  else if num = Obj.sacnCid then (List.range 16).map (fun i => BitVec.ofNat 8 (Config.sacnCid i))
  else if num = Obj.sacnName then [0x43, 0x68, 0x72, 0x6F, 0x75, 0x6C, 0x6F, 0x20, 0x39, 0x36, 0x34, 0x30]
  else if 0x1020 ≤ num && decide (num ≤ 0x1027) then List.replicate 48 0
  else if 0x11800 ≤ num && decide (num ≤ 0x11FFF) then List.replicate 32 0
  else if 0xE100 ≤ num && decide (num ≤ 0xE13F) then List.replicate 4096 0
  else if 0x9110 ≤ num && decide (num ≤ 0x9117) then List.replicate 512 0
  else []

/-- The capacity in bytes of a STR or BLOB object (ELEMENTS of R235): R117, R275, R296, R316, R330, R335. -/
def Obj.capacity (num : Nat) : Nat :=
  if num = Obj.sacnName then 63
  else if num = Obj.sacnCid then 16
  else if num = Obj.trustRoots then 384
  else if num = Obj.ownerKeyHash then 48
  else 4096

/-- MIN and MAX of the device objects whose tables state a range refused with RANGE, by canonical number (R238, R267). -/
def objLimits : List (Nat × Nat × Int × Int) :=
  [(Obj.vcoreMin, Obj.vcoreMax, 600, 850), (Obj.sessTimeout, Obj.sessTimeout, 1000, 600000),
   (Obj.strangerMode, Obj.strangerMode, 0, 1), (Obj.rolePrioMax, Obj.rolePrioMax, 0, 200),
   (Obj.dictCcPriority0, Obj.dictCcPriority0 + 3, 0, 200), (Obj.dictCcRingLen0, Obj.dictCcRingLen0 + 3, 64, 65536),
   (Obj.spoolThreshold, Obj.spoolThreshold, 4096, 131072), (Obj.spoolBwLimit, Obj.spoolBwLimit, 1, 60000),
   (Obj.migWait, Obj.migWait, 1, 1024), (Obj.patStageOffset, Obj.patStageOffset, 0, 50331648), (Obj.parityStormLimit, Obj.parityStormLimit, 1, 65535),
   (Obj.arbClass, Obj.arbClass, 0, 3), (Obj.arbQuota, Obj.arbQuota, 1, 256), (Obj.arbWindow, Obj.arbWindow, 1, 256),
   (Obj.hemSeconds, Obj.hemSeconds, 1, 3600), (Obj.univBase, Obj.univBase, 1, 31232),
   (Obj.sacnTxPrio, Obj.sacnTxPrio, 0, 200), (Obj.sacnTxHz, Obj.sacnTxHz, 1, 44), (Obj.sacnSyncAddr, Obj.sacnSyncAddr, 0, 63999),
   (Obj.dmxUniv, Obj.dmxUniv, 0, 32767), (Obj.rdmDiscover, Obj.rdmDiscover, 0, 7), (Obj.oscUdp, Obj.oscUdp, 1024, 65535),
   (Obj.oscRole, Obj.oscRole, 1, 2), (Obj.oscPrio, Obj.oscPrio, 0, 200), (Obj.oscInterval, Obj.oscInterval, 1, 60000),
   (Obj.oscMapSel, Obj.oscMapSel, 0, 4095), (Obj.serMDiv, Obj.serMDiv, 2, 255), (Obj.tdmMapCommit, Obj.tdmMapCommit, 0, 15),
   (Obj.dmaGo, Obj.dmaStop, 0, 15), (Obj.dmaCore, Obj.dmaCore, 0, 3), (Obj.shDscp, Obj.shDscp, 0, 63),
   (Obj.shRxLatency, Obj.shRxLatency, 2, 255), (Obj.measExtGo, Obj.measExtGo, 5, 7), (Obj.accept, Obj.accept, 1, 1),
   (Obj.resetCmd, Obj.resetCmd, 1, 1), (Obj.safeWrite, Obj.safeWrite, 1, 1)]

/-- MIN and MAX of the timebase's objects whose ranges are refused with PTP_RANGE (R211, R230). -/
def tbLimits : List (Nat × Int × Int) :=
  [(Obj.ptpDomain, 0, 127), (Obj.ptpAnnTimeout, 2, 10), (Obj.tbServoBw, 1, 1000), (Obj.tbStepNs, 100, 1000000000)]

/-- The limits a table states for an object, those of the junctions by order code (R385, R393). -/
def Obj.limits (e16 : Bool) (num : Nat) : Option (Int × Int) :=
  let top : Int := if e16 then 105 else 85
  if num = Obj.tempMigrate then some (-128, top)
  else if num = Obj.tjWarn then some (-40, top)
  else (objLimits.find? (fun r => decide (r.1 ≤ Obj.canon num) && decide (Obj.canon num ≤ r.2.1))).map (fun r => r.2.2)

/-- The numbers that carry PUBLIC: the identity objects of R3 and the device chain of R275. -/
def Obj.isPublic (num : Nat) : Bool :=
  num = 0 || num = 1 || num = 2 || num = 3 || num = Obj.serviceLevel || num = Obj.devCertChain

/-- The OVF bit of a hem counter: the OVF object and the bit, counted over its elements of 32 bits (R37, R67, R82,
R91, R116, R147, R168, R193, R207, R230, R257, R275, R296, R310, R357, R372), for a canonical number and element. -/
def Obj.ovfOf (c i : Nat) : Option (Nat × Nat) :=
  if 0xC021 ≤ c && decide (c ≤ 0xC023) then some (0xC027, c - 0xC021)
  else if c = 0xC028 then some (0xC02B, 0)
  else if c = 0xC02A then some (0xC02B, 1)
  else if 0xC005 ≤ c && decide (c ≤ 0xC007) then some (0xC00B, c - 0xC005)
  else if 0xC030 ≤ c && decide (c ≤ 0xC033) then some (0xC034, c - 0xC030)
  else if 0x10E ≤ c && decide (c ≤ 0x111) then some (0x115, c - 0x10E)
  else if 0xF000 ≤ c && decide (c ≤ 0xF005) then some (0xF006, c - 0xF000)
  else if 0xE017 ≤ c && decide (c ≤ 0xE01A) then some (0xE01B, c - 0xE017)
  else if c = 0xB002 then some (0xB005, i)
  else if c = 0xB003 then some (0xB005, 160 + i)
  else if c = 0xB004 then some (0xB005, 320 + i)
  else if c = 0xB104 then some (0xB108, 0)
  else if c = 0xB105 then some (0xB108, 1)
  else if 0xB205 ≤ c && decide (c ≤ 0xB208) then some (0xB209, 16 * (c - 0xB205) + i)
  else if 0x4200 ≤ c && decide (c ≤ 0x4206) then some (0x421B, 256 * (c - 0x4200) + i)
  else if 0x4210 ≤ c && decide (c ≤ 0x4219) then some (0x421B, 1792 + (c - 0x4210))
  else if 0x4304 ≤ c && decide (c ≤ 0x4306) then some (0x4307, 16 * (c - 0x4304) + i)
  else if 0x8008 ≤ c && decide (c ≤ 0x800A) then some (0x800B, 16 * (c - 0x8008) + i)
  else if 0x301C ≤ c && decide (c ≤ 0x3020) then some (0x3021, c - 0x301C + i)
  else if c = 0x2800 then some (0x280D, 0)
  else if c = 0x2801 then some (0x280D, 1)
  else if c = 0x2803 then some (0x280D, 2)
  else if c = 0x2804 then some (0x280D, 3)
  else if c = 0x2805 then some (0x280D, 4)
  else if c = 0x280B then some (0x280D, 5)
  else if c = 0x280C then some (0x280D, 6 + i)
  else if 0x200B ≤ c && decide (c ≤ 0x200F) then some (0x2010, c - 0x200B)
  else if c = 0x2101 then some (0x2010, 5)
  else if 0x9030 ≤ c && decide (c ≤ 0x9039) then some (0x9500, c - 0x9030)
  else if 0x9120 ≤ c && decide (c ≤ 0x9123) then some (0x9500, 32 + 8 * (c - 0x9120) + i)
  else if 0x9230 ≤ c && decide (c ≤ 0x9232) then some (0x9500, 64 + 8 * (c - 0x9230) + i)
  else if 0x9310 ≤ c && decide (c ≤ 0x9315) then some (0x9500, 96 + 2 * (c - 0x9310) + i)
  else if 0x9410 ≤ c && decide (c ≤ 0x9414) then some (0x9500, 128 + (c - 0x9410))
  else if 0xA004 ≤ c && decide (c ≤ 0xA006) then some (0xA007, c - 0xA004)
  else if c = 0xA106 then some (0xA107, 0)
  else if c = 0x21A then some (0x21C, 0)
  else if c = 0x2183 then some (0x2185, 0)
  else if c = 0x2184 then some (0x2185, 1)
  else if c = 0x11011 then some (0x11012, 0)
  else none

/-- The bits of an element a write may set or clear (RW and W1C fields of its field map); the rest are reserved or
read only and a 1 written there is ignored (R8). None: every bit of the type. -/
def Obj.writeMask (c i : Nat) : Option Nat :=
  match c with
  | 0xC020 => some 0xF
  | 0xC001 => some 0x3
  | 0x10D => some 0x4
  | 0xF050 | 0xF051 | 0xF052 | 0xF053 => some 0x7
  | 0xB204 => some 0x7FF
  | 0x4005 => some 0xFFFF
  | 0x4011 => some 0x00FFFFFF
  | 0x4021 => some 0x00FEFFFF
  | 0x4300 => some 0x8001FFFF
  | 0x8000 => some 0x31FF
  | 0x300C => some 0x3
  | 0x3017 => some 0x20
  | 0x3018 => some 0x2
  | 0x3019 => some (if i < 8 then 0xFFFF0000 else 0xBFFF03FF)
  | 0x9000 | 0x9001 | 0x9002 | 0x9003 | 0x9004 | 0x9005 | 0x9006 | 0x9007 | 0x9008 | 0x9009 | 0x900A | 0x900B
  | 0x900C | 0x900D | 0x900E | 0x900F | 0x9010 | 0x9011 | 0x9012 | 0x9013 | 0x9014 | 0x9015 | 0x9016 | 0x9017
  | 0x9018 | 0x9019 | 0x901A | 0x901B | 0x901C | 0x901D | 0x901E | 0x901F => some 0x1F
  | 0x9026 => some 0x3
  | 0x9100 => some 0xFFFFFFFF
  | 0x9101 => some 0x3FFFFC7F
  | 0x9300 => some 0x1FFFFFFFFC3
  | 0xA000 => some 0x1
  | 0xA104 => some 0x2
  | 0x50 => some 0xE
  | 0x215 => some 0x3FF
  | 0x305 => some 0x3F
  | _ => none

/-- Objects whose write clears the bits written 1 (W1C, R7). -/
def Obj.isW1C (c : Nat) : Bool :=
  c = 0xC020 || c = 0xC001 || c = 0x10D || c = 0xB204 || c = 0x3017 || c = 0x3018 || c = 0xA000 || c = 0xA104

end Sys2Proof.Machine
end

