-- ==== Sys2Proof/Machine/Sparse.lean ====
section
/-!
DEFINITION. Sparse stores as plain data: a list of (key, value) pairs with keys strictly rising and no pair equal to
what an unlisted key reads as. The rest value is a function of the key, given by whoever uses the store, so that a
store after reset lists nothing and equal stores are equal lists.
-/
namespace Sys2Proof.Machine

/-- A sparse store: keys strictly rising, no entry equal to its rest value. -/
abbrev Sparse (α : Type) := List (Nat × α)

/-- The value at key k; an unlisted key reads as its rest value `d k`. -/
def look {α : Type} (d : Nat → α) : Sparse α → Nat → α
  | [], k => d k
  | (j, v) :: t, k => if j = k then v else look d t k

/-- Insert v at key k before the first greater key, in place of a value already there. -/
def insertAt {α : Type} : Sparse α → Nat → α → Sparse α
  | [], k, v => [(k, v)]
  | (j, w) :: t, k, v =>
    if k < j then (k, v) :: (j, w) :: t
    else if k = j then (k, v) :: t
    else (j, w) :: insertAt t k v

/-- Put v at key k; putting the rest value removes the entry. -/
def put {α : Type} [DecidableEq α] (d : Nat → α) (m : Sparse α) (k : Nat) (v : α) : Sparse α :=
  if v = d k then m.filter (fun e => e.1 != k) else insertAt m k v

/-- Every key of m is greater than k. -/
def keysAbove {α : Type} (k : Nat) : Sparse α → Bool
  | [] => true
  | (j, _) :: t => decide (k < j) && keysAbove k t

/-- The canonical form. -/
def canonical {α : Type} [DecidableEq α] (d : Nat → α) : Sparse α → Bool
  | [] => true
  | (j, v) :: t => keysAbove j t && decide (v ≠ d j) && canonical d t

/-- Put a run of values at consecutive keys. -/
def putAll {α : Type} [DecidableEq α] (d : Nat → α) (m : Sparse α) (k : Nat) : List α → Sparse α
  | [] => m
  | v :: t => putAll d (put d m k v) (k + 1) t

/-- The n values at consecutive keys from k. -/
def lookAll {α : Type} (d : Nat → α) (m : Sparse α) (k : Nat) : Nat → List α
  | 0 => []
  | n + 1 => look d m k :: lookAll d m (k + 1) n

/-- Only the entries whose key satisfies p. -/
def keep {α : Type} (p : Nat → Bool) (m : Sparse α) : Sparse α := m.filter (fun e => p e.1)

/-- Replace the element at position i of a list (nothing past its end). -/
def setAt {α : Type} : List α → Nat → α → List α
  | [], _, _ => []
  | _ :: t, 0, v => v :: t
  | x :: t, i + 1, v => x :: setAt t i v

/-- Change the element at position i of a list (nothing past its end). -/
def modAt {α : Type} (l : List α) (i : Nat) (f : α → α) : List α :=
  match l[i]? with
  | some x => setAt l i (f x)
  | none => l

end Sys2Proof.Machine
end

