-- ==== Sys2Proof/Machine/State.lean ====
section
/-!
DEFINITION. The state of the 9640 as plain data: every register, memory, buffer, queue, counter and mode the spec
names, the queue of waiting commands, and the state after reset. Dictionary objects that are registers live in `regs`
(Machine/Objects.lean lists them by number); a part's inner state has a structure of its own here.
-/

namespace Sys2Proof.Machine

/-- Why a run stops for good. Nothing of the spec stops the 9640 for good, so the one fault is never raised. -/
inductive Fault where
  /-- Raised by nobody: safe. -/
  | halted
  deriving DecidableEq, Repr

/-- Why a command has no effect of its own. -/
inductive Refusal where
  /-- A command whose meaning is not written: raised by `exec` alone; safe, since nothing is claimed of it. -/
  | notModelled (mnemonic : String)
  /-- A needle instruction the Last rejects at load (R71), which program memory therefore never holds: raised by the
  needle's slots; safe. -/
  | illegalEncoding (code : Nat)
  deriving DecidableEq, Repr

/-! ## The needle (R25–R29) -/

/-- A pointer register: current address, base and length (R26). -/
structure Ptr where
  a : BitVec 14
  b : BitVec 14
  l : BitVec 15
  deriving DecidableEq, Repr

/-- An entry of the parameter-block table (R58): memory, bases of pages A and B, words of a page, the owning piece, the
page-select bit (true: page B) and the stitch of its latest flip. -/
structure ParamBlock where
  blk : Nat
  y : Bool
  baseA : Nat
  baseB : Nat
  size : Nat
  piece : Nat
  sel : Bool
  flip : Nat
  deriving DecidableEq, Repr

/-- The program run in progress: the stitch it belongs to (R29), the slots retired so far, and the slots it comprises (0 for
a program of the ROM). -/
structure Run where
  stitch : Nat
  retired : Nat
  len : Nat
  deriving DecidableEq, Repr

/-- What a needle waits on inside a slot: nothing, a forward read (R67), the refetch of an X or Y word (R361) or of its slot
(R362), or the end of a bobbin's hand-over to it (R152). `since` is the time the wait began, in ps since reset. -/
inductive Wait where
  | none
  | sinf (d : Fin 16) (src : Fin 128) (j : Fin 64) (par : SeamPar) (since : Nat)
  | xy (y : Bool)
  | prog
  | bob (b : Nat)
  deriving DecidableEq, Repr

/-- The window fill of R83: none due, deferred until the run in progress completes, or in progress; for stitch k. -/
inductive Fill where
  | none
  | deferred (k : Nat)
  | filling (k : Nat)
  deriving DecidableEq, Repr

/-- Word j of a run's seam-out as it stood when the run's release slot retired (R67). -/
structure FwdWord where
  stitch : Nat
  j : Nat
  w : Word
  deriving DecidableEq, Repr

/-- The seam words of a needle: those its runs write, those published, the publication before, and those the release slots of its
run of stitch k left (R66, R67). -/
inductive SeamBank where
  | own | pub | prev
  | run (k : Nat)
  deriving DecidableEq, Repr

/-- A seam word whose parity has been found bad: its bank and number (R358, R363). -/
structure SeamMark where
  bank : SeamBank
  j : Nat
  deriving DecidableEq, Repr

/-- A range of words of one memory of a needle, for the word classes of R361. -/
structure WordRange where
  y : Bool
  lo : Nat
  hi : Nat
  piece : Nat
  deriving DecidableEq, Repr

/-- One needle: its architectural state (R26), its memories and windows (R25), the parity bits of its program slots (R53)
and how many slots the Last has written (0 also while a program of the ROM runs, whose words the spec does not give), its seam
words of bad parity and those SOUT has written since the latest publication (R363), what the Last keeps for it (R58, R67, R361), its run and its waits. -/
structure Needle where
  d : Vector Word 16
  acc : Vector Acc 4
  xp : Vector Ptr 4
  yp : Vector Ptr 4
  m : Vector (BitVec 16) 8
  p : Vector Bool 7
  stc : BitVec 64
  x : Sparse Word
  y : Sparse Word
  prog : Sparse (BitVec 64)
  progPar : Sparse (BitVec 8)
  progLen : Nat
  inlet : Sparse Word
  outlet : Sparse Word
  seam : Sparse Word
  pub : Sparse Word
  pubAt : Option Nat
  prev : Sparse Word
  seamBad : List SeamMark
  seamWrit : List Nat
  run : Option Run
  fill : Fill
  filledFor : Option Nat
  wait : Wait
  blocks : List ParamBlock
  release : List (Nat × Nat)
  fwd : List FwdWord
  stickyAt : List (Nat × Nat)
  doneFor : Option Nat
  golden : Sparse Word
  image : Sparse Word
  stateWords : List WordRange
  refetches : Nat
  placed : Bool
  deriving DecidableEq, Repr

/-- A pointer at its start value (R27). -/
def Ptr.start : Ptr := ⟨0, 0, 16384⟩

/-- A needle after reset: registers as R27 starts them, windows and seams 0 (R65, R66), no program. -/
def Needle.start : Needle where
  d := Vector.replicate 16 0
  acc := Vector.replicate 4 0
  xp := Vector.replicate 4 Ptr.start
  yp := Vector.replicate 4 Ptr.start
  m := Vector.replicate 8 0
  p := Vector.replicate 7 false
  stc := 0
  x := []
  y := []
  prog := []
  progPar := []
  progLen := 0
  inlet := []
  outlet := []
  seam := []
  pub := []
  pubAt := none
  prev := []
  seamBad := []
  seamWrit := []
  run := none
  fill := .none
  filledFor := none
  wait := .none
  blocks := []
  release := []
  fwd := []
  stickyAt := []
  doneFor := none
  golden := []
  image := []
  stateWords := []
  refetches := 0
  placed := false

/-! ## Time -/

/-- Time: `up` is the time since reset in ps; `tb` the timebase time in units of 2⁻³² ns and `inc` its advance a
500 MHz cycle (R209); `strobeUp` is `up` at the latest strobe, and `strobeTb` that strobe's grid crossing, moved by the
steps since (R210, R217). -/
structure Clock where
  up : Nat
  tb : Nat
  inc : Nat
  strobeUp : Nat
  strobeTb : Nat
  deriving DecidableEq, Repr

/-- An event written to the log (R365): its code and first argument, and when, in ps since reset. -/
structure EvtMark where
  code : Nat
  arg0 : Nat
  at_ : Nat
  deriving DecidableEq, Repr

/-! ## Pools (R13–R15) -/

/-- A bank of the inlet or outlet pool: the stitch it belongs to, whether it can be written, and the words written. An
unlisted entry has not been written; `held` names the entries of an outlet bank that are not their needle's words of the
stitch: held over, or zero, after an overrun or a twin's mismatch (R84, R145). -/
structure PoolBank where
  stitch : Nat
  isOpen : Bool
  words : List (Nat × Word)
  held : List Nat
  deriving DecidableEq, Repr

/-- A pool channel and the needle word it feeds or is fed from, with the piece and copy it belongs to (R122, R145). -/
structure Route where
  ch : Nat
  needle : Nat
  word : Nat
  piece : Nat
  second : Bool
  deriving DecidableEq, Repr

/-- A change that takes effect at the next strobe (R4, R16, R90, R98, R123, R129, R131, R137, R346, R354). -/
inductive Due where
  | trim
  | testEntry
  | testReturn
  | t0
  | t1
  | shed (pieces : List Nat)
  | remove (piece : Nat)
  | dropLost (piece : Nat)
  | restore (piece : Nat)
  | tap (spool d : Nat)
  | pages (key : Nat) (v : Int)
  | unbaste (num i : Nat)
  | hush
  deriving DecidableEq, Repr

/-- One AVSBus write in progress (R89): its target in mV, whether it raises, and whether it is the retry. -/
structure AvsWrite where
  mv : Nat
  up : Bool
  retry : Bool
  deriving DecidableEq, Repr

/-- The fabric's common state: pools and routes, what is due at the next strobe, the fitting's readings, the voltage loop's
variables (R82, R88, R90), and the usable windows, in Tape units, of ended stitches whose runs may still end (R80). -/
structure Fabric where
  inWr : PoolBank
  inRd : PoolBank
  outBanks : List PoolBank
  outAt : Nat
  routesIn : List Route
  routesOut : List Route
  due : List Due
  fitMin : Sparse Int
  changedInFit : Bool
  raised : Bool
  holdoffEnd : Nat
  shedPending : Bool
  shedAt : Nat
  sinceShed : Bool
  fitSinceShed : Bool
  hitPleats : List Nat
  avs : List AvsWrite
  fitTb : Nat
  lastFitTb : Nat
  windows : List (Nat × Nat)
  deriving DecidableEq, Repr

/-! ## Basting (R95–R112) -/

/-- An outstanding commit: its group, its stitch, its frozen set by register-file key, the words still to copy, and
whether its copy is complete (R100–R107). -/
structure Commit where
  group : Nat
  stitch : Nat
  frozen : List (Nat × Int)
  words : Nat
  copied : Bool
  deriving DecidableEq, Repr

/-- The committed values, which are the active banks of stream gains and universe slots; the pending banks of both; and
the outstanding commits in acceptance order (R95, R103); members leaving their group (R98); and what a stream gain was in
the stitches before its latest changes, as key, stitch of the change and value (R109, R183). -/
structure Baste where
  committed : Sparse Int
  pend : Sparse Int
  commits : List Commit
  leaving : List (Nat × Nat)
  prior : List (Nat × Nat × Int)
  deriving DecidableEq, Repr

/-! ## The Last (R117–R147) -/

/-- A piece descriptor (R119). -/
structure PieceDesc where
  codeFirst : Nat
  codeLen : Nat
  slots : Nat
  gather : Nat
  xWords : Nat
  yWords : Nat
  xInit : Nat
  yInit : Nat
  history : Nat
  memFirst : Nat
  memCount : Nat
  inlets : Nat
  outlets : Nat
  seams : Nat
  priority : Nat
  twin : Bool
  pinned : Bool
  priv : Bool
  policy : Nat
  pin : Nat
  blocks : Nat
  keepD : Nat
  keepA : Nat
  keepP : Nat
  keepPtr : Nat
  keepM : Nat
  name : Nat
  deriving DecidableEq, Repr

/-- A memory record (R121). -/
structure MemRec where
  piece : Nat
  delay : Bool
  noSpool : Bool
  words : Nat
  anchor : Nat
  deriving DecidableEq, Repr

/-- A connection record (R122): kind 0 POOL_IN, 1 POOL_OUT, 2 SEAM. -/
structure Conn where
  kind : Nat
  fwdOk : Bool
  a : Nat
  b : Nat
  index : Nat
  path : Nat
  deriving DecidableEq, Repr

/-- A parameter record (R123). -/
structure Param where
  piece : Nat
  block : Nat
  y : Bool
  offset : Nat
  words : Nat
  ty : Nat
  flags : Nat
  group : Nat
  dflt : Nat
  min : Nat
  max : Nat
  unit : Nat
  rights : Nat
  name : Nat
  deriving DecidableEq, Repr

/-- A constraint record (R124). -/
structure Cons where
  kind : Nat
  mayChange : Bool
  a : Nat
  b : Nat
  value : Nat
  deriving DecidableEq, Repr

/-- A pattern as the Last has read it: its tables, its bytes, each piece's expanded code (R63, R118), and the words the
stores of each piece can reach, as memory (true for Y), first word and end (R68). -/
structure Pattern where
  rate : Nat
  id : Nat
  bytes : Sparse Byte
  initAt : Nat
  strings : Nat
  pieces : List PieceDesc
  code : List (List (BitVec 64))
  stores : List (List (Bool × Nat × Nat))
  mems : List MemRec
  conns : List Conn
  params : List Param
  cons : List Cons
  deriving DecidableEq, Repr

/-- Where a memory record stands: its bobbin and byte offset, its bytes, and whether it is a spool's window (R121,
R132). -/
structure Region where
  rec_ : Nat
  bobbin : Nat
  off : Nat
  bytes : Nat
  isSpool : Bool
  deriving DecidableEq, Repr

/-- Where a parameter block's pages stand (R58). -/
structure BlockPlace where
  y : Bool
  a : Nat
  b : Nat
  size : Nat
  deriving DecidableEq, Repr

/-- One copy of a piece: its needle, its slots, whether they execute (the slots of a shed piece, and those of a migration
at its target before the switch and at its source after it, are gated, R90, R140), and its allotments (R127). -/
structure Copy where
  piece : Nat
  second : Bool
  needle : Nat
  slotFirst : Nat
  slots : Nat
  xBase : Nat
  yBase : Nat
  blkBase : Nat
  blocks : List BlockPlace
  inBase : Nat
  outBase : Nat
  seamBase : Nat
  regions : List Region
  live : Bool
  deriving DecidableEq, Repr

/-- A piece's standing (R93, R146): state 0 none, 1 placed, 2 migrating, 3 shed, 4 removed; completed runs since
placement; its latest migration; a forced switch since placement; the time of its latest switch. -/
structure PieceSt where
  state : Nat
  runs : Nat
  valid : Bool
  lastMove : Option Nat
  forced : Bool
  movedAt : Option Nat
  deriving DecidableEq, Repr

/-- A spool: its piece, copy and memory record, its size in words and its byte offset in the spool region, its window, its
tap, the block fetches and drains by their first stitch, and the spans lost (R132–R137). -/
structure Spool where
  piece : Nat
  second : Bool
  rec_ : Nat
  words : Nat
  base : Nat
  bobbin : Nat
  off : Nat
  tap : Nat
  fetching : List Nat
  fetched : List Nat
  draining : List Nat
  drained : List Nat
  lost : List Nat
  deriving DecidableEq, Repr

/-- A migration (R140, R141): the copies at their targets, and once it has switched those leaving the source; the source
needle, the reason, the first stitch mirroring may start at, whether the copy is done, the postponed stitches, whether it
is forced, the run captured and the stitch of the switch, the SEAM records that are forward reads after it, whether it has
switched, and whether mirroring has begun. -/
structure Mig where
  copies : List Copy
  src : Nat
  reason : Nat
  startAt : Nat
  ready : Bool
  postponed : Nat
  forcing : Bool
  capturedRun : Option Nat
  switchAt : Option Nat
  fwd : List Nat
  switched : Bool
  mirror : Bool
  deriving DecidableEq, Repr

/-- What the Last holds: the pattern pending and placed, the copies, the pieces' standing, spools and migrations; the
edit or placement in progress; the SEAM records placed as forward reads (R122); the pleats barred by a parity storm; and
requests not yet decided (R129, R138). `gone` says where the first copy of a removed piece stood: piece, needle and first
seam-out word (R131); `threshold` is the SPOOL_THRESHOLD of the latest full placement (R132); `freed` the bobbins that patterns ended since it
held (R151). `kept` holds journalled parameter values: PATTERN_ID, number and bytes (R253). -/
structure Last where
  stage : Nat
  pending : Sparse Byte
  next : Option Pattern
  nextCopies : List Copy
  nextSpools : List Spool
  nextFwd : List Nat
  waitRaise : Bool
  pat : Option Pattern
  copies : List Copy
  pieces : Sparse PieceSt
  spools : List Spool
  migs : List Mig
  fwd : List Nat
  barred : List Nat
  requests : List (Nat × Nat × Nat)
  twinSeen : List Nat
  startedAt : Nat
  effMap : List Nat
  safety : Bool
  restoring : List Copy
  restoreSpools : List Spool
  moves : List (Nat × Nat)
  gone : List (Nat × Nat × Nat)
  threshold : Nat
  freed : List Nat
  kept : List (Nat × Nat × List Byte)
  pieceStart : List (Nat × Nat)
  deriving DecidableEq, Repr

/-- A piece that has no standing. -/
def PieceSt.none : PieceSt := ⟨0, 0, false, Option.none, false, Option.none⟩

/-! ## Power (R346–R354) -/

/-- The power states' own variables: the wake sequencer's queue (pleat, wake or power-down, time asked), the times of its
latest begins and the pleats whose wake has begun, with when (R352); HUSH and the leaving of it (R349); the TEST service requested
and in force, as kind, pleats and rate, its first stitch, whether it waits for a raise of VCORE, and how it has ended: TEST_STATE and TEST_RESULT
(R354); and the STANDBY entry
(R350). -/
structure PowerCtl where
  queue : List (Nat × Bool × Nat)
  begun : List Nat
  waking : List (Nat × Nat)
  hush : Bool
  leaving : Bool
  zeroed : Bool
  testReq : Option (Nat × Nat × Nat)
  testRun : Option (Nat × Nat × Nat)
  testFirst : Option Nat
  testWait : Bool
  testOver : Option (Nat × List Nat)
  reload : Bool
  standby : Bool
  deriving DecidableEq, Repr

/-! ## Bobbins, package memory and hems (R152, R163–R166, R367) -/

/-- A control-core access to a bobbin that waits for the end of a hand-over (R152): core, bobbin, byte offset, size in
bytes, and the value of a store. -/
structure BobWait where
  core : Nat
  bobbin : Nat
  off : Nat
  size : Nat
  store : Option Nat
  deriving DecidableEq, Repr

/-- A control-core access to package memory that waits for its channel, or for its chunk to be verified (R18, R322): core,
offset, kind, size in bytes and the value of a store. -/
structure CoreWait where
  core : Nat
  off : Nat
  kind : CoreKind
  size : Nat
  v : Nat
  deriving DecidableEq, Repr

/-- One channel's arbiter (R161–R166): the holder, until the next one's grant; whether its grant has ended, the successor, the requests up, grants won
in the window by requester and in all, the last winner of each class, bursts of the grant and the HOLD_LIMIT it began with,
the latest debug preemption, the classes and quota in force for the window, the spool engine's blocks that wait and the bursts
of the one in hand, and the latest refresh. -/
structure Arb where
  holder : Option Nat
  ended : Bool
  succ : Option Nat
  up : List Nat
  won : List Nat
  grants : Nat
  last : List Nat
  bursts : Nat
  debugAt : Option Nat
  cls : List Nat
  quota : Nat
  limit : Nat
  blocks : Nat
  moved : Nat
  refreshAt : Nat
  deriving DecidableEq, Repr

/-- An arbiter after reset (R162, R167). -/
def Arb.start : Arb :=
  ⟨none, false, none, [], List.replicate 11 0, 0, [3, 10, 9, 0], 0, none, [0, 0, 2, 0, 1, 1, 2, 2, 2, 2, 1], 48, 0, 0, 0, 0⟩

/-- The hem (R367–R369): its length in force, the timebase second of the latest strobe or boundary, the first stitch of the hem in
progress, the other snapshot bank, and when the two latest boundaries fell in ps, the later first. -/
structure Hem where
  n : Nat
  sec : Nat
  first : Nat
  bank : Sparse Int
  swaps : List Nat
  deriving DecidableEq, Repr

/-- An access of a Shuttle, a core, a DMA engine or a serial port to a store has an answer: what it read. -/
inductive CoreAns where
  | value (v : Nat)
  | stored
  | accessFault
  deriving DecidableEq, Repr

/-! ## Shuttles (R169–R193) -/

/-- An accepted packet in a receive buffer: its sequence number, the stream media count of its first sample, its samples
interleaved (R175, R180). -/
structure RxPkt where
  seq : Nat
  first : Nat
  words : List Word
  deriving DecidableEq, Repr

/-- A stream's buffer (R186): its store (0 the SRAM, 1 + b BOBBIN[b], 129 the Shuttle's half of the spill region), its first byte
there, and its bytes. -/
structure Buffer where
  store : Nat
  off : Nat
  bytes : Nat
  deriving DecidableEq, Repr

/-- A receive stream while enabled (R174, R179–R187): its accepted packets, the next sample to deliver, the delivered samples
newest first by stream media count, the last samples received and how many have been missing since, the packet grid, the
packet time last counted missing, the staged map, whether the rate holds it, its buffer, the first stitch that is not concealed
after a restart, and the packet time whose late spill read was last counted. -/
structure RxStream where
  buf : List RxPkt
  next : Option Nat
  hist : List (Nat × List Word)
  hold : List Word
  gap : Nat
  grid : Nat
  missAt : Option Nat
  staged : Option (List Nat)
  held : Bool
  store : Option Buffer
  quiet : Nat
  spillAt : Option Nat
  deriving DecidableEq, Repr

/-- A transmit packet that is formed: sequence number, timestamp, stitch of its first sample and the one it was formed at,
whether the timebase was then in holdover, whether a sample was held or substituted, and its samples interleaved (R176, R178,
R188). -/
structure TxPkt where
  seq : Nat
  ts : Nat
  stitch : Nat
  formed : Nat
  holdover : Bool
  concealed : Bool
  words : List Word
  deriving DecidableEq, Repr

/-- A transmit stream while enabled (R178, R182, R188): fabric samples newest first by media count, the samples of the
packet being formed, whether one of them was held or substituted, and the media count and stitch of its first fabric stitch,
the next sequence number, the packets ready, the latest bank read, the staged map, whether the rate holds it, and its
buffer. -/
structure TxStream where
  hist : List (Nat × List Word)
  acc : List (List Word)
  accBad : Bool
  first : Option (Nat × Nat)
  seq : Nat
  ready : List TxPkt
  lastRead : Option Nat
  staged : Option (List Nat)
  held : Bool
  store : Option Buffer
  deriving DecidableEq, Repr

/-- A stream that is not enabled. -/
def RxStream.start : RxStream := ⟨[], none, [], [], 0, 0, none, none, false, none, 0, none⟩
/-- A transmit stream that is not enabled. -/
def TxStream.start : TxStream := ⟨[], [], false, none, 0, [], none, none, false, none⟩

/-- A sent packet's audit record (R191): stream, sequence number, CRC-32, send time in ns of timebase time, the audit
configurations (Shuttle and element) it has been matched for, and whether it has been counted lost for the others. -/
structure AuditRec where
  stream : Nat
  seq : Nat
  crc : Nat
  at_ : Nat
  matched : List (Nat × Nat)
  lost : Bool
  deriving DecidableEq, Repr

/-- One Shuttle: its streams, its control queue (frame kinds in arrival order, each with the timebase time in ns it arrived at),
the time of the latest IGMPv2 query, the times of the latest ICMP replies, its sent packets' audit records, its gateway's
MAC address once resolved (R169, R191, R192), and the bytes at which words of its SRAM with bad parity begin (R186, R358). -/
structure Shuttle where
  rx : Sparse RxStream
  tx : Sparse TxStream
  ctrlq : List (CtrlKind × Nat)
  igmpV2 : Option Nat
  icmp : List Nat
  audit : List AuditRec
  gwMac : Option Nat
  sramBad : List Nat
  deriving DecidableEq, Repr

/-- A Shuttle after reset. -/
def Shuttle.start : Shuttle := ⟨[], [], [], none, [], [], none, []⟩

/-- An access of a Shuttle that waits for the end of a hand-over of a bobbin to it (R152): a write of words of a buffer, the
samples of a stitch for the inlet pool, or the packet a transmit stream sends, with the faults their reads meet. -/
inductive ShWait where
  | write (sh : Nat) (b : Buffer) (words : List (Nat × Word))
  | pool (sh : Nat) (faults : List SampleFault)
  | send (sh i : Nat) (faults : List SampleFault)
  deriving DecidableEq, Repr

/-! ## TDM ports (R194–R207) -/

/-- A received frame that waits for its inlet bank: when it completed, in ps since reset, with the synchronizing time; its
words by inlet channel; and whether it is the first under a new table (R199, R203). -/
structure TdmFrame where
  ready : Nat
  words : List (Nat × Word)
  newTable : Bool
  deriving DecidableEq, Repr

/-- A TDM port: its clock (0 off, 1 running, 2 no clock, 3 clock fault), the frames that wait, the staged tables, whether
the next received frame is the first under new ones, the bank last sent, the time of the latest frame received, and the
settings it runs under (R199–R203). -/
structure TdmPort where
  clock : Nat
  done : List TdmFrame
  staged : Option (List Nat × List Nat)
  newTable : Bool
  lastSent : Option Nat
  frameAt : Nat
  cfg : Nat
  deriving DecidableEq, Repr

/-- A TDM port after reset. -/
def TdmPort.start : TdmPort := ⟨0, [], none, false, none, 0, 0⟩

/-! ## The timebase (R208–R230) -/

/-- A leader heard of (R212, R220): port, identity, the data set in the order it is compared, its clockClass, steps
removed, and when it was last heard twice. -/
structure Foreign where
  port : Nat
  id : Nat
  prio1 : Nat
  cls : Nat
  accuracy : Nat
  variance : Nat
  prio2 : Nat
  steps : Nat
  heard : List Nat
  deriving DecidableEq, Repr

/-- The timebase's own variables: the media count of the stitch in progress (R177); a step that waits, in units of
2⁻³² ns, whether lock comes with it, and whether the period in progress holds a step (R217, R218); agreeing and large
offsets (R215); the servo's target increment, its last outputs and the time of the latest change of the increment (R209,
R216, R219); leaders heard (R212); the exchange in progress: a Sync that waits for its Follow_Up, the latest t1 and t2
with corrections, and the Delay_Req sent (R213); each output's phase where its latest move began, and that timebase time
(R227, R228); the time of the latest PPS_IN edge and whether a qualified one has set the
seconds; whether LOCKED has been reached since reset; whether an acquisition slews; the numbers of Syncs, Announces and Delay_Reqs sent; when Sync and
Announce were last sent, when the next Delay_Req is due and the leader's logMinDelayReqInterval (R211, R213); whether the
active port's announce receipt timeout has expired (R220); the time of the latest offset, and the sum of offsets times
spans (R215, R216); the correction that met the clamp (R209); what the timebase runs from (0 crystal, 1 REF_IN, 2 WCK_IN, 3
backup, R221); and the first whole second at which PTP_PPS_OUT rises (R229). -/
structure Timebase where
  media : Option Nat
  stepDue : Option Int
  stepLocks : Bool
  stepped : Bool
  agree : List Int
  large : Nat
  target : Nat
  outs : List Nat
  freqAt : Option Nat
  foreign : List Foreign
  sync : Option (Nat × Int × Int)
  pair : Option (Int × Int)
  req : Option (Nat × Int)
  delayOk : Bool
  phase : List Int
  phaseAt : List Nat
  ppsAt : Option Nat
  ppsOk : Bool
  locked : Bool
  slewing : Bool
  seqs : List Nat
  syncAt : Option Nat
  annAt : Option Nat
  reqAt : Nat
  reqLog : Option Int
  expired : Bool
  offAt : Nat
  integ : Int
  clamped : Option Int
  src : Nat
  ppsFrom : Nat
  deriving DecidableEq, Repr

/-- The timebase after reset (R208). -/
def Timebase.start : Timebase :=
  ⟨none, none, false, false, [], 0, 2 * 2 ^ 32, [], none, [], none, none, none, false, List.replicate 10 0,
    List.replicate 10 0, none, false, false, false, [0, 0, 0], none, none, 0, none, false, 0, 0, none, 0, 0⟩

/-! ## The safety matrix (R313–R316, R398) -/

/-- The safety matrix: the table in use, whether a valid one was found, whether it is loaded, whether the journal has been
restored since (R314), from which stitch on it is in force (R205, R313), input words of the latest 480 stitches newest first, each input's attenuation in
1/256 dB, and its outputs of the stitch. -/
structure Safety where
  table : Sparse Byte
  valid : Bool
  loaded : Bool
  journal : Bool
  since : Option Nat
  past : List (List Word)
  atten : List Nat
  out : List Word
  deriving DecidableEq, Repr

/-- The safety matrix after reset. -/
def Safety.start : Safety := ⟨[], false, false, false, none, [], List.replicate 64 0, List.replicate 64 0⟩

/-! ## The dictionary (R231–R257, R272, R273) -/

/-- A contribution to an object under HTP or LTP: its source, its value, and the order of its latest change (R243). -/
structure Contrib where
  src : Src
  v : Int
  at_ : Nat
  deriving DecidableEq, Repr

/-- A tack: its identifier, its holder, the numbers it covers and its expiry in ps since reset (R272). -/
structure Tack where
  id : Nat
  src : Src
  lo : Nat
  hi : Nat
  expiry : Nat
  deriving DecidableEq, Repr

/-- A broken-tack record (R273): its numbers, reason, core (255 none), holder, stitch, and when it was made. -/
structure TackRec where
  lo : Nat
  hi : Nat
  reason : Nat
  core : Nat
  holder : Nat
  stitch : Nat
  at_ : Nat
  deriving DecidableEq, Repr

/-- A subscription (R254): its owner, its numbers, its interval in ms, when it was accepted, the order of the latest
change notified, and the values last notified of objects that change unwritten. -/
structure Sub where
  src : Src
  first : Nat
  count : Nat
  ms : Nat
  at_ : Nat
  last : Nat
  told : Nat
  seen : List (Nat × List Int)
  deriving DecidableEq, Repr

/-- The journal's inner state (R251–R253): the flash area in use and its sequence, the bytes used there, the objects
changed in the batch that runs and when it began, whether the other area is still erasing, whether the flash has
failed (R252), and when each lifetime counter got its last entry (R371). -/
structure Journal where
  area : Nat
  seq : Nat
  used : Nat
  dirty : List Nat
  began : Nat
  erasing : Bool
  fault : Bool
  lifeAt : Sparse Nat
  deriving DecidableEq, Repr

/-- The dictionary engine: contributions and PRIORITY holders by object number, the order of changes so far, tacks,
broken-tack records, breaks not yet notified to every subscription (numbers and order), subscriptions, and the journal. -/
structure Dict where
  contribs : Sparse (List Contrib)
  holders : Sparse (Option (Src × Nat))
  order : Nat
  tacks : List Tack
  records : List TackRec
  broken : List (Nat × Nat × Nat)
  subs : List Sub
  journal : Journal
  deriving DecidableEq, Repr

/-- The dictionary engine after reset. -/
def Dict.start : Dict := ⟨[], [], 0, [], [], [], [], ⟨0, 0, 0, [], 0, false, false, []⟩⟩

/-! ## Ursin (R258–R275) -/

/-- A message the part sends: transport, the address and port it goes to (R258), header fields and payload in clear, and its
bytes as they are sent (R260, R263). -/
structure Reply where
  via : Nat
  ip : Nat
  udp : Nat
  session : Nat
  seq : Nat
  opcode : Nat
  flags : Nat
  status : Nat
  count : Nat
  object : Nat
  first : Nat
  payload : List Byte
  raw : List Byte
  deriving DecidableEq, Repr

/-- The keys and salts of a session: client to device, device to client (R263). -/
structure Keys where
  toDevice : List Byte
  toClient : List Byte
  clientSalt : List Byte
  deviceSalt : List Byte
  deriving DecidableEq, Repr

/-- A live session: its id and its place in the SESS objects, role (none for a stranger), priority, leaf certificate,
whether it was established over IP, when its latest message passed, the highest SEQ handled, the replies still in the
window, the next NOTIFY number, the source of its latest accepted message, and its keys (R258, R263, R264, R268, R270). -/
structure Session where
  id : Nat
  slot : Nat
  role : Option Nat
  prio : Nat
  leaf : Nat
  overIp : Bool
  at_ : Nat
  h : Nat
  replies : List (Nat × Reply)
  notify : Nat
  via : Nat
  ip : Nat
  udp : Nat
  keys : Keys
  deriving DecidableEq, Repr

/-- A handshake in progress: the id given, when its HELLO came, the highest SEQ handled, the exchanges completed, its replies, MODE and
PRIORITY asked, the nonces and the shared secret its keys are derived from (R263), and the bytes its transcript hash is taken
over so far (R268). -/
structure Hand where
  id : Nat
  at_ : Nat
  h : Nat
  stage : Nat
  replies : List (Nat × Reply)
  mode : Nat
  prio : Nat
  via : Nat
  salt : List Byte
  secret : List Byte
  transcript : List Byte
  deriving DecidableEq, Repr

/-- Sessions and handshakes, the messages that wait for read answers on the serial port (true: a NOTIFY), and datagrams
being reassembled with when they began (R259, R274). -/
structure Ursin where
  sessions : List Session
  hands : List Hand
  serialq : List (Bool × Reply)
  frags : List (Nat × Nat)
  deriving DecidableEq, Repr

/-! ## Venue control ports (R276–R296) -/

/-- A live sACN source: CID, universe index, last sequence number, when its latest packet was accepted, its priority, and
a packet held for synchronization: address, slots, when it came, its priority (R277–R279). -/
structure SacnSrc where
  cid : Nat
  univ : Nat
  seq : Nat
  at_ : Nat
  prio : Nat
  held : Option (Nat × List Byte × Nat × Nat)
  deriving DecidableEq, Repr

/-- An RDM request (R288, R289). -/
inductive RdmReq where
  | cmd (l : List Byte)
  | unmute
  | branch (lo hi : Nat)
  | mute (uid : Nat)
  deriving DecidableEq, Repr

/-- A discovery in progress (R289): DISC_UN_MUTE requests still to send, the branches to search with the tries of a
single UID, the UID being muted, and UIDs listed. -/
structure Disc where
  unmutes : Nat
  stack : List (Nat × Nat × Nat)
  muting : Option Nat
  found : Nat
  full : Bool
  deriving DecidableEq, Repr

/-- A DMX port (R284–R290): when the frame being sent ends, the RDM request on the line and when its window ends, the command pending, the discovery, cue
points since one was given up, when its latest frame was accepted in IN mode, and the stitch of the latest cue point. -/
structure DmxPort where
  sending : Option Nat
  req : Option RdmReq
  reqEnd : Nat
  cmd : Option (List Byte)
  disc : Option Disc
  since : Nat
  inAt : Option Nat
  cueAt : Option Nat
  level : Nat
  deriving DecidableEq, Repr

/-- A DMX port after reset. -/
def DmxPort.start : DmxPort := ⟨none, none, 0, none, none, 15, none, none, 1⟩

/-- The slot engine and the ports' inner state: UNIV_BASE in force (R276), live sACN sources, synchronization packets'
last numbers (R279), sequence numbers sent by universe, terminated packets still to send by universe (R283), packets not
yet sent, the stitch and time of the latest cue point, when a discovery packet
was last sent, the ports, OSC peers' latest accepted messages, and the OSC mapping entries with the order of the latest change sent,
the value last sent of objects that change unwritten, when the entry was written and when its latest boundary was handled
(R254, R294). -/
structure Venue where
  base : Nat
  srcs : List SacnSrc
  syncs : List (Nat × Nat × Nat × Nat)
  seqs : Sparse Nat
  term : Sparse Nat
  slow : List (Nat × Nat)
  cueAt : Option Nat
  cueTime : Nat
  discAt : Nat
  dmx : List DmxPort
  oscAt : List (Option Nat)
  map : Sparse (List Byte)
  mapLast : Sparse Nat
  mapSeen : Sparse (List Byte)
  mapAt : Sparse Nat
  mapTold : Sparse Nat
  strange : List Nat
  deriving DecidableEq, Repr

/-- The venue ports after reset. -/
def Venue.start : Venue :=
  ⟨1, [], [], [], [], [], none, 0, 0, List.replicate 8 DmxPort.start, List.replicate 8 none, [], [], [], [], [], []⟩

/-! ## Serial port and DMA (R297–R310) -/

/-- A core's master transaction as its record gives it when it starts (R299, R300): the core, the select, idle cycles, bytes to read
and where they go, the command bytes, and the flash address they name (R312). -/
structure SerTx where
  core : Nat
  sel : Nat
  ta : Nat
  rxLen : Nat
  rx : Nat
  cmd : List Byte
  addr : Nat
  deriving DecidableEq, Repr

/-- The serial port: role 0 idle, 1 master, 2 slave; SEL_IN asserted; from when the port may master; cores with a transaction
queued, with its record's offset, the one running, and one to repeat after a mode fault; a transaction of the 9640's own runs
(R298); the frame of this SEL_IN assertion is over (R301, R302); messages in the receive buffer (R301); the boot flash's extended
address register and write enable as the part tracks them (R312); cores whose serial interrupt is raised (R300). -/
structure Serial where
  role : Nat
  selIn : Bool
  freeAt : Nat
  queue : List (Nat × Nat)
  running : Option SerTx
  again : Option SerTx
  own : Bool
  used : Bool
  frames : List (List Byte)
  bank : Nat
  wel : Bool
  irq : List Nat
  deriving DecidableEq, Repr

/-- A DMA descriptor as fetched (R304). -/
structure DmaDesc where
  addr : Nat
  src : Nat
  dst : Nat
  len : Nat
  srcK : Nat
  dstK : Nat
  irq : Bool
  next : Nat
  deriving DecidableEq, Repr

/-- A DMA channel with a chain running: its descriptor, the bytes moved, whether a stop waits for the piece, and the address
of a descriptor whose fetch waits for the end of a hand-over (R152). -/
structure DmaRun where
  d : DmaDesc
  done : Nat
  stop : Bool
  fetch : Option Nat
  deriving DecidableEq, Repr

/-! ## Boot, debug and the standby island (R311–R357) -/

/-- The standby island's RTC (R351): its value in ps at time `at_` of the clock since reset. -/
structure Island where
  rtc : Nat
  at_ : Nat
  deriving DecidableEq, Repr

/-- A reply that waits for the end of what its write began: an Ursin reply, or a control core's store (R330). -/
inductive Held where
  | reply (r : Reply)
  | core (n : Nat)
  | none
  deriving DecidableEq, Repr

/-- The boot chain (R313–R332): whether the slot records have been read and control traffic is admitted, the slots still
to try with their kinds (0 ACTIVE, 1 TRIAL, 2 FALLBACK), the first of the order, the slot in hand with its kind, its
manifest, the next chunk and whether it failed once, whether stage 2 runs and when a trial's began, the target of an
update that is open, its next offset and the session of a recovery write, the reply a validation holds, the staged
safety table, and a reset due with its time and cause. -/
structure Boot where
  chosen : Bool
  admitted : Bool
  order : List (Nat × Nat)
  headSlot : Nat
  cur : Option (Nat × Nat)
  manifest : List Byte
  chunk : Nat
  retry : Bool
  stage2 : Bool
  trialAt : Option Nat
  target : Option Nat
  next : Nat
  session : Option Nat
  validating : Option Held
  stage : Sparse Byte
  due : Option (Nat × Nat)
  deriving DecidableEq, Repr

/-- The boot chain after reset. -/
def Boot.start : Boot := ⟨false, false, [], 0, none, [], 0, false, false, none, none, 0, none, none, [], none⟩

/-- The debug port (R339–R345): a challenge read and not yet answered, as its nonce and the device's private key; the
session's role and time of its latest frame, its keys and the frames that passed; refusals in a row, the end of a lockout,
cores halted, breakpoints, whether DEBUG_OPEN opened the level, the TAP's instruction register (R339), and accesses to a byte of
package memory that wait for a preemption, each an offset and what is written (R166, R343). -/
structure Debug where
  asked : Option (List Byte × Nat)
  session : Option (Nat × Nat)
  keys : Keys
  frames : Nat
  refusals : Nat
  lockout : Option Nat
  halted : List Nat
  breaks : List (Nat × Nat)
  opened : Bool
  ir : Byte
  waits : List (Nat × Option Byte)
  deriving DecidableEq, Repr

/-- The debug port after reset, its instruction register at IDCODE (PRESUMED, assumption 198: as IEEE 1149.1 has it). -/
def Debug.start : Debug := ⟨none, none, ⟨[], [], [], []⟩, 0, 0, none, [], [], false, 1, []⟩

/-- The Thimble: its operations, by core, as the record's offset; and the keys of its slots 0–7, empty while a slot is EMPTY
(R338). -/
structure Misc where
  thm : List (Option Nat)
  keys : List (List Byte)
  deriving DecidableEq, Repr

/-! ## What leaves the part -/

/-- How a frame on a network port is marked (R169): its VLAN tag, of an IPv4 packet its DSCP, and of a UDP packet a Shuttle sends
its checksum. -/
structure NetTag where
  vlan : Option Nat
  dscp : Option Nat
  csum : Option Nat
  deriving DecidableEq, Repr

/-- What a frame on a network port carries: ARP, ICMP and IGMP (R169); RTP with its header's bytes and its payload (R178); PTP
(R211–R213) with an Announce's data set; an Ursin message with the bytes of its datagram's fragments (R259, R260); sACN by
multicast address with CID and source name, to UDP port 5568 (R283); and OSC (R294). -/
inductive NetMsg where
  | arp (reply : Bool) (ip : Nat)
  | icmp (ip : Nat)
  | igmp (v2 : Bool) (groups : List (Nat × List Nat))
  | rtp (dest port : Nat) (header payload : List Byte)
  | ptp (kind domain seq : Nat) (interval corr : Int) (time req : Nat) (ann : List Nat)
  | ursin (ip udp : Nat) (r : Reply) (frags : List (List Byte))
  | sacn (dest univ seq prio sync : Nat) (cid name : List Byte) (term : Bool) (slots : List Byte)
  | sacnSync (cid : List Byte) (addr : Nat)
  | sacnDiscovery (cid name : List Byte) (univs : List Nat)
  | osc (ip port : Nat) (addr : List Byte) (tag : Nat) (arg : List Byte)
  deriving DecidableEq, Repr

/-- How a TDM frame stands on its pins (R196, R197): the BCLK cycles FSYNC is active and its level then (of a master), the
cycles from there to slot 0, whether DOUT is launched at the rising edge, and the BCLK period in ps. -/
structure TdmForm where
  width : Option Nat
  high : Bool
  delay : Nat
  rising : Bool
  bclk : Nat
  deriving DecidableEq, Repr

/-- A clock output's waveform (R224, R225): its frequency in Hz as a fraction, the timebase time of its first rising edge in
units of 2⁻³² ns, and the width of a pulse in µs (0 where the duty is the divider's). -/
structure ClkWave where
  num : Nat
  den : Nat
  edge : Nat
  width : Nat
  deriving DecidableEq, Repr

/-- What the part sends out, newest first, and where it starts a control core (R323, R356); ports 0 and 1 are the Shuttles, 2 and 3 the 10BASE-T1S segments. -/
inductive Out where
  | avsWrite (rail mv : Nat)
  | core (n : Nat) (a : CoreAns)
  | frame (port : Nat) (tag : NetTag) (m : NetMsg)
  | tdm (p : Nat) (form : TdmForm) (slots : List (Option Word))
  | tdmIdle (p : Nat) (dout : Option Word)
  | clock (i : Nat) (c : Option ClkWave)
  | serial (l : List Byte)
  | dmx (p brk mab mbs : Nat) (slots : List Byte)
  | rdm (p : Nat) (uid : Nat) (r : RdmReq)
  | spi (sel : Nat) (cmd : List Byte) (ta rxLen : Nat)
  | spiStop
  | jtag (width v : Nat)
  | pins (v : Nat)
  | debug (denied : Bool) (data : List Byte)
  | railEn (on : Bool)
  | start (core : Nat) (pc : Nat) (a0 : Option Nat)
  deriving DecidableEq, Repr

/-- Where the part stands between power and service (R350, R355, R377): no power, standby island alone, held in
reset, or running. -/
inductive Phase where
  | off | standby | inReset | running
  deriving DecidableEq, Repr

/-- The whole state. `pending` is the queue of waiting commands, first in first out; `deadlineOf` the stitch whose deadline has
been handled; `phase`, `clk` and `evts` the part's phase, its clock and the events of the latest 100 ms (R365); `chg` and
`chgSeq` when each object last changed, as an order (R254); `regs` and `blobs` the register file of the dictionary, by number
and element; `e16` the order code (R1); `ndl`, `bob` and `pm` the needles, bobbins and package memory, and `bobBad` the bobbin bytes
whose parity is bad (R148), by cell; then the units: the
fabric, basting, the Last, power, the DRAM arbiters, the accesses of cores and Shuttles that wait, the hem, Shuttles, TDM ports, the timebase, the safety
matrix, the dictionary engine, Ursin, the venue ports, the serial port, DMA, the boot flash with the offsets that no longer program (assumption 169), KEY_KILL, the standby island, the
boot chain, the debug port and the Thimble. `out` is what the part has sent, newest first, and `free` counts the free values
used: these two, `pending`, `chg` and `chgSeq` are the model's own. -/
structure State where
  pending : List Instr
  deadlineOf : Option Nat
  phase : Phase
  chg : Sparse Nat
  chgSeq : Nat
  evts : List EvtMark
  regs : Sparse Int
  blobs : Sparse (List Byte)
  e16 : Bool
  clk : Clock
  ndl : Sparse Needle
  bob : List Host.Cell
  bobBad : List Nat
  pm : List Host.Cell
  fab : Fabric
  baste : Baste
  last : Last
  pw : PowerCtl
  arb : List Arb
  bobWaits : List BobWait
  shWaits : List ShWait
  coreWaits : List CoreWait
  hem : Hem
  sh : List Shuttle
  tdm : List TdmPort
  tbs : Timebase
  safe : Safety
  dict : Dict
  ursin : Ursin
  ven : Venue
  ser : Serial
  dma : List (Option DmaRun)
  dmaLast : Nat
  flash : Sparse Byte
  worn : List Nat
  keyKill : Bool
  island : Island
  boot : Boot
  dbg : Debug
  misc : Misc
  out : List Out
  free : Nat
  deriving DecidableEq, Repr

/-- The machine right after reset: the needles of PLEAT[0] read IDLE (R313), DEBUG_LEVEL OPEN as in every BLANK part (R340),
every other object its default. -/
def State.reset : State where
  pending := []
  deadlineOf := none
  phase := .running
  chg := []
  chgSeq := 0
  evts := []
  regs := (0x2180 * 2048, 2) :: (List.range 8).map (fun n => ((0xC000 + 64 * n) * 2048, 1))
  blobs := []
  e16 := true
  clk := ⟨0, 0, 2 * 2 ^ 32, 0, 0⟩
  ndl := []
  bob := []
  bobBad := []
  pm := []
  fab := ⟨⟨1, true, [], []⟩, ⟨0, false, [], []⟩, [], 0, [], [], [], [], false, false, 0, false, 0, false, false, [], [], 0, 0, []⟩
  baste := ⟨[], [], [], [], []⟩
  last := ⟨0, [], none, [], [], [], false, none, [], [], [], [], [], [], [], [], 0, [], false, [], [], [], [], 65536, [], [], []⟩
  pw := ⟨[], [], [], false, false, false, none, none, none, false, none, false, false⟩
  arb := [Arb.start, Arb.start]
  bobWaits := []
  shWaits := []
  coreWaits := []
  hem := ⟨60, 0, 0, [], []⟩
  sh := [Shuttle.start, Shuttle.start]
  tdm := List.replicate 16 TdmPort.start
  tbs := Timebase.start
  safe := Safety.start
  dict := Dict.start
  ursin := ⟨[], [], [], []⟩
  ven := Venue.start
  ser := ⟨0, false, 0, [], none, none, false, false, [], 0, false, []⟩
  dma := List.replicate 16 none
  dmaLast := 15
  flash := []
  worn := []
  keyKill := false
  island := ⟨0, 0⟩
  boot := Boot.start
  dbg := Debug.start
  misc := ⟨List.replicate 4 none, List.replicate 8 []⟩
  out := []
  free := 0

end Sys2Proof.Machine
end

