-- ==== Sys2Proof/Machine/Ops.lean ====
section
/-!
DEFINITION. The named operations every chapter's meanings use: reading and writing an object, counting, the event log,
time, needles, and what leaves the part.
-/

namespace Sys2Proof.Machine

/-! ## Objects (R231, R240, R366, R370) -/

/-- The value of element i of object num as its subsystem holds it. -/
def State.obj (s : State) (num : Nat) (i : Nat := 0) : Int := look (objRest s.e16) s.regs (objKey num i)

/-- The same as a natural number, for the unsigned types. -/
def State.nat (s : State) (num : Nat) (i : Nat := 0) : Nat := (s.obj num i).toNat

/-- Note that object num changed, for subscriptions (R254). -/
def State.touch (s : State) (num : Nat) : State :=
  { s with chg := put (fun _ => 0) s.chg num (s.chgSeq + 1), chgSeq := s.chgSeq + 1 }

/-- Give element i of object num the value v. -/
def State.setObj (s : State) (num i : Nat) (v : Int) : State :=
  if s.obj num i = v then s
  else ({ s with regs := put (objRest s.e16) s.regs (objKey num i) v } : State).touch num

/-- Give element i of object num a natural number. -/
def State.setNat (s : State) (num i v : Nat) : State := s.setObj num i (Int.ofNat v)

/-- A STR or BLOB object. -/
def State.blob (s : State) (num : Nat) : List Byte := look Obj.blobDflt s.blobs num

/-- Give a STR or BLOB object its bytes. -/
def State.setBlob (s : State) (num : Nat) (v : List Byte) : State :=
  if s.blob num = v then s else ({ s with blobs := put Obj.blobDflt s.blobs num v } : State).touch num

/-- Bit b of element i of an object. -/
def State.bit (s : State) (num i b : Nat) : Bool := (s.nat num i).testBit b

/-- The number v with bit b set or cleared. -/
def setBitTo (v b : Nat) (on : Bool) : Nat :=
  if on then v ||| 2 ^ b else if v.testBit b then v - 2 ^ b else v

/-- Set or clear bit b of element i of an object. -/
def State.setBit (s : State) (num i b : Nat) (on : Bool) : State := s.setNat num i (setBitTo (s.nat num i) b on)

/-- A bit of an object spread over elements of 32 bits. -/
def State.mapBit (s : State) (num b : Nat) : Bool := s.bit num (b / 32) (b % 32)

/-- Set or clear a bit of an object spread over elements of 32 bits. -/
def State.setMapBit (s : State) (num b : Nat) (on : Bool) : State := s.setBit num (b / 32) (b % 32) on

/-- Bits hi–lo of a number. -/
def bits (v hi lo : Nat) : Nat := (v / 2 ^ lo) % 2 ^ (hi - lo + 1)

/-- The number v with bits hi–lo replaced by f. -/
def withBits (v hi lo f : Nat) : Nat :=
  v - bits v hi lo * 2 ^ lo + (f % 2 ^ (hi - lo + 1)) * 2 ^ lo

/-- Bits hi–lo of element i of an object. -/
def State.field (s : State) (num i hi lo : Nat) : Nat := bits (s.nat num i) hi lo

/-- Give bits hi–lo of element i of an object the value f. -/
def State.setField (s : State) (num i hi lo f : Nat) : State := s.setNat num i (withBits (s.nat num i) hi lo f)

/-- The number of a needle's object: its block stands at #000C000 + 64n (R6). -/
def ndlObj (n off : Nat) : Nat := 0xC000 + 64 * n + off

/-- Set the OVF bit of a hem counter (R370). The OVF object of a needle or Shuttle lies in that unit's own block. -/
def State.setOvf (s : State) (num i : Nat) : State :=
  match Obj.ovfOf (Obj.canon num) i with
  | none => s
  | some (c, b) =>
    let n := num + c - Obj.canon num
    match Obj.desc? n with
    | some d => if d.ty = .u64 then s.setBit n 0 b true else s.setBit n (b / 32) (b % 32) true
    | none => s

/-- Advance a hem counter by k: it saturates at 0xFFFF_FFFF and its OVF bit is set (R370). -/
def State.bump (s : State) (num : Nat) (i : Nat := 0) (k : Nat := 1) : State :=
  let v := s.nat num i + k
  if v ≤ 0xFFFFFFFF then s.setNat num i v else (s.setNat num i 0xFFFFFFFF).setOvf num i

/-- Advance a lifetime counter by k, modulo 2⁶⁴ (R370). -/
def State.bumpLife (s : State) (num : Nat) (k : Nat := 1) : State := s.setNat num 0 ((s.nat num 0 + k) % 2 ^ 64)

/-- Raise a hem maximum to v where v is larger. -/
def State.raise (s : State) (num i v : Nat) : State := if s.nat num i < v then s.setNat num i v else s

/-! ## Time (R209, R210) -/

/-- dt cycles of the 500 MHz timebase clock pass. -/
def tick (dt : Nat) (s : State) : State :=
  { s with clk := { s.clk with up := s.clk.up + dt * 2000, tb := s.clk.tb + dt * s.clk.inc } }

/-- Timebase time in whole nanoseconds. -/
def State.tbNs (s : State) : Nat := s.clk.tb / 2 ^ 32

/-- Timebase time in whole seconds. -/
def State.tbSec (s : State) : Nat := s.tbNs / 1000000000

/-- The number of the stitch in progress. -/
def State.stitch (s : State) : Nat := s.nat Obj.stitchNow

/-- Time since reset in ps, and the same for a span in ms. -/
def State.now (s : State) : Nat := s.clk.up
/-- Picoseconds in a millisecond. -/
def msPs : Nat := 1000000000

/-! ## Needles -/

/-- Needle n. -/
def State.needle (s : State) (n : Nat) : Needle := look (fun _ => Needle.start) s.ndl n

/-- Give needle n the state nd. -/
def State.setNeedle (s : State) (n : Nat) (nd : Needle) : State :=
  { s with ndl := put (fun _ => Needle.start) s.ndl n nd }

/-- Change needle n. -/
def State.modNeedle (s : State) (n : Nat) (f : Needle → Needle) : State := s.setNeedle n (f (s.needle n))

/-- PLEAT[p] is powered. -/
def State.pleatOn (s : State) (p : Nat) : Bool := s.bit Obj.pleatPower 0 p

/-- FULL service: write-back truncates (R34); in TRIM and TEST it rounds. -/
def State.full (s : State) : Bool := s.nat Obj.serviceLevel == 0

/-! ## Free values and what leaves the part -/

/-- A free value, and the state with the next one ready. -/
def State.fresh (s : State) : Nat × State := (Config.freeNat s.free, { s with free := s.free + 1 })

/-- Send something out. -/
def State.emit (s : State) (o : Out) : State := { s with out := o :: s.out }

/-! ## The event log (R365, R366) -/

/-- The n low bytes of v, little-endian. -/
def leBytes : Nat → Nat → List Byte
  | 0, _ => []
  | n + 1, v => BitVec.ofNat 8 v :: leBytes n (v / 256)

/-- The number little-endian bytes stand for. -/
def leNat : List Byte → Nat
  | [] => 0
  | b :: t => b.toNat + 256 * leNat t

/-- The number big-endian bytes stand for. -/
def beNat (l : List Byte) : Nat := leNat l.reverse

/-- The n low bytes of v, big-endian. -/
def beBytes (n v : Nat) : List Byte := (leBytes n v).reverse

/-- An I32 argument: v clamped to 32 bits, as its pattern. -/
def i32Arg (v : Int) : Nat :=
  let w := if v > 2147483647 then 2147483647 else if v < -2147483648 then -2147483648 else v
  (w % 4294967296).toNat

/-- Write an event to the log with the stitch it names, unless an entry with the same code and first argument was
written within the previous 100 ms: then it is suppressed and counted (R365). -/
def State.logAt (s : State) (code reason stitch a0 a1 a2 : Nat) : State :=
  let recent := s.evts.filter (fun e => decide (s.now < e.at_ + 100 * msPs))
  if recent.any (fun e => e.code == code && e.arg0 == a0) then
    State.bump { s with evts := recent } Obj.evtSuppressedHem
  else
    let q := s.nat Obj.evtHead + 1
    let entry := leBytes 8 q ++ leBytes 8 stitch ++ leBytes 2 code ++ leBytes 1 reason ++ leBytes 1 0 ++
      leBytes 4 a0 ++ leBytes 4 a1 ++ leBytes 4 a2
    let s1 : State := { s with evts := ⟨code, a0, s.now⟩ :: recent }
    (s1.setNat Obj.evtHead 0 q).setBlob (Obj.evtEntry0 + (q - 1) % 2048) entry

/-- Write an event whose STITCH is STITCH_NOW (R365). -/
def State.log (s : State) (code : Nat) (a0 : Nat := 0) (a1 : Nat := 0) (a2 : Nat := 0) (reason : Nat := 0) : State :=
  s.logAt code reason s.stitch a0 a1 a2

/-! ## Outcomes -/

/-- A meaning of a part that is out of reset: a clocked command first lets its cycles pass; while the part is not
running nothing else comes about. -/
def whenRunning (dt : Nat) (s : State) (f : State → State) : Host.Outcome State Fault Refusal :=
  let s1 := tick dt s
  .next (if s1.phase = .running then f s1 else s1)

end Sys2Proof.Machine
end

