-- ==== Sys2Proof/Machine/PkgMem.lean ====
section
/-!
DEFINITION. Package memory: its size, its regions and its bytes (R24, R158, R159), and the check values of R160 and
R235.
-/

namespace Sys2Proof.Machine

/-- Bytes of package memory (R158). -/
def State.pmSize (s : State) : Nat := if s.e16 then 0x400000000 else 0x200000000

/-- Byte o of package memory; nothing past its end. -/
def State.pmByte (s : State) (o : Nat) : Byte := look (fun _ => 0) s.pm o

/-- The n bytes from offset o. -/
def State.pmBytes (s : State) (o n : Nat) : List Byte := lookAll (fun _ => 0) s.pm o n

/-- Write bytes from offset o. -/
def State.setPmBytes (s : State) (o : Nat) (l : List Byte) : State :=
  { s with pm := putAll (fun _ => 0) s.pm o l }

/-- The bytes from lo up to hi read as zero. -/
def State.zeroPm (s : State) (lo hi : Nat) : State :=
  { s with pm := s.pm.filter (fun e => decide (e.1 < lo) || decide (hi ≤ e.1)) }

/-- Element i of PM_REGION_BASE: where the firmware, spill and spool regions begin, and where they end (R159). -/
def State.regionBase (s : State) (i : Nat) : Nat := s.nat Obj.pmRegionBase i

/-- A Shuttle's half of the spill region in force, in bytes (R159, R186). -/
def State.spillHalf (s : State) : Nat := (s.regionBase 2 - s.regionBase 1) / 2

/-- The device region's first offset, at the top of the space, above the dictionary's two regions (R24; DESIGN CHOICE,
assumption 112: the spec does not order the fixed regions). -/
def State.deviceBase (s : State) : Nat := (if s.e16 then 16128 else 7936) * 1048576
/-- The boot image copy: 16 MiB at the foot of the device region (R24). -/
def State.bootCopyBase (s : State) : Nat := s.deviceBase
/-- The pattern staging area, 16 MiB above the device region's foot (R117, R159; DESIGN CHOICE, assumption 112: the spec gives
PAT_STAGE_ADDR no value). -/
def State.stageBase (s : State) : Nat := s.deviceBase + 0x1000000
/-- Bytes of the staging area. -/
def stageSize : Nat := 50331648

/-- The firmware region holds n bytes at offset o (R159). -/
def State.inFirmware (s : State) (o n : Nat) : Bool := decide (s.regionBase 0 ≤ o) && decide (o + n ≤ s.regionBase 1)

/-- One bit of a CRC whose register is `width` bits. -/
def crcBit (width poly reg : Nat) (b : Bool) : Nat :=
  let top := (reg / 2 ^ (width - 1)) % 2 == 1
  let sh := (reg * 2) % 2 ^ width
  if top != b then sh ^^^ poly else sh

/-- One byte, most significant bit first. -/
def crcByte (width poly reg : Nat) (b : Byte) : Nat :=
  [7, 6, 5, 4, 3, 2, 1, 0].foldl (fun r i => crcBit width poly r (b.toNat.testBit i)) reg

/-- A CRC without reflection or final inversion. -/
def crc (width poly init : Nat) (l : List Byte) : Nat := l.foldl (crcByte width poly) init

/-- CRC-16 of R235. -/
def crc16 (l : List Byte) : Nat := crc 16 0x1021 0xFFFF l
/-- CRC-8 of R160. -/
def crc8 (l : List Byte) : Nat := crc 8 0x07 0xFF l

/-- One bit of a reflected CRC-32. -/
def crc32Bit (r : Nat) : Nat := if r % 2 = 1 then (r / 2) ^^^ 0xEDB88320 else r / 2

/-- One byte of CRC-32, least significant bit first. -/
def crc32Byte (r : Nat) (b : Byte) : Nat :=
  crc32Bit (crc32Bit (crc32Bit (crc32Bit (crc32Bit (crc32Bit (crc32Bit (crc32Bit (r ^^^ b.toNat))))))))

/-- The CRC-32 of R191: IEEE 802.3, reflected, initial value and final XOR all ones. -/
def crc32 (l : List Byte) : Nat := l.foldl crc32Byte 0xFFFFFFFF ^^^ 0xFFFFFFFF

end Sys2Proof.Machine
end

