-- ==== Sys2Proof/Machine/Bobbin.lean ====
section
/-!
DEFINITION. Bobbin bytes and who may reach them (R148–R157, R360).
-/

namespace Sys2Proof.Machine

/-- The cell of byte x of BOBBIN[b] (R148). -/
def bobAddr (b x : Nat) : Nat := b * 524288 + x % 524288

/-- Byte x of BOBBIN[b]. -/
def State.bobByte (s : State) (b x : Nat) : Byte := look (fun _ => 0) s.bob (bobAddr b x)

/-- Write byte x of BOBBIN[b], with its parity (R148). -/
def State.setBobByte (s : State) (b x : Nat) (v : Byte) : State :=
  { s with bob := put (fun _ => 0) s.bob (bobAddr b x) v, bobBad := s.bobBad.filter (fun a => a != bobAddr b x) }

/-- Bytes at consecutive addresses of one bobbin, modulo its size (R69). -/
def State.bobBytes (s : State) (b x : Nat) : Nat → List Byte
  | 0 => []
  | n + 1 => s.bobByte b x :: s.bobBytes b (x + 1) n

/-- Write bytes at consecutive addresses of one bobbin, modulo its size (R69). -/
def State.setBobBytes (s : State) (b x : Nat) : List Byte → State
  | [] => s
  | v :: t => (s.setBobByte b x v).setBobBytes b (x + 1) t

/-- Byte x of BOBBIN[b] has bad parity (R148). -/
def State.bobBadAt (s : State) (b x : Nat) : Bool := s.bobBad.contains (bobAddr b x)

/-- Bytes of BOBBIN[b] are found with bad parity, and stay so until a write enables them (R148, R360). -/
def State.markBad (s : State) (b : Nat) (l : List Nat) : State :=
  l.foldl (fun s x => if s.bobBadAt b x then s else { s with bobBad := bobAddr b x :: s.bobBad }) s

/-- The bytes of the lanes of the aligned word that holds byte x. -/
def laneBytes (x : Nat) (lanes : BitVec 4) : List Nat :=
  ((List.range 4).filter (fun i => lanes.getLsbD i)).map (fun i => x / 4 * 4 + i)

/-- The word that holds byte x is read with byte i of the access in it: the accesses to words of n bytes from x on that meet
a byte with bad parity (R148, R360). -/
def State.badReads (s : State) (b x n : Nat) : Nat :=
  ((List.range n).filter (fun i => i = 0 || (x + i) % 4 = 0)).countP (fun i =>
    (List.range (min (n - i) (4 - (x + i) % 4))).any (fun k => s.bobBadAt b (x + i + k)))

/-- The owner code of BOBBIN[b] (R150). -/
def State.bobOwner (s : State) (b : Nat) : Nat := s.nat Obj.bobbinOwner b

/-- Count a refused access of the master with this owner code (R154). -/
def State.denied (s : State) (code : Nat) : State := s.bump Obj.accessDeniedHem code

/-- Count conflicts of the master whose access waited (R155). -/
def State.conflicted (s : State) (code k : Nat) : State := if k = 0 then s else s.bump Obj.bobConflictHem code k

/-- Count accesses of BOBBIN[b] that met a byte with bad parity (R360). -/
def State.bobParity (s : State) (b k : Nat) : State := if k = 0 then s else s.bump Obj.bobbinParityHem b k

/-! ## Meetings on a bobbin's two ports (R155, R156) -/

/-- Count a conflict that an access of a bobbin's owner met: window-grant traffic makes it the spool engine's, a debug access
nobody's (R155). -/
def State.meet (s : State) (owner : Nat) (m : BobMeet) : State :=
  match m.kind with
  | .own => s.conflicted owner 1
  | .window => s.conflicted 136 1
  | .debug => s

/-- The other access's write of the same word, in its enabled lanes (R156). -/
def State.meetWrite (s : State) (m : BobMeet) : State :=
  match m.write with
  | none => s
  | some (w, en, v) =>
    (laneBytes (4 * w.toNat) en).foldl (fun s x => s.setBobByte m.bobbin.val x (BitVec.ofNat 8 (v.toNat / 2 ^ (8 * (x % 4))))) s

/-- The meetings of an access. It comes after them where it goes second: a read, which returns what the other's write
stored, or a write on port 1; and before them where it is a write on port 0 (R156). -/
def State.meets (s : State) (owner : Nat) (l : List BobMeet) : State := l.foldl (fun s m => (s.meet owner m).meetWrite m) s

end Sys2Proof.Machine
end

