-- ==== Sys2Proof/Machine/Flags.lean ====
section
/-!
DEFINITION. The needle's arithmetic and every flag it computes: the product clamp (R31), accumulation (R32), write-back
(R33), the D-register rule (R35), the special functions (R44–R51), and the sticky bits and counters they drive (R36).
-/

namespace Sys2Proof.Machine

/-- The sticky conditions one instruction met (R36), in the bit order of NDL_STICKY (R37). -/
structure Flags where
  sat : Bool
  wrap : Bool
  pclamp : Bool
  dom : Bool
  deriving DecidableEq, Repr

/-- No condition met. -/
def Flags.none : Flags := ⟨false, false, false, false⟩
/-- A clamp. -/
def Flags.clamped : Flags := ⟨true, false, false, false⟩
/-- A wrap. -/
def Flags.wrapped : Flags := ⟨false, true, false, false⟩
/-- A product clamp (R31). -/
def Flags.product : Flags := ⟨true, false, true, false⟩
/-- A domain error. -/
def Flags.domain : Flags := ⟨false, false, false, true⟩

/-- Conditions met by either part of an instruction. -/
def Flags.or (f g : Flags) : Flags := ⟨f.sat || g.sat, f.wrap || g.wrap, f.pclamp || g.pclamp, f.dom || g.dom⟩

/-- The aligned product of two Q1.31 words (R31). -/
def product (a b : Word) : Int × Flags :=
  if a = 0x80000000 ∧ b = 0x80000000 then (2 ^ 63 - 1, .product) else (2 * (a.toInt * b.toInt), .none)

/-- An accumulator from an exact sum, by the S bit (R32). -/
def accResult (exact : Int) (s : Bool) : Acc × Flags :=
  if -(2 ^ 79) ≤ exact ∧ exact < 2 ^ 79 then (BitVec.ofInt 80 exact, .none)
  else if s then (if exact > 0 then BitVec.ofInt 80 (2 ^ 79 - 1) else BitVec.ofInt 80 (-(2 ^ 79)), .clamped)
  else (BitVec.ofInt 80 exact, .wrapped)

/-- The unlimited word of a write-back: truncation in FULL, round half up to 24 bits in NARROW (R33). -/
def wbValue (acc : Int) (full : Bool) : Int :=
  if full then acc.fdiv (2 ^ 32) else ((acc + 2 ^ 39).fdiv (2 ^ 40)) * 2 ^ 8

/-- The largest word a write-back gives (R33). -/
def wbHigh (full : Bool) : Int := if full then 2 ^ 31 - 1 else 2 ^ 31 - 2 ^ 8

/-- Write-back of an accumulator value (R33). -/
def writeback (acc : Int) (s full : Bool) : Word × Flags :=
  let v := wbValue acc full
  let hi := wbHigh full
  if -(2 ^ 31) ≤ v ∧ v ≤ hi then (BitVec.ofInt 32 v, .none)
  else if s then (if v > hi then BitVec.ofInt 32 hi else BitVec.ofInt 32 (-(2 ^ 31)), .clamped)
  else (BitVec.ofInt 32 v, .wrapped)

/-- A D register from an exact signed result, by the S bit (R35). -/
def dResult (exact : Int) (s : Bool) : Word × Flags :=
  if -(2 ^ 31) ≤ exact ∧ exact < 2 ^ 31 then (BitVec.ofInt 32 exact, .none)
  else if s then (if exact > 0 then BitVec.ofInt 32 (2 ^ 31 - 1) else BitVec.ofInt 32 (-(2 ^ 31)), .clamped)
  else (BitVec.ofInt 32 exact, .wrapped)

/-- The old value and the sign an accumulate mode gives the products (R38). -/
def accStart (md : AccMode) (old : Acc) : Int :=
  match md with
  | .acc => old.toInt
  | .sub => old.toInt
  | .clr => 0

/-- The products with the sign of the accumulate mode (R38). -/
def accSign (md : AccMode) (sum : Int) : Int :=
  match md with
  | .sub => -sum
  | _ => sum

/-! ## Special functions -/

/-- lt[j] := round(log2(1 + j/64) · 2²⁶) of R44, entries 0–47 of the list. -/
def log2TableA : List Int :=
  [0, 1501079, 2979239, 4435170, 5869532, 7282953, 8676036, 10049359,
   11403474, 12738911, 14056177, 15355762, 16638134, 17903742, 19153019, 20386381,
   21604229, 22806948, 23994909, 25168470, 26327977, 27473761, 28606143, 29725435,
   30831934, 31925930, 33007703, 34077521, 35135648, 36182335, 37217828, 38242363,
   39256169, 40259469, 41252479, 42235408, 43208457, 44171825, 45125701, 46070271,
   47005714, 47932205, 48849915, 49759007, 50659643, 51551977, 52436163, 53312346]
/-- lt[j] := round(log2(1 + j/64) · 2²⁶) of R44, entries 48–64 of the list. -/
def log2TableB : List Int :=
  [54180672, 55041278, 55894303, 56739877, 57578130, 58409188, 59233172, 60050204,
   60860398, 61663868, 62460725, 63251078, 64035030, 64812686, 65584145, 66349506,
   67108864]
/-- lt[j] := round(log2(1 + j/64) · 2²⁶) of R44. -/
def log2Table : List Int := log2TableA ++ log2TableB

/-- et[j] := round(2^(j/64) · 2³⁰) of R46, entries 0–47 of the list. -/
def exp2TableA : List Int :=
  [1073741824, 1085434106, 1097253708, 1109202018, 1121280436, 1133490379, 1145833280, 1158310587,
   1170923762, 1183674286, 1196563654, 1209593378, 1222764986, 1236080024, 1249540052, 1263146652,
   1276901417, 1290805962, 1304861917, 1319070932, 1333434672, 1347954824, 1362633090, 1377471191,
   1392470869, 1407633882, 1422962010, 1438457051, 1454120821, 1469955159, 1485961921, 1502142985,
   1518500250, 1535035634, 1551751076, 1568648537, 1585730000, 1602997467, 1620452965, 1638098541,
   1655936265, 1673968228, 1692196547, 1710623359, 1729250827, 1748081133, 1767116489, 1786359126]
/-- et[j] := round(2^(j/64) · 2³⁰) of R46, entries 48–64 of the list. -/
def exp2TableB : List Int :=
  [1805811301, 1825475297, 1845353420, 1865448001, 1885761398, 1906295993, 1927054196, 1948038440,
   1969251188, 1990694927, 2012372174, 2034285470, 2056437387, 2078830522, 2101467502, 2124350982,
   2147483648]
/-- et[j] := round(2^(j/64) · 2³⁰) of R46. -/
def exp2Table : List Int := exp2TableA ++ exp2TableB

/-- qt[j] := round(2²⁴ / sqrt((j + 0.5)/256)) of R47, from j = 64, entries 0–47 of the list. -/
def rsqeTableA : List Int :=
  [33424123, 33167996, 32917668, 32672923, 32433558, 32199378, 31970198, 31745843,
   31526145, 31310947, 31100097, 30893449, 30690867, 30492219, 30297378, 30106226,
   29918646, 29734530, 29553771, 29376269, 29201928, 29030654, 28862359, 28696957,
   28534367, 28374509, 28217309, 28062692, 27910590, 27760934, 27613660, 27468705,
   27326010, 27185515, 27047166, 26910907, 26776687, 26644456, 26514164, 26385766,
   26259215, 26134467, 26011481, 25890214, 25770628, 25652684, 25536345, 25421574]
/-- qt[j] := round(2²⁴ / sqrt((j + 0.5)/256)) of R47, from j = 64, entries 48–95 of the list. -/
def rsqeTableB : List Int :=
  [25308337, 25196600, 25086330, 24977495, 24870065, 24764009, 24659298, 24555904,
   24453800, 24352959, 24253356, 24154964, 24057761, 23961721, 23866823, 23773044,
   23680361, 23588754, 23498201, 23408684, 23320182, 23232677, 23146149, 23060580,
   22975954, 22892253, 22809459, 22727558, 22646533, 22566368, 22487048, 22408559,
   22330886, 22254015, 22177933, 22102626, 22028080, 21954284, 21881225, 21808890,
   21737268, 21666347, 21596115, 21526562, 21457677, 21389449, 21321868, 21254923]
/-- qt[j] := round(2²⁴ / sqrt((j + 0.5)/256)) of R47, from j = 64, entries 96–143 of the list. -/
def rsqeTableC : List Int :=
  [21188605, 21122904, 21057810, 20993314, 20929407, 20866081, 20803325, 20741133,
   20679495, 20618403, 20557850, 20497827, 20438326, 20379341, 20320864, 20262887,
   20205403, 20148406, 20091889, 20035844, 19980266, 19925148, 19870484, 19816267,
   19762491, 19709151, 19656241, 19603754, 19551685, 19500030, 19448781, 19397935,
   19347485, 19297426, 19247755, 19198465, 19149551, 19101010, 19052836, 19005024,
   18957571, 18910471, 18863721, 18817316, 18771251, 18725523, 18680128, 18635061]
/-- qt[j] := round(2²⁴ / sqrt((j + 0.5)/256)) of R47, from j = 64, entries 144–191 of the list. -/
def rsqeTableD : List Int :=
  [18590319, 18545898, 18501793, 18458002, 18414520, 18371344, 18328471, 18285896,
   18243616, 18201629, 18159929, 18118516, 18077384, 18036531, 17995954, 17955649,
   17915614, 17875846, 17836341, 17797097, 17758111, 17719380, 17680902, 17642673,
   17604691, 17566953, 17529457, 17492200, 17455179, 17418392, 17381838, 17345512,
   17309413, 17273538, 17237886, 17202454, 17167239, 17132239, 17097453, 17062878,
   17028511, 16994352, 16960397, 16926645, 16893094, 16859741, 16826585, 16793624]
/-- qt[j] := round(2²⁴ / sqrt((j + 0.5)/256)) of R47, from j = 64. -/
def rsqeTable : List Int := rsqeTableA ++ rsqeTableB ++ rsqeTableC ++ rsqeTableD

/-- The index of the highest set bit of a positive 32-bit integer. -/
def highBit (x : Nat) : Nat := Nat.log2 x

/-- LOG2 (R44). -/
def log2Fn (x : Word) : Word × Flags :=
  if x.toInt ≤ 0 then (0x80000000, .domain)
  else
    let v := x.toNat
    let e := highBit v
    let m := v * 2 ^ (30 - e) - 2 ^ 30
    let i := m / 2 ^ 24
    let r : Int := Int.ofNat (m % 2 ^ 24)
    let lo := log2Table.getD i 0
    let hi := log2Table.getD (i + 1) 0
    let frac := lo + ((hi - lo) * r + 2 ^ 23).fdiv (2 ^ 24)
    (BitVec.ofInt 32 ((Int.ofNat e - 31) * 2 ^ 26 + frac), .none)

/-- EXP2 (R46). -/
def exp2Fn (y : Word) : Word × Flags :=
  if y.toInt ≥ 0 then (0x7FFFFFFF, .clamped)
  else
    let v := y.toInt
    let n := v.fdiv (2 ^ 26)
    let f := (v - n * 2 ^ 26).toNat
    let i := f / 2 ^ 20
    let r : Int := Int.ofNat (f % 2 ^ 20)
    let lo := exp2Table.getD i 0
    let hi := exp2Table.getD (i + 1) 0
    let mant := lo + ((hi - lo) * r + 2 ^ 19).fdiv (2 ^ 20)
    (BitVec.ofInt 32 (mant.fdiv (2 ^ (-n - 1).toNat)), .none)

/-- RSQE (R47). -/
def rsqeFn (x : Word) : Word × Flags :=
  if x.toInt ≤ 0 then (0x7FFFFFFF, .domain)
  else
    let k := 30 - highBit x.toNat
    let u := x.toNat * 2 ^ k
    let j := if k % 2 = 0 then k / 2 else (k - 1) / 2
    let v := if k % 2 = 0 then u else u / 2
    let y := rsqeTable.getD (v / 2 ^ 23 - 64) 0 * 2 ^ j
    if y ≥ 2 ^ 31 then (0x7FFFFFFF, .clamped) else (BitVec.ofInt 32 y, .none)

/-- One step of restoring division (R48): the quotient, the remainder and the flags. -/
def divStep (q : Word) (rem : Acc) (d : Word) : Word × Acc × Flags :=
  let r := rem.toInt
  let q2 := 2 * q.toNat
  let dd := d.toInt * 2 ^ 32
  if d.toInt ≤ 0 then (BitVec.ofNat 32 (q2 + 1), rem, .domain)
  else if r < 0 then (BitVec.ofNat 32 q2, rem, .domain)
  else if r ≥ dd then (BitVec.ofNat 32 (q2 + 1), rem, .none)
  else if 2 * r ≥ dd then (BitVec.ofNat 32 (q2 + 1), BitVec.ofInt 80 (2 * r - dd), .none)
  else (BitVec.ofNat 32 q2, BitVec.ofInt 80 (2 * r), .none)

/-- The interpolation of TLU between two table words (R49). -/
def interpolate (t0 t1 : Word) (f : Nat) : Word :=
  BitVec.ofInt 32 (t0.toInt + ((t1.toInt - t0.toInt) * Int.ofNat f + 2 ^ 15).fdiv (2 ^ 16))

/-- The move of GLIDE toward its target (R50). -/
def glideTo (v t step : Word) : Word :=
  let st := Int.ofNat step.toNat
  if v.toInt < t.toInt then BitVec.ofInt 32 (min (v.toInt + st) t.toInt)
  else if v.toInt > t.toInt then BitVec.ofInt 32 (max (v.toInt - st) t.toInt)
  else v

/-- The magnitude MPEAK compares (R51): that of 0x8000_0000 counts as 0x7FFF_FFFF. -/
def peakAbs (x : Word) : Int := if x = 0x80000000 then 2 ^ 31 - 1 else (x.toInt.natAbs : Int)

/-! ## Sticky bits and counters (R36, R37) -/

/-- The latest stitch in which sticky bit b of a needle was set. -/
def Needle.setDuring (nd : Needle) (b : Nat) : Option Nat := (nd.stickyAt.find? (fun e => e.1 == b)).map (·.2)

/-- Note that sticky bit b was set in stitch k. -/
def Needle.markSticky (nd : Needle) (b k : Nat) : Needle :=
  { nd with stickyAt := (b, k) :: nd.stickyAt.filter (fun e => e.1 != b) }

/-- Set sticky bit b of needle n when `on`, noting the stitch in progress for the rule of R37. -/
def State.setSticky (s : State) (n b : Nat) (on : Bool) : State :=
  if on then (s.setBit (ndlObj n 0x20) 0 b true).modNeedle n (fun nd => nd.markSticky b s.stitch) else s

/-- Advance a hem counter and its lifetime counter when `on`. -/
def State.countBoth (s : State) (hem life : Nat) (on : Bool) : State :=
  if on then (s.bump hem).bumpLife life else s

/-- What one executed instruction's conditions do to the sticky bits and counters (R36): each counter at most once. -/
def State.applyFlags (s : State) (n : Nat) (f : Flags) : State :=
  let s := s.setSticky n 0 f.sat
  let s := s.setSticky n 1 f.wrap
  let s := s.setSticky n 2 f.pclamp
  let s := s.setSticky n 3 f.dom
  let s := s.countBoth (ndlObj n 0x21) (ndlObj n 0x24) (f.sat || f.pclamp)
  let s := s.countBoth (ndlObj n 0x22) (ndlObj n 0x25) f.wrap
  if f.dom then s.bump (ndlObj n 0x23) else s

end Sys2Proof.Machine
end

