-- ==== Sys2Proof/WellFormed.lean ====
section
/-!
DEFINITION. Which needle instructions are legal encodings (R28, R53, R56, R57, R59, R61, R71). Every other command is
well formed as it stands: its operands are what a sender outside the part may send.
-/

namespace Sys2Proof

/-- An access field in mode 0b000 has zero pointer and modifier fields (R71, code 0x02). -/
def Access.ok (a : Access) : Bool := a.mode != .none || (a.ptr == 0 && a.md == 0)

/-- The common fields are legal: PK = 7 with PN = 1 is not (R53, R71 code 0x04). -/
def Gate.ok (g : Gate) : Bool := !(g.pk == 7 && g.pn) && g.x.ok && g.y.ok

/-- Unpredicated: PK = 7 and PN = 0 (R57). -/
def Gate.always (g : Gate) : Bool := g.pk == 7 && !g.pn

/-- The slot fetches a quad from X (Y): its field has a mode and the instruction does not store there (R59). -/
def Gate.fetchesX (g : Gate) : Bool := g.x.mode != .none
/-- As `fetchesX`, for Y. -/
def Gate.fetchesY (g : Gate) : Bool := g.y.mode != .none

/-- A quad source is legal when a named fetched quad is fetched (R59). -/
def QuadSrc.ok (q : QuadSrc) (fetched : Bool) : Bool :=
  match q with
  | .fetched => fetched
  | .reg _ => true

/-- A pair source is legal when a named fetched pair is fetched (R59). -/
def PairSrc.ok (p : PairSrc) (fetched : Bool) : Bool :=
  match p with
  | .reg _ => true
  | _ => fetched

/-- A scalar source is legal when a named fetched lane is fetched (R59). -/
def ScalarSrc.ok (c : ScalarSrc) (fetched : Bool) : Bool :=
  match c with
  | .reg _ => true
  | .lane _ => fetched

/-- A pair source that is a D pair. -/
def PairSrc.isReg : PairSrc → Bool
  | .reg _ => true
  | _ => false

/-- The a and b operands of BFLY (R43, R61): both from X as the two fixed pairs of one quad, or at least one a D pair. -/
def bflyPairs (a b : PairSrc) : Bool :=
  a.isReg || b.isReg || (a == .lo && b == .hi) || (a == .hi && b == .lo)

/-- An access field updates its pointer: every mode but no access, indexed and hold (R54). -/
def AMode.updates : AMode → Bool
  | .none | .index | .hold => false
  | _ => true

/-- The instruction's access fields update pointer p (0–3 XP, 4–7 YP). -/
def Gate.updatesPtr (g : Gate) (p : Fin 8) : Bool :=
  (g.x.mode.updates && g.x.ptr.val == p.val) || (g.y.mode.updates && g.y.ptr.val + 4 == p.val)

/-- A condition of ACMP: the unsigned ones are reserved there (R60, R71 code 0x03). -/
def Cond.signed : Cond → Bool
  | .ltu | .geu => false
  | _ => true

/-- The immediate range of GSL (R60, R71 code 0x07). -/
def gslOk (period : BitVec 16) : Bool := decide (2 ≤ period.toNat) && decide (period.toNat ≤ 1024)

/-- The immediate range of SETL (R57, R71 code 0x07). -/
def setlOk (imm : BitVec 15) : Bool := decide (1 ≤ imm.toNat) && decide (imm.toNat ≤ 16384)

/-- Destinations of the needle that two names may not share (R28): GLIDE writes Dv and Pk, DIVS writes Dq and Ar. They
lie in different register files, so only BFLY's two D pairs can coincide (R61). -/
def bflyDests (dm dk : Fin 8) : Bool := dm != dk

/-- A command is well formed: for a needle's slot, the legality checks of R71 that the instruction word alone decides;
for every other command, always. -/
def Instr.wf : Instr → Bool
  | .gsl _ g _ period => g.ok && gslOk period
  | .acmp _ g _ _ _ cc => g.ok && cc.signed
  | .mac4Dot _ g _ _ xq yq | .mac4Lane _ g _ xq yq => g.ok && xq.ok g.fetchesX && yq.ok g.fetchesY
  | .mac4Fan _ g _ sc yq => g.ok && sc.ok g.fetchesX && yq.ok g.fetchesY
  | .cmac _ g _ xp yp | .cmacCj _ g _ xp yp => g.ok && xp.ok g.fetchesX && yp.ok g.fetchesY
  | .bfly _ g dm dk a b w | .bflyH _ g dm dk a b w =>
    g.ok && bflyDests dm dk && bflyPairs a b && a.ok g.fetchesX && b.ok g.fetchesX && w.ok g.fetchesY
  | .staX _ g _ | .stx _ g _ => g.ok && g.fetchesX
  | .staY _ g _ | .sty _ g _ => g.ok && g.fetchesY
  | .tlu _ g _ _ _ => g.ok && !g.fetchesY
  | .ldx _ g _ _ | .ldqx _ g _ => g.ok && g.fetchesX
  | .ldy _ g _ _ | .ldqy _ g _ => g.ok && g.fetchesY
  | .seta _ g p _ | .setb _ g p _ | .setbP _ g p _ => g.ok && g.always && !g.updatesPtr p
  | .setl _ g p imm => g.ok && g.always && !g.updatesPtr p && setlOk imm
  | .setaD _ g p _ => g.ok && !g.updatesPtr p
  | .setm _ g _ _ => g.ok && g.always
  | .inq _ g _ i | .outq _ g _ i => g.ok && i.val % 4 == 0
  | .sinf n g _ src _ _ => g.ok && decide (n.val / 8 = src.val / 8) && decide (n ≠ src)
  | .nop _ g | .stcl _ g _ | .stch _ g _ | .ldih _ g _ _ | .ldil _ g _ _ | .mov _ g _ _
  | .add _ g _ _ _ | .sub _ g _ _ _ | .addi _ g _ _ _ | .neg _ g _ _ | .abs _ g _ _ | .min _ g _ _ _ | .max _ g _ _ _
  | .and _ g _ _ _ | .or _ g _ _ _ | .xor _ g _ _ _ | .not _ g _ _ | .select _ g _ _ _ _
  | .asl _ g _ _ _ _ _ | .asr _ g _ _ _ _ _ | .lsl _ g _ _ _ _ _ | .lsr _ g _ _ _ _ _
  | .cmp _ g _ _ _ _ | .cmpi _ g _ _ _ _ | .plog _ g _ _ _ _ | .msq _ g _ _
  | .lda _ g _ _ | .aclr _ g _ | .aadd _ g _ _ _ | .asub _ g _ _ _ | .aasl _ g _ _ _ | .aasr _ g _ _ _ | .asel _ g _ _ _ _
  | .wb _ g _ _ | .wb4 _ g _ | .rdag _ g _ _ | .rdah _ g _ _ | .rdal _ g _ _ | .wrag _ g _ _ | .wrah _ g _ _ | .wral _ g _ _
  | .log2 _ g _ _ | .exp2 _ g _ _ | .rsqe _ g _ _ | .divs _ g _ _ _ | .glide _ g _ _ _ _ | .mpeak _ g _ _
  | .setmD _ g _ _ | .rdp _ g _ _ | .inW _ g _ _ | .outW _ g _ _ | .sout _ g _ _ | .sin _ g _ _ _ _
  | .bldW _ g _ _ _ _ | .bldT _ g _ _ _ _ | .bstW _ g _ _ _ _ | .bstT _ g _ _ _ _ => g.ok
  | .stitchStrobe .. | .inletCutoff .. | .inletDistribution .. | .windowFillDone .. | .deadline .. | .runComplete ..
  | .fittingEnd .. | .avsAck .. | .avsAckTimeout .. | .shed .. | .hemBoundary .. | .progRefetchDone ..
  | .xyRefetchDone .. | .commit .. | .ccCommitGo .. | .group0Commit .. | .pageCopyDone .. | .commitCancel ..
  | .groupTableWrite .. | .placeFull .. | .placementDecided .. | .placementLoaded .. | .placeRemove ..
  | .placeRestore .. | .placeMove .. | .placeSetTap .. | .placeRebalance .. | .patStageData .. | .resourceMapWrite ..
  | .bobbinMapWrite .. | .migrationDecision .. | .migrationCopyDone .. | .migForced .. | .spoolFetch ..
  | .spoolFetchDone .. | .spoolLate .. | .spoolDrain .. | .spoolDrainDone .. | .bobbinOwnerWrite ..
  | .handoverDone .. | .bobbinWindowAccess .. | .objectWindowLoad .. | .objectWindowStore .. | .ccMsgGo ..
  | .arbRequest .. | .burstDone .. | .grantEnd .. | .refresh .. | .debugPreempt .. | .linkDown .. | .linkUp ..
  | .rxFrame .. | .rtpPacket .. | .arpFrame .. | .icmpEcho .. | .igmpQuery .. | .igmpFallbackEnd ..
  | .inletPoolWrite .. | .outletPoolRead .. | .txPacket .. | .auditRecordExpire .. | .streamEnable ..
  | .shRxMapCommit .. | .shTxMapCommit .. | .shPairMode .. | .tdmRxFrame .. | .tdmTxFrame .. | .tdmNoClock ..
  | .tdmMapCommit .. | .tdmCfgWrite .. | .ptpSync .. | .ptpFollowUp .. | .ptpDelayResp .. | .delayReqSend ..
  | .ptpAnnounce .. | .ptpLeaderSend .. | .announceTimeout .. | .syncTimeout .. | .tbStep .. | .freqStep ..
  | .tbSet .. | .ptpProfileWrite .. | .xtalFail .. | .xtalRestore .. | .refPresent .. | .refLost .. | .ppsEdge ..
  | .lockLost .. | .pllRelock .. | .clkPhaseWrite .. | .hello .. | .cert .. | .key .. | .handshakeTimeout ..
  | .read .. | .write .. | .blockRead .. | .blockWrite .. | .subscribe .. | .unsubscribe .. | .notify .. | .tack ..
  | .renew .. | .untack .. | .tackExpire .. | .tackRecordExpire .. | .bye .. | .sessTimeout .. | .sessKick ..
  | .reassemblyTimeout .. | .dictCcSub .. | .dictCcRingConfig .. | .ccTackGo .. | .ccUntack .. | .journalBatch ..
  | .journalEraseDone .. | .serialWriteFrame .. | .serialReadRequest .. | .selInAssert .. | .selInDeassert ..
  | .serMGo .. | .serialMasterStart .. | .serialMasterDone .. | .dmaGo .. | .dmaStop .. | .dmaPieceDone ..
  | .sacnDataPacket .. | .sacnSyncPacket .. | .sacnSyncTimeout .. | .sacnSourceExpire .. | .sacnCuePoint ..
  | .sacnTxLate .. | .sacnDiscovery .. | .univCfgWrite .. | .dmxCuePoint .. | .dmxFrameReceived ..
  | .dmxSourceExpire .. | .dmxCfgWrite .. | .rdmCmd .. | .rdmTransaction .. | .rdmResponse .. | .rdmTimeout ..
  | .rdmDiscover .. | .t1sBeacon .. | .t1sBeaconLoss .. | .t1sCollision .. | .oscPacket .. | .oscPeerExpire ..
  | .oscMapEntry .. | .oscSend .. | .powerOn .. | .resetRelease .. | .safetyMatrixStart .. | .slotChoice ..
  | .journalRestore .. | .manifestCheck .. | .chunkLoaded .. | .coreRelease .. | .trialWdog .. | .accept ..
  | .keyRevoke .. | .updBegin .. | .validate .. | .trialReset .. | .updData .. | .recoveryOpen .. | .recoveryData ..
  | .recoveryClose .. | .safeStageData .. | .safeWrite .. | .measExtGo .. | .delayedReset .. | .resetN ..
  | .pgoodLoss .. | .resetCmd .. | .ccReset .. | .ownerKeyHash .. | .lcAdvance .. | .thmOp .. | .thmOpDone ..
  | .debugOpen .. | .idcode .. | .bypass .. | .samplePreload .. | .extest .. | .dbgChallenge .. | .dbgResponse ..
  | .dbgAccess .. | .dbgEnd .. | .trstN .. | .debugSessionTimeout .. | .challengeLockoutEnd .. | .powerCmdRun ..
  | .powerCmdHush .. | .powerCmdStandby .. | .wake .. | .pleatWakeStart .. | .pleatReady .. | .needleBist ..
  | .memoryBist .. | .analog .. | .testEnd .. | .testLengthEnd .. | .sensorUpdate .. | .ndlStickyWrite ..
  | .ndlTapeStatusWrite .. | .avsStatusWrite .. | .vcoreLimitWrite .. | .objectWrite .. | .delayReqReceived ..
  | .clkSlewDone .. | .updValidateDone .. | .standbyEntryDone .. | .vkeepLoss .. | .historyZeroingDone ..
  | .dmxFrameSent .. => true

end Sys2Proof
end

