-- ==== Sys2Proof/Machine/Operands.lean ====
section
/-!
DEFINITION. The operand forms of a needle's slot: registers, the access fields' effective addresses and pointer
updates (R54–R56), fetched quads (R38, R55) and the operand codes of R59.
-/

namespace Sys2Proof.Machine

/-! ## Registers (R26) -/

/-- Give Dn the value w. -/
def Needle.setD (nd : Needle) (n : Fin 16) (w : Word) : Needle := { nd with d := nd.d.set n w }
/-- Give An the value a. -/
def Needle.setA (nd : Needle) (n : Fin 4) (a : Acc) : Needle := { nd with acc := nd.acc.set n a }
/-- Give Mn the value v. -/
def Needle.setM (nd : Needle) (n : Fin 8) (v : BitVec 16) : Needle := { nd with m := nd.m.set n v }

/-- Predicate Pn; P7 always reads true (R26). -/
def Needle.pred (nd : Needle) (n : Fin 8) : Bool := if h : n.val < 7 then nd.p[n.val] else true

/-- Write predicate Pn; a write to P7 is discarded (R26). -/
def Needle.setPred (nd : Needle) (n : Fin 8) (v : Bool) : Needle :=
  if h : n.val < 7 then { nd with p := nd.p.set n.val v } else nd

/-- Pointer PTR: 0–3 are XP0–XP3, 4–7 YP0–YP3 (R57). -/
def Needle.ptr (nd : Needle) (n : Fin 8) : Ptr :=
  if n.val < 4 then nd.xp[n.val % 4] else nd.yp[n.val % 4]

/-- Write pointer PTR (R57). -/
def Needle.setPtr (nd : Needle) (n : Fin 8) (p : Ptr) : Needle :=
  if n.val < 4 then { nd with xp := nd.xp.set (n.val % 4) p } else { nd with yp := nd.yp.set (n.val % 4) p }

/-- Word e of X memory (addresses are modulo 16 384). -/
def Needle.xw (nd : Needle) (e : Nat) : Word := look (fun _ => 0) nd.x (e % 16384)
/-- Word e of Y memory. -/
def Needle.yw (nd : Needle) (e : Nat) : Word := look (fun _ => 0) nd.y (e % 16384)
/-- Store a word in X memory. -/
def Needle.setX (nd : Needle) (e : Nat) (w : Word) : Needle := { nd with x := put (fun _ => 0) nd.x (e % 16384) w }
/-- Store a word in Y memory. -/
def Needle.setY (nd : Needle) (e : Nat) (w : Word) : Needle := { nd with y := put (fun _ => 0) nd.y (e % 16384) w }

/-! ## Addresses (R54–R56) -/

/-- The n low bits of v in reverse order (R54). -/
def revBits : Nat → Nat → Nat
  | 0, _ => 0
  | n + 1, v => (v % 2) * 2 ^ n + revBits n (v / 2)

/-- L of a pointer as a divisor: R26 keeps it 1–16 384, and a pointer never holds another value. -/
def Ptr.len (p : Ptr) : Nat := if p.l.toNat = 0 then 1 else p.l.toNat

/-- w mod L, with w = (a − B) mod 16 384 (R54). -/
def Ptr.offset (p : Ptr) : Nat := (p.a - p.b).toNat % p.len

/-- The effective address of an access (R54); `md` is the modifier's number, the quad index in mode `index`. -/
def effAddr (p : Ptr) (ac : Access) : BitVec 14 :=
  match ac.mode with
  | .none => p.a
  | .inc => p.a
  | .incM => p.a
  | .dec => p.a
  | .circ => p.b + BitVec.ofNat 14 p.offset
  | .bitrev => p.b + BitVec.ofNat 14 p.offset
  | .index => p.b + BitVec.ofNat 14 (((p.a - p.b).toNat + 4 * ac.md.val) % p.len)
  | .hold => p.b + BitVec.ofNat 14 p.offset

/-- The pointer's current address after the access, with M the modifier's value (R54). -/
def nextAddr (p : Ptr) (ac : Access) (m : BitVec 16) : BitVec 14 :=
  match ac.mode with
  | .none => p.a
  | .inc => p.a + 1
  | .incM => BitVec.ofInt 14 (Int.ofNat p.a.toNat + m.toInt)
  | .dec => BitVec.ofInt 14 (Int.ofNat p.a.toNat - m.toInt)
  | .circ => p.b + BitVec.ofInt 14 ((Int.ofNat p.offset + m.toInt) % Int.ofNat p.len)
  | .bitrev =>
    let n := Nat.log2 p.len
    p.b + BitVec.ofNat 14 (revBits n ((Int.ofNat (revBits n p.offset) + m.toInt) % Int.ofNat p.len).toNat)
  | .index => p.a
  | .hold => p.a

/-- The X (Y) pointer an access field names, with its update applied (R54, R56). -/
def Needle.stepX (nd : Needle) (ac : Access) : Needle :=
  let p := nd.xp[ac.ptr]
  { nd with xp := nd.xp.set ac.ptr { p with a := nextAddr p ac nd.m[ac.md] } }
/-- As `stepX`, for Y. -/
def Needle.stepY (nd : Needle) (ac : Access) : Needle :=
  let p := nd.yp[ac.ptr]
  { nd with yp := nd.yp.set ac.ptr { p with a := nextAddr p ac nd.m[ac.md] } }

/-- Both pointer updates of a slot, from values read at its start (R56). -/
def Needle.stepPtrs (nd : Needle) (g : Gate) : Needle := (nd.stepX g.x).stepY g.y

/-! ## What a slot reads -/

/-- Everything an instruction reads of its slot: the needle at the slot's start, the S bit, the write-back mode and the
two access fields. -/
structure SlotIn where
  nd : Needle
  sat : Bool
  full : Bool
  g : Gate
  deriving DecidableEq, Repr

/-- The effective X address. -/
def SlotIn.xe (i : SlotIn) : Nat := (effAddr i.nd.xp[i.g.x.ptr] i.g.x).toNat
/-- The effective Y address. -/
def SlotIn.ye (i : SlotIn) : Nat := (effAddr i.nd.yp[i.g.y.ptr] i.g.y).toNat
/-- Lane l of the fetched X quad: the quad at e with bits [1:0] cleared (R38, R55). -/
def SlotIn.xLane (i : SlotIn) (l : Nat) : Word := i.nd.xw (i.xe / 4 * 4 + l)
/-- Lane l of the fetched Y quad. -/
def SlotIn.yLane (i : SlotIn) (l : Nat) : Word := i.nd.yw (i.ye / 4 * 4 + l)
/-- Register Dn at the slot's start. -/
def SlotIn.dr (i : SlotIn) (n : Fin 16) : Word := i.nd.d[n]
/-- Accumulator An at the slot's start. -/
def SlotIn.ar (i : SlotIn) (n : Fin 4) : Acc := i.nd.acc[n]

/-- Register D(4q + l) of register quad q. -/
def quadReg (q : Fin 4) (l : Fin 4) : Fin 16 := ⟨4 * q.val + l.val, by omega⟩
/-- Register D(2p) of D pair p, or D(2p + 1). -/
def pairReg (p : Fin 8) (odd : Fin 2) : Fin 16 := ⟨2 * p.val + odd.val, by omega⟩

/-- Lane l of an X-side quad source (R59). -/
def SlotIn.xQuad (i : SlotIn) (q : QuadSrc) (l : Fin 4) : Word :=
  match q with
  | .fetched => i.xLane l.val
  | .reg r => i.dr (quadReg r l)
/-- Lane l of a Y-side quad source. -/
def SlotIn.yQuad (i : SlotIn) (q : QuadSrc) (l : Fin 4) : Word :=
  match q with
  | .fetched => i.yLane l.val
  | .reg r => i.dr (quadReg r l)

/-- The first lane of a fetched pair by its code and bit 1 of e (R59). -/
def pairLane (c : PairSrc) (e : Nat) : Nat :=
  match c with
  | .lo => 0
  | .hi => 2
  | .byE => if (e / 2) % 2 = 0 then 0 else 2
  | .reg _ => 0

/-- An X-side pair source: real and imaginary part (R59). -/
def SlotIn.xPair (i : SlotIn) (c : PairSrc) : Word × Word :=
  match c with
  | .reg p => (i.dr (pairReg p 0), i.dr (pairReg p 1))
  | _ => (i.xLane (pairLane c i.xe), i.xLane (pairLane c i.xe + 1))
/-- A Y-side pair source. -/
def SlotIn.yPair (i : SlotIn) (c : PairSrc) : Word × Word :=
  match c with
  | .reg p => (i.dr (pairReg p 0), i.dr (pairReg p 1))
  | _ => (i.yLane (pairLane c i.ye), i.yLane (pairLane c i.ye + 1))

/-- A scalar source (R59). -/
def SlotIn.scalar (i : SlotIn) (c : ScalarSrc) : Word :=
  match c with
  | .reg d => i.dr d
  | .lane l => i.xLane l.val

/-- Two words compared by a condition (R59): signed, or unsigned for LTU and GEU. -/
def condD (cc : Cond) (a b : Word) : Bool :=
  match cc with
  | .eq => a == b
  | .ne => a != b
  | .lt => decide (a.toInt < b.toInt)
  | .le => decide (a.toInt ≤ b.toInt)
  | .gt => decide (a.toInt > b.toInt)
  | .ge => decide (a.toInt ≥ b.toInt)
  | .ltu => decide (a.toNat < b.toNat)
  | .geu => decide (a.toNat ≥ b.toNat)

/-- Two accumulators compared, signed (R60: cc 0–5 only). -/
def condA (cc : Cond) (a b : Acc) : Bool :=
  match cc with
  | .eq => a == b
  | .ne => a != b
  | .lt | .ltu => decide (a.toInt < b.toInt)
  | .le => decide (a.toInt ≤ b.toInt)
  | .gt => decide (a.toInt > b.toInt)
  | .ge | .geu => decide (a.toInt ≥ b.toInt)

/-- A predicate operation (R59). -/
def predOp (op : PredOp) (a b : Bool) : Bool :=
  match op with
  | .and => a && b
  | .or => a || b
  | .xor => a != b
  | .andn => a && !b

end Sys2Proof.Machine
end

