-- ==== Sys2Proof/Machine/Status.lean ====
section
/-!
DEFINITION. The status codes of Ursin (R271 and the chapters that add their own: R296, R310, R333, R357).
-/

namespace Sys2Proof.Machine

/-- OK (R271). -/
def St.ok : Nat := 0x00
/-- BROKEN (R271). -/
def St.broken : Nat := 0x01
/-- RANGE_END (R271). -/
def St.rangeEnd : Nat := 0x02
/-- END (R271). -/
def St.endOk : Nat := 0x03
/-- TRUNCATED (R271). -/
def St.truncated : Nat := 0x04
/-- FORMAT (R271). -/
def St.format : Nat := 0x10
/-- SEQ_OLD (R271). -/
def St.seqOld : Nat := 0x11
/-- BUSY (R271). -/
def St.busy : Nat := 0x12
/-- TOO_LONG (R271). -/
def St.tooLong : Nat := 0x13
/-- AUTH (R271). -/
def St.auth : Nat := 0x14
/-- ROLE (R271). -/
def St.role : Nat := 0x15
/-- SESSION_FULL (R271). -/
def St.sessionFull : Nat := 0x16
/-- STRANGER (R271). -/
def St.stranger : Nat := 0x17
/-- NOT_RECOVERY (R271). -/
def St.notRecovery : Nat := 0x18
/-- NOT_PRESENT (R271). -/
def St.notPresent : Nat := 0x20
/-- NO_RIGHT (R271). -/
def St.noRight : Nat := 0x21
/-- TYPE (R271). -/
def St.type : Nat := 0x22
/-- RANGE (R271). -/
def St.range : Nat := 0x23
/-- TACKED (R271). -/
def St.tacked : Nat := 0x24
/-- PRIORITY_LOW (R271). -/
def St.priorityLow : Nat := 0x25
/-- MERGE_FULL (R271). -/
def St.mergeFull : Nat := 0x26
/-- SUB_FULL (R271). -/
def St.subFull : Nat := 0x27
/-- STALE (R271). -/
def St.stale : Nat := 0x28
/-- FROZEN (R271). -/
def St.frozen : Nat := 0x29
/-- SERVICE (R271). -/
def St.service : Nat := 0x2A
/-- TACK_FULL (R271). -/
def St.tackFull : Nat := 0x30
/-- TACK_OVERLAP (R271). -/
def St.tackOverlap : Nat := 0x31
/-- TACK_NONE (R271). -/
def St.tackNone : Nat := 0x32
/-- COMMIT_SERVICE (R271). -/
def St.commitService : Nat := 0x40
/-- COMMIT_GROUP (R271). -/
def St.commitGroup : Nat := 0x41
/-- COMMIT_ROLE (R271). -/
def St.commitRole : Nat := 0x42
/-- COMMIT_BUSY (R271). -/
def St.commitBusy : Nat := 0x43
/-- COMMIT_FAR (R271). -/
def St.commitFar : Nat := 0x44
/-- COMMIT_LATE (R271). -/
def St.commitLate : Nat := 0x45
/-- COMMIT_NONE (R271). -/
def St.commitNone : Nat := 0x46
/-- COMMIT_ARMED (R271). -/
def St.commitArmed : Nat := 0x47
/-- SH_BUSY (R271). -/
def St.shBusy : Nat := 0x50
/-- FORMAT_CODE (R271). -/
def St.formatCode : Nat := 0x51
/-- RATE_RATIO (R271). -/
def St.rateRatio : Nat := 0x52
/-- STREAM_SIZE (R271). -/
def St.streamSize : Nat := 0x53
/-- BUDGET (R271). -/
def St.budget : Nat := 0x54
/-- BUFFER (R271). -/
def St.buffer : Nat := 0x55
/-- LINE_LOAD (R271). -/
def St.lineLoad : Nat := 0x56
/-- MAP_RANGE (R271). -/
def St.mapRange : Nat := 0x57
/-- MAP_CONFLICT (R271). -/
def St.mapConflict : Nat := 0x58
/-- GROUPS (R271). -/
def St.groups : Nat := 0x59
/-- BOBBIN_MAPPED (R271). -/
def St.bobbinMapped : Nat := 0x60
/-- BOBBIN_CODE (R271). -/
def St.bobbinCode : Nat := 0x61
/-- BOBBIN_BUSY (R271). -/
def St.bobbinBusy : Nat := 0x62
/-- OVERLAP (R271). -/
def St.overlap : Nat := 0x63
/-- TDM_CLOCK (R271). -/
def St.tdmClock : Nat := 0x70
/-- TDM_BUSY (R271). -/
def St.tdmBusy : Nat := 0x71
/-- PTP_RANGE (R271). -/
def St.ptpRange : Nat := 0x72
/-- CLK_FAMILY (R271). -/
def St.clkFamily : Nat := 0x73
/-- CLK_BUSY (R271). -/
def St.clkBusy : Nat := 0x74
/-- TB_ROLE (R271). -/
def St.tbRole : Nat := 0x75
/-- UNIV_LIMIT (R271). -/
def St.univLimit : Nat := 0x80
/-- DMX_BUSY (R271). -/
def St.dmxBusy : Nat := 0x81
/-- RDM_BUSY (R271). -/
def St.rdmBusy : Nat := 0x82
/-- RDM_STRANGER (R271). -/
def St.rdmStranger : Nat := 0x83
/-- OSC_ADDRESS (R271). -/
def St.oscAddress : Nat := 0x84
/-- DMA_BUSY (R271). -/
def St.dmaBusy : Nat := 0x85
/-- SER_BUSY (R271). -/
def St.serBusy : Nat := 0x86
/-- NOT_VERIFIED (R271). -/
def St.notVerified : Nat := 0x87
/-- UPD_STATE (R271). -/
def St.updState : Nat := 0x88
/-- IMAGE_BAD (R271). -/
def St.imageBad : Nat := 0x89
/-- NOT_TRIAL (R271). -/
def St.notTrial : Nat := 0x8A
/-- SAFE_BAD (R271). -/
def St.safeBad : Nat := 0x8B
/-- KEY_IN_USE (R271). -/
def St.keyInUse : Nat := 0x8C
/-- LC_STATE (R271). -/
def St.lcState : Nat := 0x8D
/-- FUSED (R271). -/
def St.fused : Nat := 0x8E
/-- PWR_SAFETY (R271). -/
def St.pwrSafety : Nat := 0x8F
/-- PWR_STATE (R271). -/
def St.pwrState : Nat := 0x90
/-- THM_BUSY (R271). -/
def St.thmBusy : Nat := 0x91
/-- TEST_BUSY (R271). -/
def St.testBusy : Nat := 0x92
/-- RDM_OFF (R271). -/
def St.rdmOff : Nat := 0x93

end Sys2Proof.Machine
end

