-- ==== Sys2Proof/Machine/Baste.lean ====
section
/-!
DEFINITION. Basted parameter updates (R95–R116): which objects are basted, what a commit freezes, when it can apply,
the page writer's copy, the flip, and cancelling.
-/

namespace Sys2Proof.Machine

/-! ## What is basted (R97) -/

/-- The first number of the pattern parameters (R123, R231). -/
def paramBase : Nat := 0x100000
/-- The first venue slot (R234). -/
def slotBase : Nat := 0x1000000

/-- The parameter record of an object number, while a pattern is placed (R123, R233). -/
def State.param? (s : State) (num : Nat) : Option Param :=
  if num < paramBase || decide (0x200000 ≤ num) then none
  else s.last.pat.bind (fun p => p.params[num - paramBase]?)

/-- The group table and element of a gain object's element, and the stream it belongs to (R97, R193). -/
def gainGroup (num i : Nat) : Option (Nat × Nat) :=
  if 0x4120 ≤ num && decide (num ≤ 0x412F) then some (Obj.shaRxGroup, 16 * (num - 0x4120) + i / 64)
  else if 0x4150 ≤ num && decide (num ≤ 0x415F) then some (Obj.shaTxGroup, 16 * (num - 0x4150) + i / 64)
  else if 0x6120 ≤ num && decide (num ≤ 0x612F) then some (Obj.shbRxGroup, 16 * (num - 0x6120) + i / 64)
  else if 0x6150 ≤ num && decide (num ≤ 0x615F) then some (Obj.shbTxGroup, 16 * (num - 0x6150) + i / 64)
  else none

/-- The group table and element of a venue slot's universe (R97). -/
def slotGroup (num : Nat) : Option (Nat × Nat) :=
  if slotBase ≤ num && decide (num < 0x2000000) then
    let u := (num - slotBase) / 512
    some (Obj.univGroup0 + u / 1024, u % 1024)
  else none

/-- The group table and element that govern an object's element, for gains and venue slots. -/
def groupCell (num i : Nat) : Option (Nat × Nat) :=
  match gainGroup num i with
  | some c => some c
  | none => slotGroup num

/-- The commit group of an object's element; none when it is not basted (R97). -/
def State.groupOf (s : State) (num i : Nat) : Option Nat :=
  match s.param? num with
  | some p => if p.flags.testBit 0 then some p.group else none
  | none =>
    match groupCell num i with
    | some c => let g := s.nat c.1 c.2; if g = 0xFFFF then none else some g
    | none => none

/-- An object's element belongs to a member that leaves its group at the next strobe (R98). -/
def State.leaves (s : State) (num i : Nat) : Bool := (groupCell num i).any (fun c => s.baste.leaving.contains c)

/-- The committed value of an object's element (R95, R235): for an unbasted one, its value. A member that is leaving its
group keeps its active bank until the next strobe (R98). -/
def State.committedVal (s : State) (num i : Nat) : Int :=
  if (s.groupOf num i).isSome || s.leaves num i then look (objRest s.e16) s.baste.committed (objKey num i)
  else s.obj num i

/-- Give a committed value. -/
def State.setCommitted (s : State) (key : Nat) (v : Int) : State :=
  { s with baste := { s.baste with committed := put (objRest s.e16) s.baste.committed key v } }

/-- The word of the pending bank of a gain or slot. -/
def State.pendVal (s : State) (key : Nat) : Int := look (objRest s.e16) s.baste.pend key

/-- Give a pending bank's word. -/
def State.setPend (s : State) (key : Nat) (v : Int) : State :=
  { s with baste := { s.baste with pend := put (objRest s.e16) s.baste.pend key v } }

/-- The elements of object num whose value is v. -/
def State.elemsWith (s : State) (num : Nat) (v : Int) : List Nat :=
  (s.regs.filter (fun e => e.1 / 2048 == num && e.2 == v)).map (fun e => e.1 % 2048)

/-- Register-file keys of stream i's 64 gains in the gain objects that begin at `base` (R97, R193). -/
def streamKeys (base i : Nat) : List Nat :=
  (List.range 64).map (fun j => objKey (base + i / 16) (64 * (i % 16) + j))

/-- Register-file keys of the 512 slots of universe u. -/
def universeKeys (u : Nat) : List Nat := (List.range 512).map (fun k => objKey (slotBase + 512 * u + k) 0)

/-- A piece's parameters take part in its group's commits: it is placed or migrating (R108). -/
def State.pieceLive (s : State) (i : Nat) : Bool :=
  let st := (look (fun _ => PieceSt.none) s.last.pieces i).state
  st == 1 || st == 2

/-- Register-file keys of the basted pattern parameters of group g. -/
def State.paramKeys (s : State) (g : Nat) : List Nat :=
  match s.last.pat with
  | none => []
  | some p =>
    (p.params.zipIdx.filter (fun e => e.1.flags.testBit 0 && e.1.group == g)).flatMap
      (fun e => (List.range e.1.words).map (fun k => objKey (paramBase + e.2) k))

/-- The members a group table's elements give: keys of every element that names group g. -/
def State.tableKeys (s : State) (table g : Nat) (keys : Nat → List Nat) : List Nat :=
  (s.elemsWith table (Int.ofNat g)).flatMap keys

/-- Register-file keys of every object of group g (R97). -/
def State.groupKeys (s : State) (g : Nat) : List Nat :=
  s.paramKeys g ++ s.tableKeys Obj.shaRxGroup g (streamKeys 0x4120) ++ s.tableKeys Obj.shaTxGroup g (streamKeys 0x4150)
    ++ s.tableKeys Obj.shbRxGroup g (streamKeys 0x6120) ++ s.tableKeys Obj.shbTxGroup g (streamKeys 0x6150)
    ++ (List.range 32).flatMap (fun k => s.tableKeys (Obj.univGroup0 + k) g (fun e => universeKeys (1024 * k + e)))

/-! ## Parameter pages (R58, R104) -/

/-- The word of X or Y memory of a needle, and storing one there and in its golden twin (R104, R115). -/
def Needle.memWord (nd : Needle) (y : Bool) (e : Nat) : Word := if y then nd.yw e else nd.xw e
/-- Key of a word in the golden twin and the initial image: X words, then Y words. -/
def memKey (y : Bool) (e : Nat) : Nat := (if y then 16384 else 0) + e % 16384
/-- Store a parameter word and its golden twin's word. -/
def Needle.setPage (nd : Needle) (y : Bool) (e : Nat) (w : Word) : Needle :=
  let nd1 := if y then nd.setY e w else nd.setX e w
  { nd1 with golden := put (fun _ => 0) nd1.golden (memKey y e) w }

/-- The page bases of a block: the active one and the pending one. -/
def ParamBlock.act (b : ParamBlock) : Nat := if b.sel then b.baseB else b.baseA
/-- The pending page's base. -/
def ParamBlock.pen (b : ParamBlock) : Nat := if b.sel then b.baseA else b.baseB

/-- The placed blocks that hold a parameter: needle, block entry, and word offset of its first element. A piece that has
been migrating has them at its target too, once they are copied there (R104, R140). -/
def State.paramPlaces (s : State) (p : Param) : List (Nat × ParamBlock × Nat) :=
  ((s.last.copies ++ (s.last.migs.filter (fun m => m.mirror && !m.switched)).flatMap (·.copies)).filter (fun c => c.piece == p.piece)).filterMap (fun c =>
    ((s.needle c.needle).blocks.find? (fun b => b.blk == c.blkBase + p.block)).map (fun b => (c.needle, b, p.offset)))

/-- A parameter's word as memory holds it (R238). -/
def paramWord (v : Int) : Word := BitVec.ofInt 32 v

/-- The words of members' pending pages that differ from a parameter's frozen value: one for each copy of a live piece, and
one a word for a migrating piece, whose target is no member of its own (R102, R108; DESIGN CHOICE, assumption 116). -/
def State.lagPages (s : State) (p : Param) (key : Nat) (v : Int) : Nat :=
  if s.pieceLive p.piece then
    ((s.paramPlaces p).filter (fun q => s.last.copies.any (fun c => c.piece == p.piece && c.needle == q.1) &&
      (s.needle q.1).memWord q.2.1.y (q.2.1.pen + q.2.2 + key % 2048) != paramWord v)).length
  else 0

/-- The unit a lagging gain or slot is copied in: a gain, or four slots of a universe (R102). -/
def copyUnit (key : Nat) : Nat := if key / 2048 < slotBase then key else (key / 2048 - slotBase) / 4 + slotBase * 2048

/-- The distinct members of a list. -/
def distinct : List Nat → List Nat
  | [] => []
  | k :: t => if t.contains k then distinct t else k :: distinct t

/-- The words of a frozen set the page writer must copy (R102). -/
def State.lagWords (s : State) (frozen : List (Nat × Int)) : Nat :=
  (frozen.map (fun e => ((s.param? (e.1 / 2048)).map (fun p => s.lagPages p e.1 e.2)).getD 0)).sum +
    (distinct ((frozen.filter (fun e => (s.param? (e.1 / 2048)).isNone && s.pendVal e.1 != e.2)).map
      (fun e => copyUnit e.1))).length

/-! ## Accepting a commit (R100–R103) -/

/-- Words not yet copied for accepted commits (R102). -/
def State.backlog (s : State) : Nat := (s.baste.commits.map (fun c => if c.copied then 0 else c.words)).sum

/-- The outstanding commit of a group (R103). -/
def State.outstanding (s : State) (g : Nat) : Option Commit := s.baste.commits.find? (fun c => c.group == g)

/-- The earliest feasible stitch for q further words (R102). -/
def State.earliest (s : State) (q : Nat) : Nat :=
  let w := s.nat Obj.copyRate
  s.stitch + 2 + (s.backlog + q + w - 1) / (if w = 0 then 1 else w)

/-- The objects that report a group's outstanding and latest commit (R116). -/
def State.setPendObj (s : State) (g v : Nat) : State := s.setNat (Obj.groupPend0 + g / 1024) (g % 1024) v

/-- All ones in 64 bits. -/
def allOnes64 : Nat := 0xFFFFFFFFFFFFFFFF

/-- Accept a commit at stitch S: freeze the shadows and queue the copy (R100, R101). -/
def State.acceptCommit (s : State) (g S : Nat) (frozen : List (Nat × Int)) (q : Nat) : State :=
  let s1 : State := { s with baste := { s.baste with
    commits := s.baste.commits ++ [⟨g, S, frozen, q, false⟩] } }
  ((s1.setPendObj g S).setNat Obj.copyBacklog 0 s1.backlog).bump Obj.commitAcceptedHem

/-- The lowest role that may commit or cancel a group (R101, R116). -/
def State.commitRole (s : State) (g : Nat) : Nat := s.field (Obj.groupCfg0 + g / 1024) (g % 1024) 2 0

/-- The requester's role reaches the group's (R101); a stranger's never does (R271). -/
def mayCommit (w : Writer) (lowest : Nat) : Bool :=
  match w.role with
  | some r => decide (lowest ≤ r)
  | none => false

/-- COMMIT(group, S) or COMMIT(group, NEXT) from a session or a control core: the status, the value returned and the
state (R101). -/
def State.commitRequest (s : State) (w : Writer) (g : Nat) (S : Option Nat) : Nat × Nat × State :=
  let refuse (st v : Nat) : Nat × Nat × State := (st, v, s.bump Obj.commitRefusedHem)
  if s.nat Obj.serviceLevel ≠ 0 then refuse St.commitService 0
  else if g = 0 || decide (4095 < g) then refuse St.commitGroup 0
  else if !mayCommit w (s.commitRole g) then refuse St.commitRole 0
  else
    match s.outstanding g with
    | some c => refuse St.commitBusy c.stitch
    | none =>
      let frozen := (s.groupKeys g).map (fun k => (k, look (objRest s.e16) s.regs k))
      let q := s.lagWords frozen
      let e := s.earliest q
      match S with
      | some t =>
        if s.stitch + 2 ^ 32 < t then refuse St.commitFar 0
        else if t < e then refuse St.commitLate e
        else (St.ok, t, s.acceptCommit g t frozen q)
      | none => (St.ok, e, s.acceptCommit g e frozen q)

/-- Group 0 holds a shadow that differs from its committed value (R99). -/
def State.group0Differs (s : State) : Bool :=
  (s.groupKeys 0).any (fun k => look (objRest s.e16) s.regs k != look (objRest s.e16) s.baste.committed k)

/-- The dictionary engine's own COMMIT(0, NEXT), in every service level (R99, R101). -/
def State.commitGroup0 (s : State) : State :=
  if s.group0Differs && (s.outstanding 0).isNone then
    let frozen := (s.groupKeys 0).map (fun k => (k, look (objRest s.e16) s.regs k))
    let q := s.lagWords frozen
    s.acceptCommit 0 (s.earliest q) frozen q
  else s

/-! ## The copy (R104) -/

/-- A needle's run of a stitch before a block's latest flip is still executing (R104). -/
def State.pageBusy (s : State) (key : Nat) : Bool :=
  match s.param? (key / 2048) with
  | some p => (s.paramPlaces p).any (fun q => (s.needle q.1).run.any (fun r => decide (r.stitch < q.2.1.flip)))
  | none => false

/-- Copy one frozen value into its pending bank, and for a parameter into the page's golden twin (R104). -/
def State.copyWord (s : State) (e : Nat × Int) : State :=
  match s.param? (e.1 / 2048) with
  | some p => (s.paramPlaces p).foldl (fun s q =>
      s.modNeedle q.1 (fun nd => nd.setPage q.2.1.y (q.2.1.pen + q.2.2 + e.1 % 2048) (paramWord e.2))) s
  | none => s.setPend e.1 e.2

/-- The page writer completes the copy of group g's commit, when it is the oldest not copied and none of its pages is
still read by an earlier run (R104, R107). -/
def State.copyDone (s : State) (g : Nat) : State :=
  match s.baste.commits.find? (fun c => !c.copied) with
  | none => s
  | some c =>
    if c.group ≠ g || c.frozen.any (fun e => s.pageBusy e.1) then s
    else
      let s1 := c.frozen.foldl State.copyWord s
      let s2 : State := { s1 with baste := { s1.baste with
        commits := s1.baste.commits.map (fun d => if d.group = g then { d with copied := true, words := 0 } else d) } }
      s2.setNat Obj.copyBacklog 0 s2.backlog

/-! ## The flip (R105–R108) -/

/-- The parameter blocks a group's commit flips: needle and block number of every live piece's blocks of the group. -/
def State.groupBlocks (s : State) (g : Nat) : List (Nat × Nat) :=
  match s.last.pat with
  | none => []
  | some p =>
    (p.params.filter (fun q => q.flags.testBit 0 && q.group == g && s.pieceLive q.piece)).flatMap
      (fun q => (s.paramPlaces q).map (fun e => (e.1, e.2.1.blk)))

/-- From stitch k on the value of a stream gain is another than v; the banks of stitches before k keep v (R109, R183). -/
def State.noteGain (s : State) (k key : Nat) (v : Int) : State :=
  if (gainGroup (key / 2048) (key % 2048)).isNone || s.baste.prior.any (fun e => e.1 == key && e.2.1 == k) then s
  else
    let recent := s.baste.prior.filter (fun e => decide (s.stitch < e.2.1 + 4))
    { s with baste := { s.baste with prior := (key, k, v) :: recent } }

/-- Switch one block's page at stitch k. -/
def State.flipBlock (s : State) (k : Nat) (e : Nat × Nat) : State :=
  s.modNeedle e.1 (fun nd => { nd with
    blocks := nd.blocks.map (fun b => if b.blk = e.2 && b.flip ≠ k then { b with sel := !b.sel, flip := k } else b) })

/-- One frozen value becomes the committed value; the old active word of a gain or slot becomes the pending bank's
(R95, R105), also of a parameter whose piece has dropped out of the switch (R108). -/
def State.applyWord (s : State) (k : Nat) (e : Nat × Int) : State :=
  match s.param? (e.1 / 2048) with
  | some _ => s.setCommitted e.1 e.2
  | none =>
    let old := look (objRest s.e16) s.baste.committed e.1
    ((s.noteGain k e.1 old).setPend e.1 old).setCommitted e.1 e.2

/-- Apply a commit at the strobe of stitch k: every member switches, and the commit is counted and logged; one that
comes after its stitch is also logged and counted as slipped (R105, R107, R366). -/
def State.applyCommit (s : State) (k : Nat) (c : Commit) : State :=
  let s1 := (s.groupBlocks c.group).foldl (fun s e => s.flipBlock k e) s
  let s2 := c.frozen.foldl (fun s e => s.applyWord k e) s1
  let s3 : State := { s2 with baste := { s2.baste with commits := s2.baste.commits.filter (fun d => d.group != c.group) } }
  let s4 := (s3.setPendObj c.group allOnes64).setNat (Obj.groupLast0 + c.group / 1024) (c.group % 1024) k
  let s5 := (s4.bump Obj.commitAppliedHem).log 0x10 c.group (c.stitch % 2 ^ 32)
  if c.stitch < k then (s5.bump Obj.commitSlippedHem).logAt 0x11 0 k c.group (c.stitch % 2 ^ 32) 0 else s5

/-- Step 3 of R16: every commit due at stitch k whose copy is complete applies, in acceptance order. -/
def State.flipPages (s : State) (k : Nat) : State :=
  (s.baste.commits.filter (fun c => decide (c.stitch ≤ k) && c.copied)).foldl (fun s c => s.applyCommit k c) s

/-! ## Cancelling (R111, R112) -/

/-- Cancel a group's outstanding commit for a reason: 0 host, 1 TRIM, 2 PLACEMENT (R111, R112, R366). -/
def State.cancelCommit (s : State) (reason : Nat) (c : Commit) : State :=
  let s1 : State := { s with baste := { s.baste with commits := s.baste.commits.filter (fun d => d.group != c.group) } }
  let s2 := (s1.setPendObj c.group allOnes64).setNat Obj.copyBacklog 0 s1.backlog
  (s2.bump Obj.commitCancelledHem).log 0x12 c.group (c.stitch % 2 ^ 32) reason

/-- Cancel every outstanding commit (R112). -/
def State.cancelAll (s : State) (reason : Nat) : State := s.baste.commits.foldl (fun s c => s.cancelCommit reason c) s

/-- The check of a write of group g to COMMIT_CANCEL (R111). -/
def State.cancelCheck (s : State) (w : Writer) (g : Nat) : Nat :=
  if g = 0 || decide (4095 < g) then St.commitGroup
  else if !mayCommit w (s.commitRole g) then St.commitRole
  else
    match s.outstanding g with
    | none => St.commitNone
    | some c => if c.stitch ≤ s.stitch + 1 then St.commitArmed else St.ok

/-- The effect of an accepted write to COMMIT_CANCEL. -/
def State.cancelGroup (s : State) (g : Nat) : State :=
  match s.outstanding g with
  | none => s
  | some c => s.cancelCommit 0 c

/-! ## Group tables (R98, R116) -/

/-- The numbers of the stream and universe group tables. -/
def isGroupTable (num : Nat) : Bool :=
  (0xF020 ≤ num && decide (num ≤ 0xF03F)) || (0xF040 ≤ num && decide (num ≤ 0xF043))

/-- The keys of the member an element of a group table stands for. -/
def tableMember (num i : Nat) : List Nat :=
  if num = Obj.shaRxGroup then streamKeys 0x4120 i
  else if num = Obj.shaTxGroup then streamKeys 0x4150 i
  else if num = Obj.shbRxGroup then streamKeys 0x6120 i
  else if num = Obj.shbTxGroup then streamKeys 0x6150 i
  else universeKeys (1024 * (num - Obj.univGroup0) + i)

/-- The check of a group-table element's new value (R98). -/
def State.groupCheck (s : State) (num i v : Nat) : Nat :=
  if decide (4096 ≤ v) && v != 0xFFFF then St.range
  else if (s.outstanding (s.nat num i)).isSome || (s.outstanding v).isSome then St.commitBusy
  else St.ok

/-- What a group-table element's change does beside the element: turning basting on makes the member's banks equal to
its values in force; turning it off makes the active copy follow the shadow from the next strobe (R98). -/
def State.groupEffect (s : State) (num i old v : Nat) : State :=
  let left := s.baste.leaving.contains (num, i)
  if old = 0xFFFF && v != 0xFFFF then
    (tableMember num i).foldl (fun s k =>
      let a := if left then look (objRest s.e16) s.baste.committed k
        else look (objRest s.e16) s.regs k
      ((s.setCommitted k a).setPend k a).setObj (k / 2048) (k % 2048) a)
      { s with baste := { s.baste with leaving := s.baste.leaving.filter (fun c => c != (num, i)) } }
  else if old != 0xFFFF && v = 0xFFFF then
    { s with baste := { s.baste with leaving := (num, i) :: s.baste.leaving },
             fab := { s.fab with due := s.fab.due ++ [.unbaste num i] } }
  else s

/-- At the next strobe a member that left its group takes its shadow as active copy (R98). -/
def State.unbaste (s : State) (num i : Nat) : State :=
  let s := (tableMember num i).foldl (fun s k => s.noteGain s.stitch k (s.committedVal (k / 2048) (k % 2048))) s
  { s with baste := { s.baste with leaving := s.baste.leaving.filter (fun c => c != (num, i)) } }

end Sys2Proof.Machine
end

