-- ==== Sys2Proof/Machine/Code.lean ====
section
/-!
DEFINITION. Instruction words as the program memory of a needle and a pattern's code hold them (R52–R60), the words of
REPEAT (R63), and what the encoding alone makes illegal (R71, codes 0x01–0x07).
-/

namespace Sys2Proof

/-! ## Operand codes (R54, R59) -/

/-- An access mode by its code (R54). -/
def AMode.ofCode (c : Nat) : AMode :=
  match c % 8 with
  | 0 => .none
  | 1 => .inc
  | 2 => .incM
  | 3 => .circ
  | 4 => .bitrev
  | 5 => .index
  | 6 => .dec
  | _ => .hold

/-- The code of an access mode. -/
def AMode.code : AMode → Nat
  | .none => 0
  | .inc => 1
  | .incM => 2
  | .circ => 3
  | .bitrev => 4
  | .index => 5
  | .dec => 6
  | .hold => 7

/-- A mode addresses inside the pointer's window (R54). -/
def AMode.windowed : AMode → Bool
  | .circ | .bitrev | .index | .hold => true
  | _ => false

/-- A mode reads the modifier it names (R54). -/
def AMode.usesMod : AMode → Bool
  | .incM | .circ | .bitrev | .dec => true
  | _ => false

/-- Bits of a word from bit lo up, as a D register, a predicate or PTR or D pair, or an accumulator or lane number. -/
def dAt (o lo : Nat) : Fin 16 := Fin.ofNat 16 (o / 2 ^ lo)
/-- As `dAt`, three bits. -/
def pAt (o lo : Nat) : Fin 8 := Fin.ofNat 8 (o / 2 ^ lo)
/-- As `dAt`, two bits. -/
def aAt (o lo : Nat) : Fin 4 := Fin.ofNat 4 (o / 2 ^ lo)

/-- A quad source from its 3-bit code; 0b001–0b011 are reserved (R59). -/
def qdAt (o lo : Nat) : Option QuadSrc :=
  let c := o / 2 ^ lo % 8
  if c = 0 then some .fetched else if 4 ≤ c then some (.reg (Fin.ofNat 4 c)) else none
/-- Its code. -/
def QuadSrc.code : QuadSrc → Nat
  | .fetched => 0
  | .reg q => 4 + q.val

/-- A pair source from its 4-bit code; 0b0011–0b0111 are reserved (R59). -/
def prAt (o lo : Nat) : Option PairSrc :=
  let c := o / 2 ^ lo % 16
  if c = 0 then some .lo else if c = 1 then some .hi else if c = 2 then some .byE
  else if 8 ≤ c then some (.reg (Fin.ofNat 8 c)) else none
/-- Its code. -/
def PairSrc.code : PairSrc → Nat
  | .lo => 0
  | .hi => 1
  | .byE => 2
  | .reg p => 8 + p.val

/-- A scalar source from its 5-bit code; 0b10100–0b11111 are reserved (R59). -/
def scAt (o lo : Nat) : Option ScalarSrc :=
  let c := o / 2 ^ lo % 32
  if c < 16 then some (.reg (Fin.ofNat 16 c)) else if c < 20 then some (.lane (Fin.ofNat 4 c)) else none
/-- Its code. -/
def ScalarSrc.code : ScalarSrc → Nat
  | .reg d => d.val
  | .lane l => 16 + l.val

/-- An accumulate mode from its 2-bit code; 0b11 is reserved (R59). -/
def amAt (o lo : Nat) : Option AccMode :=
  match o / 2 ^ lo % 4 with
  | 0 => some .acc
  | 1 => some .sub
  | 2 => some .clr
  | _ => none
/-- Its code. -/
def AccMode.code : AccMode → Nat
  | .acc => 0
  | .sub => 1
  | .clr => 2

/-- A condition from its 4-bit code; 8–15 are reserved (R59). -/
def ccAt (o lo : Nat) : Option Cond :=
  match o / 2 ^ lo % 16 with
  | 0 => some .eq
  | 1 => some .ne
  | 2 => some .lt
  | 3 => some .le
  | 4 => some .gt
  | 5 => some .ge
  | 6 => some .ltu
  | 7 => some .geu
  | _ => none
/-- Its code. -/
def Cond.code : Cond → Nat
  | .eq => 0
  | .ne => 1
  | .lt => 2
  | .le => 3
  | .gt => 4
  | .ge => 5
  | .ltu => 6
  | .geu => 7

/-- A predicate operation from its 2-bit code (R59). -/
def poAt (o lo : Nat) : Option PredOp :=
  match o / 2 ^ lo % 4 with
  | 0 => some .and
  | 1 => some .or
  | 2 => some .xor
  | _ => some .andn
/-- Its code. -/
def PredOp.code : PredOp → Nat
  | .and => 0
  | .or => 1
  | .xor => 2
  | .andn => 3

/-! ## The common fields (R52) -/

/-- An access field from its 8 bits: mode, pointer, modifier. -/
def accessAt (c : Nat) : Access := ⟨AMode.ofCode (c / 32), aAt c 3, pAt c 0⟩
/-- Its 8 bits. -/
def Access.bits8 (a : Access) : Nat := a.mode.code * 32 + a.ptr.val * 8 + a.md.val

/-- Bits [55:35] of an instruction word: S, PK, PN and the two access fields. -/
def gateAt (c : Nat) : Gate :=
  ⟨c / 2 ^ 20 % 2 == 1, pAt c 17, c / 2 ^ 16 % 2 == 1, accessAt (c / 256), accessAt c, .good⟩
/-- Bits [55:35] of the word. -/
def Gate.bits21 (g : Gate) : Nat :=
  g.sat.toNat * 2 ^ 20 + g.pk.val * 2 ^ 17 + g.pn.toNat * 2 ^ 16 + g.x.bits8 * 256 + g.y.bits8

/-- The needle whose slot a command is; none for any other command. -/
def Instr.needle? : Instr → Option (Fin 128)
  | .nop n _ | .stcl n _ _ | .stch n _ _ | .gsl n _ _ _ | .ldih n _ _ _ | .ldil n _ _ _ | .mov n _ _ _
  | .add n _ _ _ _ | .sub n _ _ _ _ | .addi n _ _ _ _ | .neg n _ _ _ | .abs n _ _ _ | .min n _ _ _ _ | .max n _ _ _ _
  | .and n _ _ _ _ | .or n _ _ _ _ | .xor n _ _ _ _ | .not n _ _ _ | .select n _ _ _ _ _ | .asl n _ _ _ _ _ _
  | .asr n _ _ _ _ _ _ | .lsl n _ _ _ _ _ _ | .lsr n _ _ _ _ _ _ | .cmp n _ _ _ _ _ | .cmpi n _ _ _ _ _
  | .acmp n _ _ _ _ _ | .plog n _ _ _ _ _ | .mac4Dot n _ _ _ _ _ | .mac4Fan n _ _ _ _ | .mac4Lane n _ _ _ _
  | .cmac n _ _ _ _ | .cmacCj n _ _ _ _ | .msq n _ _ _ | .bfly n _ _ _ _ _ _ | .bflyH n _ _ _ _ _ _ | .lda n _ _ _
  | .aclr n _ _ | .aadd n _ _ _ _ | .asub n _ _ _ _ | .aasl n _ _ _ _ | .aasr n _ _ _ _ | .asel n _ _ _ _ _
  | .wb n _ _ _ | .wb4 n _ _ | .staX n _ _ | .staY n _ _ | .rdag n _ _ _ | .rdah n _ _ _ | .rdal n _ _ _
  | .wrag n _ _ _ | .wrah n _ _ _ | .wral n _ _ _ | .log2 n _ _ _ | .exp2 n _ _ _ | .rsqe n _ _ _ | .divs n _ _ _ _
  | .tlu n _ _ _ _ | .glide n _ _ _ _ _ | .mpeak n _ _ _ | .ldx n _ _ _ | .ldy n _ _ _ | .ldqx n _ _ | .ldqy n _ _
  | .stx n _ _ | .sty n _ _ | .seta n _ _ _ | .setaD n _ _ _ | .setb n _ _ _ | .setbP n _ _ _ | .setl n _ _ _
  | .setm n _ _ _ | .setmD n _ _ _ | .rdp n _ _ _ | .inW n _ _ _ | .inq n _ _ _ | .outW n _ _ _ | .outq n _ _ _
  | .sout n _ _ _ | .sin n _ _ _ _ _ | .sinf n _ _ _ _ _ | .bldW n _ _ _ _ _ | .bldT n _ _ _ _ _ | .bstW n _ _ _ _ _
  | .bstT n _ _ _ _ _ => some n
  | _ => none

end Sys2Proof

namespace Sys2Proof.Machine

/-! ## Words (R60) -/

/-- The bits of OPS an opcode uses; none for a code that is no opcode of program memory. -/
def opsMask (op : Nat) : Option Nat :=
  match op with
  | 0x00 => some 0x000000000
  | 0x02 | 0x03 => some 0x780000000
  | 0x04 | 0x05 | 0x06 => some 0x78000FFFF
  | 0x07 | 0x13 | 0x14 | 0x1A | 0x70 | 0x71 | 0x72 | 0x76 => some 0x7F8000000
  | 0x10 | 0x11 | 0x15 | 0x16 | 0x17 | 0x18 | 0x19 => some 0x7FF800000
  | 0x12 => some 0x7F800FFFF
  | 0x1B | 0x75 => some 0x7FFF00000
  | 0x20 | 0x21 | 0x22 | 0x23 => some 0x7FF80003F
  | 0x30 => some 0x77F8F0000
  | 0x31 => some 0x7780FFFFF
  | 0x32 => some 0x7780F0000
  | 0x33 => some 0x777030000
  | 0x40 => some 0x7FE000000
  | 0x41 | 0x43 | 0x44 => some 0x1FF800000
  | 0x42 => some 0x1FE000000
  | 0x45 | 0x50 => some 0x678000000
  | 0x46 | 0x47 => some 0x7FFFE0000
  | 0x51 | 0x61 | 0x82 | 0x83 => some 0x600000000
  | 0x52 | 0x53 | 0x60 | 0x64 | 0x65 | 0x66 => some 0x7E0000000
  | 0x54 | 0x55 => some 0x78000003F
  | 0x56 => some 0x7E0700000
  | 0x62 | 0x63 => some 0x060000000
  | 0x67 | 0x68 | 0x69 => some 0x067800000
  | 0x73 => some 0x7E7800000
  | 0x74 => some 0x7F8600000
  | 0x80 | 0x81 => some 0x780000003
  | 0x84 | 0x85 => some 0x078000000
  | 0x90 | 0x92 => some 0x700003FFF
  | 0x91 | 0x96 => some 0x778000000
  | 0x93 => some 0x7FF000000
  | 0x94 => some 0x700007FFF
  | 0x95 => some 0x70000FFFF
  | 0x97 => some 0x7F0000000
  | 0xA0 => some 0x7800000FF
  | 0xA1 | 0xA3 => some 0x6000000FF
  | 0xA2 => some 0x0780000FF
  | 0xA4 => some 0x07800003F
  | 0xA5 | 0xA6 => some 0x7FF00003F
  | 0xB0 | 0xB1 | 0xB2 | 0xB3 => some 0x7F8000FFF
  | _ => none

/-- The instruction an opcode and its operand bits spell; none for a code that is no opcode and for a reserved operand
code. -/
def instrOf (n : Fin 128) (g : Gate) (op o : Nat) : Option Instr :=
  match op with
  | 0x00 => some (.nop n g)
  | 0x02 => some (.stcl n g (dAt o 31))
  | 0x03 => some (.stch n g (dAt o 31))
  | 0x04 => some (.gsl n g (dAt o 31) (BitVec.ofNat 16 o))
  | 0x05 => some (.ldih n g (dAt o 31) (BitVec.ofNat 16 o))
  | 0x06 => some (.ldil n g (dAt o 31) (BitVec.ofNat 16 o))
  | 0x07 => some (.mov n g (dAt o 31) (dAt o 27))
  | 0x10 => some (.add n g (dAt o 31) (dAt o 27) (dAt o 23))
  | 0x11 => some (.sub n g (dAt o 31) (dAt o 27) (dAt o 23))
  | 0x12 => some (.addi n g (dAt o 31) (dAt o 27) (BitVec.ofNat 16 o))
  | 0x13 => some (.neg n g (dAt o 31) (dAt o 27))
  | 0x14 => some (.abs n g (dAt o 31) (dAt o 27))
  | 0x15 => some (.min n g (dAt o 31) (dAt o 27) (dAt o 23))
  | 0x16 => some (.max n g (dAt o 31) (dAt o 27) (dAt o 23))
  | 0x17 => some (.and n g (dAt o 31) (dAt o 27) (dAt o 23))
  | 0x18 => some (.or n g (dAt o 31) (dAt o 27) (dAt o 23))
  | 0x19 => some (.xor n g (dAt o 31) (dAt o 27) (dAt o 23))
  | 0x1A => some (.not n g (dAt o 31) (dAt o 27))
  | 0x1B => some (.select n g (dAt o 31) (dAt o 27) (dAt o 23) (pAt o 20))
  | 0x20 => some (.asl n g (dAt o 31) (dAt o 27) (dAt o 23) (o / 32 % 2 == 1) (Fin.ofNat 32 o))
  | 0x21 => some (.asr n g (dAt o 31) (dAt o 27) (dAt o 23) (o / 32 % 2 == 1) (Fin.ofNat 32 o))
  | 0x22 => some (.lsl n g (dAt o 31) (dAt o 27) (dAt o 23) (o / 32 % 2 == 1) (Fin.ofNat 32 o))
  | 0x23 => some (.lsr n g (dAt o 31) (dAt o 27) (dAt o 23) (o / 32 % 2 == 1) (Fin.ofNat 32 o))
  | 0x30 => do
    let cc ← ccAt o 16
    some (.cmp n g (pAt o 32) (dAt o 27) (dAt o 23) cc)
  | 0x31 => do
    let cc ← ccAt o 16
    some (.cmpi n g (pAt o 32) (dAt o 27) cc (BitVec.ofNat 16 o))
  | 0x32 => do
    let cc ← ccAt o 16
    some (.acmp n g (pAt o 32) (aAt o 29) (aAt o 27) cc)
  | 0x33 => do
    let op ← poAt o 16
    some (.plog n g (pAt o 32) (pAt o 28) (pAt o 24) op)
  | 0x40 => do
    let md ← amAt o 31
    let xq ← qdAt o 28
    let yq ← qdAt o 25
    some (.mac4Dot n g (aAt o 33) md xq yq)
  | 0x41 => do
    let md ← amAt o 31
    let sc ← scAt o 26
    let yq ← qdAt o 23
    some (.mac4Fan n g md sc yq)
  | 0x42 => do
    let md ← amAt o 31
    let xq ← qdAt o 28
    let yq ← qdAt o 25
    some (.mac4Lane n g md xq yq)
  | 0x43 => do
    let md ← amAt o 31
    let xp ← prAt o 27
    let yp ← prAt o 23
    some (.cmac n g md xp yp)
  | 0x44 => do
    let md ← amAt o 31
    let xp ← prAt o 27
    let yp ← prAt o 23
    some (.cmacCj n g md xp yp)
  | 0x45 => some (.msq n g (aAt o 33) (dAt o 27))
  | 0x46 => do
    let a ← prAt o 25
    let b ← prAt o 21
    let w ← prAt o 17
    some (.bfly n g (pAt o 32) (pAt o 29) a b w)
  | 0x47 => do
    let a ← prAt o 25
    let b ← prAt o 21
    let w ← prAt o 17
    some (.bflyH n g (pAt o 32) (pAt o 29) a b w)
  | 0x50 => some (.lda n g (aAt o 33) (dAt o 27))
  | 0x51 => some (.aclr n g (aAt o 33))
  | 0x52 => some (.aadd n g (aAt o 33) (aAt o 31) (aAt o 29))
  | 0x53 => some (.asub n g (aAt o 33) (aAt o 31) (aAt o 29))
  | 0x54 => some (.aasl n g (aAt o 33) (aAt o 31) (Fin.ofNat 64 o))
  | 0x55 => some (.aasr n g (aAt o 33) (aAt o 31) (Fin.ofNat 64 o))
  | 0x56 => some (.asel n g (aAt o 33) (aAt o 31) (aAt o 29) (pAt o 20))
  | 0x60 => some (.wb n g (dAt o 31) (aAt o 29))
  | 0x61 => some (.wb4 n g (aAt o 33))
  | 0x62 => some (.staX n g (aAt o 29))
  | 0x63 => some (.staY n g (aAt o 29))
  | 0x64 => some (.rdag n g (dAt o 31) (aAt o 29))
  | 0x65 => some (.rdah n g (dAt o 31) (aAt o 29))
  | 0x66 => some (.rdal n g (dAt o 31) (aAt o 29))
  | 0x67 => some (.wrag n g (aAt o 29) (dAt o 23))
  | 0x68 => some (.wrah n g (aAt o 29) (dAt o 23))
  | 0x69 => some (.wral n g (aAt o 29) (dAt o 23))
  | 0x70 => some (.log2 n g (dAt o 31) (dAt o 27))
  | 0x71 => some (.exp2 n g (dAt o 31) (dAt o 27))
  | 0x72 => some (.rsqe n g (dAt o 31) (dAt o 27))
  | 0x73 => some (.divs n g (dAt o 31) (aAt o 29) (dAt o 23))
  | 0x74 => some (.tlu n g (dAt o 31) (dAt o 27) (aAt o 21))
  | 0x75 => some (.glide n g (dAt o 31) (dAt o 27) (dAt o 23) (pAt o 20))
  | 0x76 => some (.mpeak n g (dAt o 31) (dAt o 27))
  | 0x80 => some (.ldx n g (dAt o 31) (aAt o 0))
  | 0x81 => some (.ldy n g (dAt o 31) (aAt o 0))
  | 0x82 => some (.ldqx n g (aAt o 33))
  | 0x83 => some (.ldqy n g (aAt o 33))
  | 0x84 => some (.stx n g (dAt o 27))
  | 0x85 => some (.sty n g (dAt o 27))
  | 0x90 => some (.seta n g (pAt o 32) (BitVec.ofNat 14 o))
  | 0x91 => some (.setaD n g (pAt o 32) (dAt o 27))
  | 0x92 => some (.setb n g (pAt o 32) (BitVec.ofNat 14 o))
  | 0x93 => some (.setbP n g (pAt o 32) (Fin.ofNat 256 (o / 16777216)))
  | 0x94 => some (.setl n g (pAt o 32) (BitVec.ofNat 15 o))
  | 0x95 => some (.setm n g (pAt o 32) (BitVec.ofNat 16 o))
  | 0x96 => some (.setmD n g (pAt o 32) (dAt o 27))
  | 0x97 => some (.rdp n g (dAt o 31) (pAt o 28))
  | 0xA0 => some (.inW n g (dAt o 31) (Fin.ofNat 256 o))
  | 0xA1 => some (.inq n g (aAt o 33) (Fin.ofNat 256 o))
  | 0xA2 => some (.outW n g (dAt o 27) (Fin.ofNat 256 o))
  | 0xA3 => some (.outq n g (aAt o 33) (Fin.ofNat 256 o))
  | 0xA4 => some (.sout n g (dAt o 27) (Fin.ofNat 64 o))
  | 0xA5 => some (.sin n g (dAt o 31) (Fin.ofNat 128 (o / 16777216)) (Fin.ofNat 64 o) ⟨false, false⟩)
  | 0xA6 => some (.sinf n g (dAt o 31) (Fin.ofNat 128 (o / 16777216)) (Fin.ofNat 64 o) ⟨false, false⟩)
  | 0xB0 => some (.bldW n g (dAt o 31) (dAt o 27) (BitVec.ofNat 12 o) ⟨0, 0, []⟩)
  | 0xB1 => some (.bldT n g (dAt o 31) (dAt o 27) (BitVec.ofNat 12 o) ⟨0, 0, []⟩)
  | 0xB2 => some (.bstW n g (dAt o 31) (dAt o 27) (BitVec.ofNat 12 o) ⟨0, 0, []⟩)
  | 0xB3 => some (.bstT n g (dAt o 31) (dAt o 27) (BitVec.ofNat 12 o) ⟨0, 0, []⟩)
  | _ => none

/-- Opcode, common fields and operand bits of a needle instruction; none for any other command. -/
def opOf (i : Instr) : Option (Nat × Gate × Nat) :=
  match i with
  | .nop _ g => some (0x00, g, 0)
  | .stcl _ g d => some (0x02, g, d.val * 2147483648)
  | .stch _ g d => some (0x03, g, d.val * 2147483648)
  | .gsl _ g d period => some (0x04, g, d.val * 2147483648 + period.toNat)
  | .ldih _ g d imm => some (0x05, g, d.val * 2147483648 + imm.toNat)
  | .ldil _ g d imm => some (0x06, g, d.val * 2147483648 + imm.toNat)
  | .mov _ g d a => some (0x07, g, d.val * 2147483648 + a.val * 134217728)
  | .add _ g d a b => some (0x10, g, d.val * 2147483648 + a.val * 134217728 + b.val * 8388608)
  | .sub _ g d a b => some (0x11, g, d.val * 2147483648 + a.val * 134217728 + b.val * 8388608)
  | .addi _ g d a imm => some (0x12, g, d.val * 2147483648 + a.val * 134217728 + imm.toNat)
  | .neg _ g d a => some (0x13, g, d.val * 2147483648 + a.val * 134217728)
  | .abs _ g d a => some (0x14, g, d.val * 2147483648 + a.val * 134217728)
  | .min _ g d a b => some (0x15, g, d.val * 2147483648 + a.val * 134217728 + b.val * 8388608)
  | .max _ g d a b => some (0x16, g, d.val * 2147483648 + a.val * 134217728 + b.val * 8388608)
  | .and _ g d a b => some (0x17, g, d.val * 2147483648 + a.val * 134217728 + b.val * 8388608)
  | .or _ g d a b => some (0x18, g, d.val * 2147483648 + a.val * 134217728 + b.val * 8388608)
  | .xor _ g d a b => some (0x19, g, d.val * 2147483648 + a.val * 134217728 + b.val * 8388608)
  | .not _ g d a => some (0x1A, g, d.val * 2147483648 + a.val * 134217728)
  | .select _ g d a b pc =>
    some (0x1B, g, d.val * 2147483648 + a.val * 134217728 + b.val * 8388608 + pc.val * 1048576)
  | .asl _ g d a b rs k =>
    some (0x20, g, d.val * 2147483648 + a.val * 134217728 + b.val * 8388608 + rs.toNat * 32 + k.val)
  | .asr _ g d a b rs k =>
    some (0x21, g, d.val * 2147483648 + a.val * 134217728 + b.val * 8388608 + rs.toNat * 32 + k.val)
  | .lsl _ g d a b rs k =>
    some (0x22, g, d.val * 2147483648 + a.val * 134217728 + b.val * 8388608 + rs.toNat * 32 + k.val)
  | .lsr _ g d a b rs k =>
    some (0x23, g, d.val * 2147483648 + a.val * 134217728 + b.val * 8388608 + rs.toNat * 32 + k.val)
  | .cmp _ g pd a b cc => some (0x30, g, pd.val * 4294967296 + a.val * 134217728 + b.val * 8388608 + cc.code * 65536)
  | .cmpi _ g pd a cc imm => some (0x31, g, pd.val * 4294967296 + a.val * 134217728 + cc.code * 65536 + imm.toNat)
  | .acmp _ g pd a b cc =>
    some (0x32, g, pd.val * 4294967296 + a.val * 536870912 + b.val * 134217728 + cc.code * 65536)
  | .plog _ g pd pa pb op =>
    some (0x33, g, pd.val * 4294967296 + pa.val * 268435456 + pb.val * 16777216 + op.code * 65536)
  | .mac4Dot _ g ad md xq yq =>
    some (0x40, g, ad.val * 8589934592 + md.code * 2147483648 + xq.code * 268435456 + yq.code * 33554432)
  | .mac4Fan _ g md sc yq => some (0x41, g, md.code * 2147483648 + sc.code * 67108864 + yq.code * 8388608)
  | .mac4Lane _ g md xq yq => some (0x42, g, md.code * 2147483648 + xq.code * 268435456 + yq.code * 33554432)
  | .cmac _ g md xp yp => some (0x43, g, md.code * 2147483648 + xp.code * 134217728 + yp.code * 8388608)
  | .cmacCj _ g md xp yp => some (0x44, g, md.code * 2147483648 + xp.code * 134217728 + yp.code * 8388608)
  | .msq _ g ad x => some (0x45, g, ad.val * 8589934592 + x.val * 134217728)
  | .bfly _ g dm dk a b w =>
    some (0x46, g, dm.val * 4294967296 + dk.val * 536870912 + a.code * 33554432 + b.code * 2097152 + w.code * 131072)
  | .bflyH _ g dm dk a b w =>
    some (0x47, g, dm.val * 4294967296 + dk.val * 536870912 + a.code * 33554432 + b.code * 2097152 + w.code * 131072)
  | .lda _ g ad x => some (0x50, g, ad.val * 8589934592 + x.val * 134217728)
  | .aclr _ g ad => some (0x51, g, ad.val * 8589934592)
  | .aadd _ g ad a b => some (0x52, g, ad.val * 8589934592 + a.val * 2147483648 + b.val * 536870912)
  | .asub _ g ad a b => some (0x53, g, ad.val * 8589934592 + a.val * 2147483648 + b.val * 536870912)
  | .aasl _ g ad a k => some (0x54, g, ad.val * 8589934592 + a.val * 2147483648 + k.val)
  | .aasr _ g ad a k => some (0x55, g, ad.val * 8589934592 + a.val * 2147483648 + k.val)
  | .asel _ g ad a b pc =>
    some (0x56, g, ad.val * 8589934592 + a.val * 2147483648 + b.val * 536870912 + pc.val * 1048576)
  | .wb _ g d a => some (0x60, g, d.val * 2147483648 + a.val * 536870912)
  | .wb4 _ g q => some (0x61, g, q.val * 8589934592)
  | .staX _ g a => some (0x62, g, a.val * 536870912)
  | .staY _ g a => some (0x63, g, a.val * 536870912)
  | .rdag _ g d a => some (0x64, g, d.val * 2147483648 + a.val * 536870912)
  | .rdah _ g d a => some (0x65, g, d.val * 2147483648 + a.val * 536870912)
  | .rdal _ g d a => some (0x66, g, d.val * 2147483648 + a.val * 536870912)
  | .wrag _ g a x => some (0x67, g, a.val * 536870912 + x.val * 8388608)
  | .wrah _ g a x => some (0x68, g, a.val * 536870912 + x.val * 8388608)
  | .wral _ g a x => some (0x69, g, a.val * 536870912 + x.val * 8388608)
  | .log2 _ g d a => some (0x70, g, d.val * 2147483648 + a.val * 134217728)
  | .exp2 _ g d a => some (0x71, g, d.val * 2147483648 + a.val * 134217728)
  | .rsqe _ g d a => some (0x72, g, d.val * 2147483648 + a.val * 134217728)
  | .divs _ g q r d => some (0x73, g, q.val * 2147483648 + r.val * 536870912 + d.val * 8388608)
  | .tlu _ g d p yp => some (0x74, g, d.val * 2147483648 + p.val * 134217728 + yp.val * 2097152)
  | .glide _ g v t st pk =>
    some (0x75, g, v.val * 2147483648 + t.val * 134217728 + st.val * 8388608 + pk.val * 1048576)
  | .mpeak _ g m x => some (0x76, g, m.val * 2147483648 + x.val * 134217728)
  | .ldx _ g d lane => some (0x80, g, d.val * 2147483648 + lane.val)
  | .ldy _ g d lane => some (0x81, g, d.val * 2147483648 + lane.val)
  | .ldqx _ g q => some (0x82, g, q.val * 8589934592)
  | .ldqy _ g q => some (0x83, g, q.val * 8589934592)
  | .stx _ g x => some (0x84, g, x.val * 134217728)
  | .sty _ g x => some (0x85, g, x.val * 134217728)
  | .seta _ g p imm => some (0x90, g, p.val * 4294967296 + imm.toNat)
  | .setaD _ g p x => some (0x91, g, p.val * 4294967296 + x.val * 134217728)
  | .setb _ g p imm => some (0x92, g, p.val * 4294967296 + imm.toNat)
  | .setbP _ g p blk => some (0x93, g, p.val * 4294967296 + blk.val * 16777216)
  | .setl _ g p imm => some (0x94, g, p.val * 4294967296 + imm.toNat)
  | .setm _ g m imm => some (0x95, g, m.val * 4294967296 + imm.toNat)
  | .setmD _ g m x => some (0x96, g, m.val * 4294967296 + x.val * 134217728)
  | .rdp _ g d p => some (0x97, g, d.val * 2147483648 + p.val * 268435456)
  | .inW _ g d i => some (0xA0, g, d.val * 2147483648 + i.val)
  | .inq _ g q i => some (0xA1, g, q.val * 8589934592 + i.val)
  | .outW _ g x i => some (0xA2, g, x.val * 134217728 + i.val)
  | .outq _ g q i => some (0xA3, g, q.val * 8589934592 + i.val)
  | .sout _ g x j => some (0xA4, g, x.val * 134217728 + j.val)
  | .sin _ g d src j _ => some (0xA5, g, d.val * 2147483648 + src.val * 16777216 + j.val)
  | .sinf _ g d src j _ => some (0xA6, g, d.val * 2147483648 + src.val * 16777216 + j.val)
  | .bldW _ g d b off _ => some (0xB0, g, d.val * 2147483648 + b.val * 134217728 + off.toNat)
  | .bldT _ g d b off _ => some (0xB1, g, d.val * 2147483648 + b.val * 134217728 + off.toNat)
  | .bstW _ g x b off _ => some (0xB2, g, x.val * 2147483648 + b.val * 134217728 + off.toNat)
  | .bstT _ g x b off _ => some (0xB3, g, x.val * 2147483648 + b.val * 134217728 + off.toNat)
  | _ => none

/-- The word of a needle instruction (R52). -/
def encodeSlot (i : Instr) : Option (BitVec 64) :=
  (opOf i).map (fun e => BitVec.ofNat 64 (e.1 * 2 ^ 56 + e.2.1.bits21 * 2 ^ 35 + e.2.2))

/-- The instruction the Last makes of a word for needle n, whatever its legality beyond reserved codes. -/
def readSlot (n : Fin 128) (w : BitVec 64) : Option Instr :=
  instrOf n (gateAt (w.toNat / 2 ^ 35)) (w.toNat / 2 ^ 56) (w.toNat % 2 ^ 35)

/-! ## What the encoding alone makes illegal (R71) -/

/-- The pointer an instruction sets beside its access fields, with whether it must be unpredicated (R57). -/
def setsPtr (i : Instr) : Option (Fin 8) :=
  match i with
  | .seta _ _ p _ | .setaD _ _ p _ | .setb _ _ p _ | .setbP _ _ p _ | .setl _ _ p _ => some p
  | _ => none

/-- SETA, SETB, SETB.P, SETL and SETM execute unconditionally (R57). -/
def mustAlways (i : Instr) : Bool :=
  match i with
  | .seta _ _ _ _ | .setb _ _ _ _ | .setbP _ _ _ _ | .setl _ _ _ _ | .setm _ _ _ _ => true
  | _ => false

/-- Code 0x05: a fetched quad, lane or pair named while its field has no access, a store without an access, TLU with a
Y access (R59, R60). -/
def breaks5 (i : Instr) : Bool :=
  match i with
  | .mac4Dot _ g _ _ xq yq | .mac4Lane _ g _ xq yq => !(xq.ok g.fetchesX && yq.ok g.fetchesY)
  | .mac4Fan _ g _ sc yq => !(sc.ok g.fetchesX && yq.ok g.fetchesY)
  | .cmac _ g _ xp yp | .cmacCj _ g _ xp yp => !(xp.ok g.fetchesX && yp.ok g.fetchesY)
  | .bfly _ g _ _ a b w | .bflyH _ g _ _ a b w => !(a.ok g.fetchesX && b.ok g.fetchesX && w.ok g.fetchesY)
  | .staX _ g _ | .stx _ g _ | .ldx _ g _ _ | .ldqx _ g _ => !g.fetchesX
  | .staY _ g _ | .sty _ g _ | .ldy _ g _ _ | .ldqy _ g _ => !g.fetchesY
  | .tlu _ g _ _ _ => g.fetchesY
  | _ => false

/-- Code 0x06: two destinations coincide, a pair rule of BFLY is broken, or a pointer is set and updated (R28, R56,
R61). -/
def breaks6 (i : Instr) (g : Gate) : Bool :=
  (match i with
   | .bfly _ _ dm dk a b _ | .bflyH _ _ dm dk a b _ => !(bflyDests dm dk && bflyPairs a b)
   | _ => false) || (setsPtr i).any g.updatesPtr

/-- Code 0x07: an immediate outside its range (R60). -/
def breaks7 (i : Instr) : Bool :=
  match i with
  | .gsl _ _ _ period => !gslOk period
  | .setl _ _ _ imm => !setlOk imm
  | .inq _ _ _ j | .outq _ _ _ j => j.val % 4 != 0
  | _ => false

/-- ACMP with an unsigned condition, which is reserved there (R60, code 0x03). -/
def acmpReserved (i : Instr) : Bool :=
  match i with
  | .acmp _ _ _ _ _ cc => !cc.signed
  | _ => false

/-- The lowest code of R71 from 0x01 to 0x07 that a word meets, or the instruction it spells. -/
def checkSlot (n : Fin 128) (w : BitVec 64) : Except Nat Instr :=
  let g := gateAt (w.toNat / 2 ^ 35)
  match opsMask (w.toNat / 2 ^ 56) with
  | none => .error 1
  | some mask =>
    if !(g.x.ok && g.y.ok) || (w.toNat % 2 ^ 35) &&& (2 ^ 35 - 1 - mask) != 0 then .error 2
    else
      match readSlot n w with
      | none => .error 3
      | some i =>
        if acmpReserved i then .error 3
        else if (g.pk == 7 && g.pn) || (mustAlways i && !g.always) then .error 4
        else if breaks5 i then .error 5
        else if breaks6 i g then .error 6
        else if breaks7 i then .error 7
        else .ok i

/-! ## REPEAT (R63) -/

/-- A word of a piece's code is a REPEAT. -/
def isRepeat (w : BitVec 64) : Bool := w.toNat / 2 ^ 56 == 1
/-- Count and body of a REPEAT. -/
def repeatOf (w : BitVec 64) : Nat × Nat := (w.toNat % 2 ^ 14, w.toNat / 2 ^ 14 % 2 ^ 13)

/-- The lowest code a REPEAT meets by its own word: unused bits, predication and S and access modes, count or body 0
(R63, R71); a count above 8 192 makes a piece too long. -/
def repeatCode (w : BitVec 64) : Nat :=
  let g := gateAt (w.toNat / 2 ^ 35)
  let r := repeatOf w
  if !(g.x.ok && g.y.ok) || w.toNat / 2 ^ 27 % 2 ^ 8 != 0 then 2
  else if !g.always || g.sat || g.x.mode != .none || g.y.mode != .none then 4
  else if r.1 = 0 || r.2 = 0 then 7
  else 0

end Sys2Proof.Machine
end

