-- ==== Sys2Proof/Machine/Slot.lean ====
section
/-!
DEFINITION. One slot of a needle: its fetches, its predicate, its pointer updates, its operation and its retirement
(R52–R56, R67, R361, R362). Every needle instruction's meaning is one call of `slot` with its own operation.
-/

namespace Sys2Proof.Machine

/-- Needle n can run slots: the part is running and the needle's pleat is powered. -/
def State.canRun (s : State) (n : Nat) : Bool := s.phase = .running && s.pleatOn (n / 8)

/-- The wait a fetch report asks for. -/
def fetchWait (f : Fetch) : Wait :=
  match f with
  | .good => .none
  | .progBad => .prog
  | .xBad => .xy false
  | .yBad => .xy true

/-- Complete a forward read that waits: the register takes the word, the slot retires, and the longest wait is noted in
Tape units, stuck at 0xFFFF (R67). -/
def State.finishSinf (s : State) (c : Nat) (d : Fin 16) (since : Nat) (w : Word) : State :=
  let s := s.modNeedle c (fun nd => { nd.setD d w with
    wait := .none, run := nd.run.map (fun r => { r with retired := r.retired + 1 }) })
  s.raise (ndlObj c 0x29) 0 (min 0xFFFF ((s.now - since) / 500))

/-- The word a forward read gets by the parity report: the word, else the producer's published one, else 0 (R363). -/
def fwdPick (par : SeamPar) (w other : Word) : Word := if !par.bad then w else if !par.otherBad then other else 0

/-- Word j of the bank a needle has published (R66). -/
def Needle.pubWord (nd : Needle) (j : Nat) : Word := look (fun _ => 0) nd.pub j
/-- Word j of the publication before it (R363). -/
def Needle.prevWord (nd : Needle) (j : Nat) : Word := look (fun _ => 0) nd.prev j

/-- Word j of a bank has been found to have bad parity, and not been written since (R358). -/
def Needle.seamBadAt (nd : Needle) (bk : SeamBank) (j : Nat) : Bool := nd.seamBad.contains ⟨bk, j⟩

/-- That word is found bad. -/
def Needle.markSeam (nd : Needle) (bk : SeamBank) (j : Nat) : Needle :=
  if nd.seamBadAt bk j then nd else { nd with seamBad := ⟨bk, j⟩ :: nd.seamBad }

/-- The published word j is found bad: so is the word the needle's runs carry on, unless SOUT has written that one since (R66,
R358, R363). -/
def Needle.foundPub (nd : Needle) (j : Nat) : Needle :=
  if nd.seamWrit.contains j then nd.markSeam .pub j else (nd.markSeam .pub j).markSeam .own j

/-- Word j as the run of stitch k left it is found bad: so is the word published with that run, or, before that, the one the
needle's runs carry on, unless a later run has left another (R67, R358, R363). -/
def Needle.foundRun (nd : Needle) (k j : Nat) : Needle :=
  let a := nd.markSeam (.run k) j
  if nd.pubAt == some k then a.foundPub j
  else if nd.fwd.any (fun e => e.j == j && decide (k < e.stitch)) then a else a.markSeam .own j

/-- SOUT writes word j: its parity is good again (R363). -/
def Needle.setSeam (nd : Needle) (j : Nat) (w : Word) : Needle :=
  { nd with
    seam := put (fun _ => 0) nd.seam j w
    seamBad := nd.seamBad.filter (fun m => m != ⟨.own, j⟩)
    seamWrit := if nd.seamWrit.contains j then nd.seamWrit else j :: nd.seamWrit }

/-- What a read of word j meets: words of the two banks that were found bad before, and those the report finds now (R358). -/
def Needle.seamPar (nd : Needle) (bk other : SeamBank) (j : Nat) (par : SeamPar) : SeamPar :=
  ⟨par.bad || nd.seamBadAt bk j, par.otherBad || nd.seamBadAt other j⟩

/-- A read of the published word j: what it returns, whether the word was bad, and the needle with its bad words marked (R66,
R363). -/
def Needle.readPub (nd : Needle) (j : Nat) (par : SeamPar) : Word × Bool × Needle :=
  let q := nd.seamPar .pub .prev j par
  (fwdPick q (nd.pubWord j) (nd.prevWord j), q.bad,
    if !q.bad then nd else if q.otherBad then (nd.foundPub j).markSeam .prev j else nd.foundPub j)

/-- A forward read of word j, which the run of stitch k left as w (R67, R363). -/
def Needle.readRun (nd : Needle) (k j : Nat) (w : Word) (par : SeamPar) : Word × Bool × Needle :=
  let q := nd.seamPar (.run k) .pub j par
  (fwdPick q w (nd.pubWord j), q.bad,
    if !q.bad then nd else if q.otherBad then (nd.foundRun k j).foundPub j else nd.foundRun k j)

/-- Count a replaced seam word for the reader (R363). -/
def State.seamReplaced (s : State) (reader : Nat) (bad : Bool) : State :=
  if bad then s.bump (ndlObj reader 0x32) else s

/-- Needle c, when it waits for word j of needle n's run of stitch k, gets it (R67). -/
def State.releaseOne (s : State) (n k : Nat) (js : List Nat) (c : Nat) : State :=
  let nd := s.needle c
  match nd.wait with
  | .sinf d src j par since =>
    if src.val = n && js.contains j.val && nd.run.any (fun r => r.stitch == k) then
      let r := (s.needle n).readRun k j.val (look (fun _ => 0) (s.needle n).seam j.val) par
      ((s.setNeedle n r.2.2).finishSinf c d since r.1).seamReplaced c r.2.1
    else s
  | _ => s

/-- The needles of needle n's pleat. -/
def pleatMates (n : Nat) : List Nat := (List.range 8).map (fun i => n / 8 * 8 + i)

/-- Copy n words of one store to another. -/
def copyRange (src dst : Sparse Word) (from_ to_ n : Nat) : Sparse Word :=
  putAll (fun _ => 0) dst to_ (lookAll (fun _ => 0) src from_ n)

/-- The words of X or Y memory in a list of ranges, copied at the same addresses. -/
def Needle.copyWords (nd src : Needle) (l : List WordRange) : Needle :=
  l.foldl (fun nd r =>
    if r.y then { nd with y := copyRange src.y nd.y r.lo r.lo (r.hi - r.lo) }
    else { nd with x := copyRange src.x nd.x r.lo r.lo (r.hi - r.lo) }) nd

/-- Every store that needle n has made to words of a piece that is being mirrored is repeated at the migration's target, at
the same address (R140 step 2): the words the piece's stores can reach are the same at both. -/
def State.mirror (s : State) (n : Nat) : State :=
  (((s.last.migs.filter (fun m => m.mirror && !m.switched && m.src == n)).flatMap (·.copies)).filter (fun c => c.needle != n)).foldl
    (fun s c => s.modNeedle c.needle (fun nd =>
      nd.copyWords (s.needle n) ((s.needle n).stateWords.filter (fun r => r.piece == c.piece)))) s

/-- The slot of needle n retires: its run's count advances; at a release slot the released words are recorded and the
reads that wait for them return (R67). -/
def State.retire (s : State) (n : Nat) : State :=
  let nd := s.needle n
  match nd.run with
  | none => s
  | some r =>
    let js := (nd.release.filter (fun e => e.2 == r.retired)).map (·.1)
    let s := s.setNeedle n { nd with
      run := some { r with retired := r.retired + 1 },
      seamBad := (js.filter (nd.seamBadAt .own)).map (fun j => ⟨.run r.stitch, j⟩) ++ nd.seamBad,
      fwd := js.map (fun j => ⟨r.stitch, j, look (fun _ => 0) nd.seam j⟩) ++ nd.fwd }
    if js.isEmpty then s else (pleatMates n).foldl (fun s c => s.releaseOne n r.stitch js c) s

/-- An instruction executes when PK xor PN is 1 (R53). -/
def gateOpen (g : Gate) (nd : Needle) : Bool := nd.pred g.pk != g.pn

/-- What an instruction's operation answers: the needle, the conditions it met, and the state beside the needle. -/
abbrev SlotOp := SlotIn → Needle → State → Needle × Flags × State

/-- Slot r of needle n is gated: it belongs to a shed piece, to a migration at its target before the switch, or to one at
its source after it, and does not execute (R53, R90, R140, R141). -/
def State.slotGated (s : State) (n r : Nat) : Bool :=
  (s.last.copies ++ s.last.migs.flatMap (·.copies)).any (fun c =>
    c.needle == n && !c.live && decide (c.slotFirst ≤ r) && decide (r < c.slotFirst + c.slots))

/-- The instruction i is the slot needle nd's run comes to: every slot of the program runs once in a run, in order (R63).
The words of the ROM's programs are not the spec's; a run of one takes any instruction (DESIGN CHOICE, assumption 124). -/
def Needle.comesTo (nd : Needle) (i : Instr) : Bool :=
  match nd.run with
  | none => false
  | some r => r.len == 0 ||
      (decide (r.retired < r.len) && encodeSlot i == some (look (fun _ => 0) nd.prog r.retired))

/-- The slot needle n has come to executes: PK xor PN is 1, and it is not gated (R53). -/
def State.slotOpen (s : State) (n : Nat) (g : Gate) : Bool :=
  gateOpen g (s.needle n) && !(s.needle n).run.any (fun r => s.slotGated n r.retired)

/-- The slot's work once it is due: pointers are updated whether or not the instruction executes; its operation reads
the needle as the slot found it and writes onto the updated pointers (R28, R53, R56). -/
def slotRun (n : Nat) (g : Gate) (op : SlotOp) (s : State) : State :=
  let nd := s.needle n
  let nd1 := nd.stepPtrs g
  if s.slotOpen n g then
    let r := op ⟨nd, g.sat, s.full, g⟩ nd1 s
    (((r.2.2.setNeedle n r.1).applyFlags n r.2.1).retire n).mirror n
  else (s.setNeedle n nd1).retire n

/-- One slot of needle n, with its instruction i. An encoding the Last rejects is refused (R71); a needle that is unpowered or
waits inside its slot runs no other, and none but the one its run comes to (R63); a slot whose fetch meets a parity error
waits for the refetch (R361, R362). -/
def slot (i : Instr) (n : Fin 128) (g : Gate) (legal : Bool) (code : Nat) (op : SlotOp) (s : State) :
    Host.Outcome State Fault Refusal :=
  if !(g.ok && legal) then .refused (.illegalEncoding (if g.ok then code else 4))
  else if !s.canRun n.val then .next s
  else if (s.needle n.val).wait ≠ .none || !(s.needle n.val).comesTo i then .next s
  else if g.fetch ≠ .good then .next (s.modNeedle n.val (fun nd => { nd with wait := fetchWait g.fetch }))
  else .next (slotRun n.val g op s)

/-- An operation on the needle alone. -/
def onNeedle (f : SlotIn → Needle → Needle × Flags) : SlotOp :=
  fun i nd s => ((f i nd).1, (f i nd).2, s)

/-- An operation that writes one D register and meets the conditions given with it. -/
def toD (d : Fin 16) (f : SlotIn → Word × Flags) : SlotOp :=
  onNeedle (fun i nd => (nd.setD d (f i).1, (f i).2))

/-- An operation that writes one D register and meets no condition. -/
def toDPlain (d : Fin 16) (f : SlotIn → Word) : SlotOp := toD d (fun i => (f i, .none))

/-- An operation that writes one accumulator. -/
def toA (a : Fin 4) (f : SlotIn → Acc × Flags) : SlotOp :=
  onNeedle (fun i nd => (nd.setA a (f i).1, (f i).2))

/-- An operation that writes one predicate. -/
def toP (p : Fin 8) (f : SlotIn → Bool) : SlotOp :=
  onNeedle (fun i nd => (nd.setPred p (f i), .none))

end Sys2Proof.Machine
end

