-- ==== Sys2Proof/Machine/Stitch.lean ====
section
/-!
DEFINITION. The stitch and the Tape (R13–R15, R72–R94): rates and windows, the pools, a run's start and end, overruns,
skips and fraying, the fitting's reading, and the adaptive-VCORE loop with its emergency.
-/

namespace Sys2Proof.Machine

/-! ## Rates (R72, R75, R102) -/

/-- Stitches a second by rate code (R72). -/
def rateHz (code : Nat) : Nat := [44100, 48000, 88200, 96000, 176400, 192000, 384000].getD code 48000

/-- The usable window in Tape units of a period lengthened by ext ps, rounded down (R75, R80). -/
def windowTape (code ext : Nat) : Nat :=
  let f := rateHz code
  (1000000000000 + ext * f - 320000 * f) / (500 * f)

/-- The slot limit of a rate (R75). -/
def slotLimit (code : Nat) : Nat := [8192, 8192, 8192, 8192, 4096, 4096, 2048].getD code 8192

/-- The guaranteed copy rate w of a rate in words a stitch (R102). -/
def copyRate (code : Nat) : Nat := [4643, 4266, 2321, 2133, 1160, 1066, 533].getD code 4266

/-- Units of timebase time in a second (R210). -/
def tbUnits : Nat := 1000000000 * 2 ^ 32

/-- The index of the first crossing, on the grid of rate code b, at least one nominal period of rate code a after timebase
time t (R72, R74, R210, R217). -/
def nextCrossing (t a b : Nat) : Nat :=
  let f := rateHz a
  let g := rateHz b
  (t * g * f + tbUnits * g + tbUnits * f - 1) / (tbUnits * f)

/-- The timebase time of a crossing of a rate's grid, rounded down. -/
def crossingTime (g code : Nat) : Nat := g * tbUnits / rateHz code

/-- How much longer than nominal the period from a strobe at timebase time t to that crossing is, in ps. -/
def lengthening (t a b : Nat) : Nat :=
  (crossingTime (nextCrossing t a b) b - (t + tbUnits / rateHz a)) * 1000 / 2 ^ 32

/-- Put a stitch rate in force (R72, R75, R102). -/
def State.setRate (s : State) (code : Nat) : State :=
  ((s.setNat Obj.stitchRate 0 code).setNat Obj.deadlineCode 0 (windowTape code 0)).setNat Obj.copyRate 0 (copyRate code)

/-- Put a service level in force; the write-back mode follows it (R4, R34, R37). -/
def State.setLevel (s : State) (v : Nat) : State :=
  (List.range 128).foldl (fun s n => s.setNat (ndlObj n 0x26) 0 (if v = 0 then 0 else 1)) (s.setNat Obj.serviceLevel 0 v)

/-- NDL_BUDGET and NDL_SLOTS of PLEAT[0]'s needles read 0 where the safety matrix ends. -/
def State.dropMatrixSlots (s : State) : State :=
  (List.range 8).foldl (fun s n => (s.setNat (ndlObj n 9) 0 0).setNat (ndlObj n 0xA) 0 0) s

/-! ## The strobe grid (R72, R74, R80, R210) -/

/-- The rate in force from the next strobe on: the one a change of service level or pattern due there brings (R72). -/
def State.nextRate (s : State) : Nat :=
  let hush := s.pw.hush || s.fab.due.contains .hush
  let held := hush || s.nat Obj.serviceLevel = 2
  let low (rate : Nat) : Bool := rate == 6 && decide (s.nat Obj.vcoreNow < 780)
  if s.fab.due.contains .trim then 1
  else if s.fab.due.contains .testEntry && !hush && !low ((s.pw.testReq.map (·.2.2)).getD 6) then
    (s.pw.testReq.map (·.2.2)).getD 1
  else if s.fab.due.contains .testReturn && s.nat Obj.serviceLevel = 2 then
    (if s.nat Obj.testFrom = 1 then 1 else (s.last.pat.map (·.rate)).getD 1)
  else if s.fab.due.contains .t1 && !held && !low ((s.last.next.map (·.rate)).getD 6) then
    (s.last.next.map (·.rate)).getD (s.nat Obj.stitchRate)
  else s.nat Obj.stitchRate

/-- The crossing the next strobe stands at (R72, R74, R210, R217). -/
def State.nextStrobe (s : State) : Nat := nextCrossing s.clk.strobeTb (s.nat Obj.stitchRate) s.nextRate

/-- The timebase has reached it. -/
def State.strobeDue (s : State) : Bool := decide (s.nextStrobe * tbUnits ≤ s.clk.tb * rateHz s.nextRate)

/-- The timebase has come within ns nanoseconds of the next strobe, or passed it (R13, R74). -/
def State.within (s : State) (ns : Nat) : Bool :=
  decide (s.nextStrobe * tbUnits ≤ (s.clk.tb + ns * 2 ^ 32) * rateHz s.nextRate)

/-- The usable window D′ of stitch k, in Tape units: of the stitch in progress as its next strobe now stands, of one that
has ended as it was (R74, R80). -/
def State.windowOf (s : State) (k : Nat) : Nat :=
  let code := s.nat Obj.stitchRate
  if k = s.stitch then windowTape code (lengthening s.clk.strobeTb code s.nextRate)
  else ((s.fab.windows.find? (fun e => e.1 == k)).map (·.2)).getD (s.nat Obj.deadlineCode)

/-! ## Requests to the Last (R138) -/

/-- Reason codes of R138. -/
def Rsn.lowMargin : Nat := 1
/-- FRAYED. -/
def Rsn.frayed : Nat := 2
/-- PARITY_STORM. -/
def Rsn.storm : Nat := 3
/-- EDIT. -/
def Rsn.edit : Nat := 4
/-- TEMPERATURE. -/
def Rsn.temperature : Nat := 5
/-- POWER. -/
def Rsn.power : Nat := 6
/-- HOST. -/
def Rsn.host : Nat := 7
/-- TAPE_EMERGENCY. -/
def Rsn.emergency : Nat := 8
/-- PLACEMENT. -/
def Rsn.placement : Nat := 9

/-- Requests that the interval and the freeze limit (R138, R139). -/
def limited (reason : Nat) : Bool := reason = Rsn.lowMargin || reason = Rsn.storm || reason = Rsn.temperature

/-- Ask the Last to act for a reason on a needle (FRAYED, PARITY_STORM, LOW_MARGIN), a pleat (TEMPERATURE) or a needle or
bobbin number (POWER). A request keeps the time it arrives at; a limited one that finds the Last frozen is logged as
DEFERRED for each piece there and dropped (R138, R139). -/
def State.request (s : State) (reason arg : Nat) : State :=
  if limited reason && s.bit Obj.lastFreeze 0 0 then
    (s.last.copies.filter (fun c => c.live && (if reason = Rsn.temperature then c.needle / 8 else c.needle) == arg)).foldl
      (fun s c => s.log 0x24 c.piece (c.needle + 0xFF00) 0 reason) s
  else { s with last := { s.last with requests := s.last.requests ++ [(reason, arg, s.now)] } }

/-- The pieces with a copy on needle n. -/
def State.piecesOn (s : State) (n : Nat) : List Nat := (s.last.copies.filter (fun c => c.needle == n)).map (·.piece)

/-! ## The pools (R13–R15) -/

/-- Word of a bank's entry; unwritten entries read as zero. -/
def PoolBank.word (b : PoolBank) (ch : Nat) : Word := ((b.words.find? (fun e => e.1 == ch)).map (·.2)).getD 0

/-- Slots of a TDM frame at the rate in force (R194). -/
def State.tdmSlots (s : State) : Nat := [16, 16, 8, 8, 4, 4, 2].getD (s.nat Obj.stitchRate) 16

/-- The safety routing table's port settings stand in place of the objects': in TRIM, and in a TEST entered from it, until FULL begins
(R205). -/
def State.tdmSafe (s : State) : Bool :=
  s.nat Obj.serviceLevel == 1 || (s.nat Obj.serviceLevel == 2 && s.nat Obj.testFrom == 1)

/-- Entry e of the receive (transmit) slot tables in force (R203, R205). -/
def State.tdmTable (s : State) (tx : Bool) (e : Nat) : Nat :=
  if s.tdmSafe then leNat (lookAll (fun _ => (0 : Byte)) s.safe.table ((if tx then 0x300 else 0x100) + 2 * e) 2)
  else s.nat (if tx then Obj.tdmTxMapActive else Obj.tdmRxMapActive) e

/-- The TDM port whose active receive entry names an inlet channel (R195); where none does, the one the default tables give. -/
def State.tdmPortOf (s : State) (ch : Nat) : Nat :=
  (((List.range 256).find? (fun e => decide (e % 16 < s.tdmSlots) && s.tdmTable false e == ch)).getD (ch - 8192)) / 16

/-- The late counter of the writer of a pool channel: a Shuttle's POOL_LATE, or a TDM port's element (R13, R195). -/
def State.countPoolLate (s : State) (ch : Nat) : State :=
  if ch < 4096 then s.bump Obj.poolLate
  else if ch < 8192 then s.bump (Obj.poolLate + 0x2000)
  else s.bump Obj.tdmPoolLate (s.tdmPortOf ch)

/-- Write an inlet entry for stitch k; a write past the cutoff, or for a stitch whose bank is not open, is refused and
counted (R13). -/
def State.poolWrite (s : State) (k ch : Nat) (w : Word) : State :=
  if s.fab.inWr.isOpen && s.fab.inWr.stitch == k then
    { s with fab := { s.fab with inWr := { s.fab.inWr with
      words := (ch, w) :: s.fab.inWr.words.filter (fun e => e.1 != ch) } } }
  else s.countPoolLate ch

/-- Read an outlet entry of stitch k; a stitch no longer held reads zero and counts in the reader's late counter
(R14). -/
def State.poolRead (s : State) (k ch reader : Nat) : Word × State :=
  match s.fab.outBanks.find? (fun b => b.stitch == k) with
  | some b => (b.word ch, s)
  | none => (0, s.countPoolLate reader)

/-- Of the n entries of a bank from lo on, those that have not been written. -/
def PoolBank.unwritten (b : PoolBank) (lo n : Nat) : List Nat :=
  ((List.range n).map (lo + ·)).filter (fun ch => !b.words.any (fun e => e.1 == ch))

/-- The cutoff closes the inlet bank; each of its 8 448 entries that is not written is zero, and counts once in its writer's
late counter (R13, R185, R195), routed to a needle or not (DEDUCED, assumption 126). -/
def State.inletCutoff (s : State) : State :=
  let b := s.fab.inWr
  let s1 : State := { s with fab := { s.fab with inWr := { b with isOpen := false } } }
  let s2 := (s1.bump Obj.poolLate 0 (b.unwritten 0 4096).length).bump (Obj.poolLate + 0x2000) 0 (b.unwritten 4096 4096).length
  (b.unwritten 8192 256).foldl State.countPoolLate s2

/-- The inlet window of a needle from the bank of stitch k (R15, R65). -/
def State.fillWindow (s : State) (n : Nat) (bank : PoolBank) : State :=
  let mine := s.fab.routesIn.filter (fun r => r.needle == n)
  s.modNeedle n (fun nd => { nd with
    inlet := mine.foldl (fun m r => put (fun _ => 0) m (r.word % 256) (bank.word r.ch)) [],
    filledFor := some bank.stitch, fill := .none })

/-- The needles that hold a program. -/
def State.placedNeedles (s : State) : List Nat := (s.ndl.filter (fun e => e.2.placed)).map (·.1)

/-- The needles on which a NEEDLE_BIST runs its ROM program once a stitch, from the test's first stitch on (R354). -/
def State.testNeedles (s : State) : List Nat :=
  match s.pw.testRun with
  | some (1, pleats, _) =>
    if s.nat Obj.serviceLevel = 2 && s.pw.testFirst.isSome then (List.range 128).filter (fun n => pleats.testBit (n / 8)) else []
  | _ => []

/-- The needles that run once a stitch: those that hold a program, and those of a NEEDLE_BIST (R79, R83–R85, R354). -/
def State.runners (s : State) : List Nat := s.placedNeedles ++ s.testNeedles.filter (fun n => !(s.needle n).placed)

/-! ## VCORE (R87–R91) -/

/-- FAULT of AVS_STATUS. -/
def State.avsFault (s : State) : Bool := s.bit Obj.avsStatus 0 2
/-- The loop's state in AVS_STATUS: 0 BOOT_HOLD, 1 TRACK, 2 EMERGENCY, 3 SUSPENDED. -/
def State.loopState (s : State) : Nat := s.field Obj.avsStatus 0 1 0
/-- Put the loop in a state. -/
def State.setLoop (s : State) (v : Nat) : State := s.setField Obj.avsStatus 0 1 0 v
/-- The loop's good count. -/
def State.good (s : State) : Nat := s.field Obj.avsStatus 0 15 8
/-- Set the loop's good count. -/
def State.setGood (s : State) (v : Nat) : State := s.setField Obj.avsStatus 0 15 8 v

/-- The lower limit in force: at 384 kHz the larger of VCORE_MIN and 780 mV (R87). -/
def State.vcoreLow (s : State) : Nat :=
  if s.nat Obj.stitchRate = 6 then max (s.nat Obj.vcoreMin) 780 else s.nat Obj.vcoreMin

/-- The AVSBus rail of VCORE, by the straps (R375, R376). -/
def State.avsRail (s : State) : Nat := s.field Obj.strapState 0 3 2

/-- set_vcore: one AVSBus write; none while FAULT is set (R89). -/
def State.setVcore (s : State) (mv : Nat) : State :=
  if s.avsFault then s
  else State.emit { s with fab := { s.fab with
    avs := s.fab.avs ++ [⟨mv, decide (s.nat Obj.vcoreNow < mv), false⟩] } } (.avsWrite s.avsRail mv)

/-- The regulator acknowledges the oldest write: VCORE_NOW takes its value, and a raise or a lower counts (R89). -/
def State.avsAck (s : State) : State :=
  match s.fab.avs with
  | [] => s
  | a :: t =>
    let s1 : State := { s with fab := { s.fab with avs := t } }
    let s2 := if a.mv = s.nat Obj.vcoreNow then s1
      else if a.up then s1.bump Obj.avsRaiseHem else s1.bump Obj.avsLowerHem
    s2.setNat Obj.vcoreNow 0 a.mv

/-- The pieces a shed of these pleats would take: the largest priority number from 7 to 1 still placed there (R90). -/
def State.sheddable (s : State) (pleats : List Nat) : List Nat :=
  match s.last.pat with
  | none => []
  | some p =>
    let on := distinct ((s.last.copies.filter (fun c => pleats.contains (c.needle / 8) && s.pieceLive c.piece)).map (·.piece))
    let prio (i : Nat) : Nat := ((p.pieces[i]?).map (·.priority)).getD 0
    let top := (on.map prio).foldl max 0
    if top = 0 then [] else on.filter (fun i => prio i == top)

/-- The pieces the shed asked for takes, on the affected pleats (R90). -/
def State.shedPieces (s : State) : List Nat := s.sheddable s.fab.hitPleats

/-- shed_next: ask the Last to shed; when an affected pleat has only priority 0 left, TRIM is entered at the next strobe and
the emergency counts (R90, R91). The affected pleats are all that floor hits have named since the emergency began (DESIGN
CHOICE, assumption 180). -/
def State.shedNext (s : State) : State :=
  if s.fab.hitPleats.any (fun p => (s.sheddable [p]).isEmpty) then
    if s.fab.due.contains .trim then s
    else ({ s with fab := { s.fab with due := s.fab.due ++ [.trim] } } : State).bumpLife Obj.emergencyLife
  else { s with fab := { s.fab with shedPending := true, fitSinceShed := false } }

/-- A Tape emergency begins with a floor hit of needle n, whose pleat is the first affected (R90). -/
def State.beginEmergency (s : State) (n : Nat) : State :=
  State.setLoop { s with fab := { s.fab with hitPleats := [n / 8] } } 2

/-- The margin loop at a run's end (R88, R91). -/
def State.onRunEnd (s : State) (n : Nat) (margin : Int) : State :=
  if s.loopState = 3 then s
  else if s.obj Obj.marginFloor ≤ margin then s
  else
    let s := (s.setBit (ndlObj n 1) 0 1 true).modNeedle n (fun nd => nd.markSticky 4 s.stitch)
    let s := s.bump Obj.floorHitHem
    let s : State := { s with fab := { s.fab with
      raised := true,
      hitPleats := if s.fab.hitPleats.contains (n / 8) then s.fab.hitPleats else (n / 8) :: s.fab.hitPleats } }
    let spent := s.nat Obj.vcoreNow == s.nat Obj.vcoreMax || s.avsFault
    if s.now < s.fab.holdoffEnd then s
    else if s.loopState = 2 then
      if s.nat Obj.serviceLevel = 1 then (if spent then s.log 0xA0 n (i32Arg margin) else s)
      else if s.fab.shedPending || !s.fab.fitSinceShed then s else s.shedNext
    else if spent then
      if s.nat Obj.serviceLevel = 1 then (s.beginEmergency n).log 0xA0 n (i32Arg margin)
      else (s.beginEmergency n).shedNext
    else
      let s := s.setVcore (min (s.nat Obj.vcoreNow + 20) (s.nat Obj.vcoreMax))
      let s : State := { s with fab := { s.fab with holdoffEnd := s.now + 200000000 } }
      s.request Rsn.lowMargin n

/-- A fitting's end with reading m (R88); none where there is no reading (R82). Where a lowered maximum takes effect at the
same boundary (`own`), it does so in one command, and the loop gives none of its own (R87). -/
def State.onFittingEnd (s : State) (m : Option Int) (own : Bool) : State :=
  let target := s.obj Obj.marginTarget
  let done (s : State) : State := { s with fab := { s.fab with
    raised := false,
    hitPleats := if s.loopState = 2 then s.fab.hitPleats else [] } }
  let climb (s : State) (m : Int) : State :=
    if target ≤ m then (if s.good + 1 ≥ 16 then (s.setLoop 1).setGood 0 else s.setGood (s.good + 1)) else s.setGood 0
  match m, s.fab.raised with
  | none, _ => done (s.setGood 0)
  | _, true => done (s.setGood 0)
  | some m, false =>
    if s.loopState = 0 || s.loopState = 2 then done (climb s m)
    else if m < target then
      let s := s.setGood 0
      done (if s.nat Obj.vcoreNow < s.nat Obj.vcoreMax then s.setVcore (s.nat Obj.vcoreNow + 5) else s)
    else if target + 30 < m then
      if s.good + 1 ≥ 16 then
        let s := s.setGood 0
        done (if s.vcoreLow + 5 ≤ s.nat Obj.vcoreNow && !own then s.setVcore (s.nat Obj.vcoreNow - 5) else s)
      else done (s.setGood (s.good + 1))
    else done (s.setGood 0)

/-! ## Runs (R16, R29, R79–R86) -/

/-- The margin of a completion code against a window, in 0.1 % (R80). -/
def marginOf (window c : Nat) : Int := (1000 * (Int.ofNat window - Int.ofNat c)).fdiv (Int.ofNat window)

/-- Forward words no needle of the pleat can read any more are dropped. -/
def keepFwd (oldest : Nat) (l : List FwdWord) : List FwdWord := l.filter (fun e => decide (oldest ≤ e.stitch))

/-- So are their parity marks. -/
def keepMarks (oldest : Nat) (l : List SeamMark) : List SeamMark :=
  l.filter (fun m => match m.bank with
    | .run k => decide (oldest ≤ k)
    | _ => true)

/-- The oldest stitch a needle of n's pleat still runs. -/
def State.oldestRun (s : State) (n k : Nat) : Nat :=
  (pleatMates n).foldl (fun m c => match (s.needle c).run with
    | some r => min m r.stitch
    | none => m) k

/-- A run of stitch k starts on needle n: the stitch counter is loaded, and a late start counts (R16, R29, R83). -/
def State.startRun (s : State) (n k : Nat) (late : Bool) : State :=
  let old := s.oldestRun n k
  let s := s.modNeedle n (fun nd => { nd with
    run := some ⟨k, 0, if nd.placed then nd.progLen else 0⟩, stc := BitVec.ofNat 64 k, wait := .none,
    fwd := keepFwd old nd.fwd, seamBad := keepMarks old nd.seamBad })
  if late then s.bump (ndlObj n 7) else s

/-- Step 5 of R16: every needle with a program, a NEEDLE_BIST's too, that is not running and whose window is not being filled
starts (R79, R354). -/
def State.startRuns (s : State) (k : Nat) : State :=
  s.runners.foldl (fun s n =>
    let nd := s.needle n
    if nd.run.isNone && nd.fill == .none then s.startRun n k false else s) s

/-- A needle's completion code enters its objects (R81). -/
def State.recordCode (s : State) (n c : Nat) (margin : Int) : State :=
  let s := (s.setNat (ndlObj n 2) 0 c).raise (ndlObj n 3) 0 c
  if margin < s.obj (ndlObj n 4) then s.setObj (ndlObj n 4) 0 margin else s

/-- A run that ends in RUN or FRAYED state enters its pleat's fitting minimum (R82). -/
def State.noteFitting (s : State) (n : Nat) (margin : Int) : State :=
  if s.nat (ndlObj n 0) = 4 then s
  else
    let old := look (fun _ => 32767) s.fab.fitMin (n / 8)
    { s with fab := { s.fab with fitMin := put (fun _ => 32767) s.fab.fitMin (n / 8) (min old margin) } }

/-- A skipped run of stitch k (R85): counted, recorded as 0xFFFF, a floor hit for the loop. -/
def State.skipRun (s : State) (n k : Nat) : State :=
  let margin := marginOf (s.windowOf k) 0xFFFF
  let s := s.bump (ndlObj n 6)
  ((s.recordCode n 0xFFFF margin).noteFitting n margin).onRunEnd n margin

/-- The m runs passed over from stitch k on, oldest first (R85). -/
def State.skipRuns (s : State) (n k : Nat) : Nat → State
  | 0 => s
  | m + 1 => (s.skipRun n k).skipRuns n (k + 1) m

/-- The seam-out words of needle n that gated slots leave as last published: those of shed pieces, and of migrations at
their targets and at their sources (R90, R140, R141). -/
def State.gatedSeams (s : State) (n : Nat) : List Nat :=
  ((s.last.copies ++ s.last.migs.flatMap (·.copies)).filter (fun c => c.needle == n && !c.live)).flatMap (fun c =>
    (List.range (((s.last.pat.bind (fun p => p.pieces[c.piece]?)).map (·.seams)).getD 0)).map (c.seamBase + ·))

/-- The bank a run on time publishes. -/
def Needle.published (nd : Needle) (gated : List Nat) : Sparse Word :=
  gated.foldl (fun m j => put (fun _ => 0) m j (look (fun _ => 0) nd.pub j)) nd.seam

/-- The bad words of the banks once a run is published: what was published is the publication before; each word published is
the one the runs carry on, but a gated one, which stays as it was (R66, R90, R358). -/
def Needle.publishedBad (nd : Needle) (gated : List Nat) : List SeamMark :=
  nd.seamBad.filter (fun m => m.bank != .pub && m.bank != .prev) ++
    ((List.range 64).filter (nd.seamBadAt .pub)).map (fun j => ⟨.prev, j⟩) ++
    ((List.range 64).filter (fun j => nd.seamBadAt (if gated.contains j then .pub else .own) j)).map (fun j => ⟨.pub, j⟩)

/-- A run of stitch k is one of piece i on the needle it runs on now: it comes at or after the strobe the piece was placed,
and switched, at (R93, R140). -/
def State.runsFrom (s : State) (i k : Nat) : Bool :=
  (s.last.pieceStart.find? (fun e => e.1 == i)).all (fun e => decide (e.2 ≤ k))
    && ((look (fun _ => PieceSt.none) s.last.pieces i).lastMove).all (fun t => decide (t ≤ k))

/-- The latest run is complete: seam words are published and OVR_RUN cleared when it met its deadline (R66, R84, R86),
its code is recorded (R79–R82), its pieces' runs are counted (R93), and a deferred fill begins or runs are skipped
(R83, R85). -/
def State.endRun (s : State) (n : Nat) (r : Run) (c : Nat) (margin : Int) (onTime : Bool) : State :=
  let gated := s.gatedSeams n
  let s := s.modNeedle n (fun nd =>
    let nd1 := { nd with run := none, wait := .none }
    if onTime then { nd1 with
      prev := nd.pub, pub := nd.published gated, seamBad := nd.publishedBad gated, seamWrit := []
      pubAt := some r.stitch, doneFor := some r.stitch } else nd1)
  let s := if onTime then s.setField (ndlObj n 1) 0 3 2 0 else s
  let s := (s.recordCode n c margin).noteFitting n margin
  let s : State := { s with last := { s.last with
    pieces := (distinct (s.piecesOn n)).foldl (fun m i =>
      let st := look (fun _ => PieceSt.none) m i
      if s.last.copies.any (fun cp => cp.piece == i && cp.needle == n && !cp.second && cp.live) && s.runsFrom i r.stitch then
        put (fun _ => PieceSt.none) m i { st with runs := st.runs + 1 }
      else m) s.last.pieces } }
  let s := if s.nat (ndlObj n 0) = 4 then s else s.onRunEnd n margin
  match (s.needle n).fill with
  | .deferred k =>
    let s := s.skipRuns n k (s.fab.inRd.stitch - k)
    s.modNeedle n (fun nd => { nd with fill := .filling s.fab.inRd.stitch })
  | _ => s

/-- Needle nd has retired the last slot of its run, every one in order (R63, R79). -/
def Needle.ranOut (nd : Needle) : Bool :=
  nd.wait == .none && nd.run.any (fun r => r.len == 0 || r.retired == r.len)

/-- The run of needle n ends t ps after its strobe (R79, R80). -/
def State.runComplete (s : State) (n t : Nat) : State :=
  match (s.needle n).run with
  | none => s
  | some r =>
    let c := min (t / 500) 0xFFFF
    let margin := marginOf (s.windowOf r.stitch) c
    s.endRun n r c margin (r.stitch == s.stitch && s.deadlineOf != some r.stitch)

/-- A deferred window fill ends: the window holds its bank's words, and the run starts late when its strobe has passed
(R83). -/
def State.hurryFill (s : State) (n : Nat) (bank : PoolBank) : State :=
  match (s.needle n).fill with
  | .filling k =>
    let s := s.fillWindow n { bank with stitch := k }
    if k ≤ s.stitch then s.startRun n k true else s
  | _ => s

/-- Inlet distribution: the closed bank becomes the readable one, each window not in use is filled, each other fill is
deferred, and the next bank opens (R13, R15, R83). A fill still in progress ends first: its bank can be read no longer
(DESIGN CHOICE, assumption 125: the spec gives a fill at most 160 ns). -/
def State.inletDistribution (s0 : State) : State :=
  let bank := { s0.fab.inWr with isOpen := false }
  let s1 : State := { s0 with fab := { s0.fab with inRd := bank, inWr := ⟨bank.stitch + 1, true, [], []⟩ } }
  s1.runners.foldl (fun s n =>
    let nd := s.needle n
    if nd.run.isSome && nd.fill = .none then s.setNeedle n { nd with fill := .deferred bank.stitch }
    else if nd.run.isSome then s
    else s.fillWindow n bank) (s1.runners.foldl (fun s n => s.hurryFill n s0.fab.inRd) s1)

/-- The fill of needle n's window is done (R83). -/
def State.fillDone (s : State) (n : Nat) : State := s.hurryFill n s.fab.inRd

/-! ## The deadline (R14, R15, R67, R84, R86, R145) -/

/-- A needle frays at the deadline that makes its third consecutive overrun (R86); one under test still reads TEST (R354). -/
def State.fray (s : State) (n : Nat) : State :=
  let s1 := s.setBit (ndlObj n 1) 0 0 true
  (if s.nat (ndlObj n 0) = 4 then s1 else s1.setNat (ndlObj n 0) 0 3).request Rsn.frayed n

/-- A needle whose run of stitch k is not complete at its deadline overruns (R84, R86). -/
def State.overrun (s : State) (n : Nat) : State :=
  let s := s.countBoth (ndlObj n 5) (ndlObj n 8) true
  let o := s.field (ndlObj n 1) 0 3 2
  let s := s.setField (ndlObj n 1) 0 3 2 (min 3 (o + 1))
  if o = 2 then s.fray n else s

/-- A copy's slots execute: it is not gated at its source by a forced capture (R141). -/
def State.copyLive (s : State) (i : Nat) (second : Bool) : Bool :=
  s.last.copies.any (fun c => c.piece == i && c.second == second && c.live)

/-- What a route delivers at the deadline of stitch k: the needle's outlet word, or the entry of the bank before, held,
when its run is not complete, or never executes after a forced capture (R15, R84, R141). -/
def State.collectRoute (s : State) (k : Nat) (r : Route) : Word :=
  let nd := s.needle r.needle
  if nd.doneFor = some k && s.copyLive r.piece r.second then look (fun _ => 0) nd.outlet (r.word % 256)
  else ((s.fab.outBanks.head?).map (fun b => b.word r.ch)).getD 0

/-- A TWIN piece's copies differ at this deadline: exactly one overran, or both have run and one of their outlet words
differs, whether or not a route collects it (R145). -/
def State.twinMismatch (s : State) (k i : Nat) : Bool :=
  let copy (second : Bool) : Option Copy := s.last.copies.find? (fun c => c.piece == i && c.second == second)
  let late (c : Copy) : Bool := (s.needle c.needle).doneFor != some k || !c.live
  let outlets := ((s.last.pat.bind (fun p => p.pieces[i]?)).map (·.outlets)).getD 0
  match copy false, copy true with
  | some a, some b => late a != late b || (!late a && (List.range outlets).any (fun j =>
      look (fun _ => 0) (s.needle a.needle).outlet (a.outBase + j) != look (fun _ => 0) (s.needle b.needle).outlet (b.outBase + j)))
  | _, _ => false

/-- The TWIN pieces whose copies run. -/
def State.twins (s : State) : List Nat :=
  distinct ((s.last.copies.filter (fun c => c.second && (look (fun _ => PieceSt.none) s.last.pieces c.piece).state != 3)).map (·.piece))

/-- The entry a channel gets at the deadline, by the piece's TWIN policy on a mismatch (R145). -/
def State.collectWord (s : State) (k : Nat) (r : Route) : Word :=
  if s.twinMismatch k r.piece then
    match ((s.last.pat.bind (fun p => p.pieces[r.piece]?)).map (·.policy)).getD 0 with
    | 0 => s.collectRoute k r
    | 1 => ((s.fab.outBanks.head?).map (fun b => b.word r.ch)).getD 0
    | _ => 0
  else s.collectRoute k r

/-- The entry a channel gets is held over, or zero in place of its needle's word (R84, R141, R145). -/
def State.collectHeld (s : State) (k : Nat) (r : Route) : Bool :=
  let policy := ((s.last.pat.bind (fun p => p.pieces[r.piece]?)).map (·.policy)).getD 0
  (s.twinMismatch k r.piece && policy != 0) || !((s.needle r.needle).doneFor == some k && s.copyLive r.piece r.second)

/-- Count and log a TWIN piece's mismatch; the first of each piece in each hem is logged (R145). -/
def State.noteTwin (s : State) (k i : Nat) : State :=
  if s.twinMismatch k i then
    let s1 := s.bump Obj.twinMismatchHem
    if s1.last.twinSeen.contains i then s1
    else
      let nd (second : Bool) : Nat :=
        ((s1.last.copies.find? (fun c => c.piece == i && c.second == second)).map (·.needle)).getD 0xFF
      State.log { s1 with last := { s1.last with twinSeen := i :: s1.last.twinSeen } } 0x29 i (nd false + 256 * nd true)
  else s

/-- A forward read that still waits when its deadline comes takes the published word and counts as held (R67, R363). -/
def State.deadlineRelease (s : State) (k n : Nat) : State :=
  let nd := s.needle n
  match nd.wait with
  | .sinf d src j par since =>
    if nd.run.any (fun r => decide (r.stitch ≤ k)) then
      let r := (s.needle src.val).readPub j.val par
      let s1 := (s.setNeedle src.val r.2.2).finishSinf n d since r.1
      if r.2.1 then s1.seamReplaced n true else s1.bump (ndlObj n 0x28)
    else s
  | _ => s

/-- The deadline of the stitch in progress: overruns, collection of the outlet bank, forward reads released (R15, R67,
R84, R145). -/
def State.deadline (s : State) : State :=
  let k := s.stitch
  let routes := s.fab.routesOut.filter (fun r => !r.second)
  let pool := routes.map (fun r => (r.ch, s.collectWord k r))
  let held := (routes.filter (s.collectHeld k)).map (·.ch)
  let s1 := s.twins.foldl (fun s i => s.noteTwin k i) s
  let late := s.runners.filter (fun n => (s.needle n).doneFor != some k)
  let s2 := late.foldl State.overrun s1
  let s3 : State := { s2 with
    deadlineOf := some k,
    fab := { s2.fab with outBanks := (⟨k, false, pool, held⟩ :: s2.fab.outBanks).take 2, outAt := s2.now + 160000 } }
  (List.range 128).foldl (fun s n => s.deadlineRelease k n) s3

/-! ## The fitting (R82, R88) -/

/-- The first strobe of a fitting (a loop that is suspended keeps raised_in_fitting as it stands: DESIGN CHOICE, assumption
181): the Tape reports the fitting that ended, of the pleats powered at its end (R82; DESIGN
CHOICE, assumption 127: the spec does not say at which moment), and the loop decides (R87, R88). -/
def State.fittingEnd (s : State) : State :=
  if s.stitch % 256 ≠ 0 || decide (s.stitch = 0) then s
  else
    let first := s.stitch - 256
    let reading : List Int := (s.fab.fitMin.filter (fun e => s.pleatOn e.1)).map (·.2)
    let m : Option Int := if s.fab.changedInFit then none else reading.min?
    let s := (s.setNat Obj.fitStitch 0 first).setNat Obj.fitTime 0 (s.fab.lastFitTb / 2 ^ 32)
    let s := (List.range 16).foldl (fun s p =>
      s.setObj Obj.pleatFitMargin p (if s.pleatOn p then look (fun _ => 32767) s.fab.fitMin p else 32767)) s
    let s := s.setObj Obj.fitMargin 0 (m.getD 32767)
    let s : State := { s with
      fab := { s.fab with
        fitMin := [], changedInFit := false,
        fitSinceShed := s.fab.fitSinceShed || (s.fab.sinceShed && decide (s.fab.shedAt ≤ first)) } }
    let s := (s.ndl.map (·.1)).foldl (fun s n => s.modNeedle n (fun nd => { nd with refetches := 0 })) s
    if s.loopState = 3 then s
    else
      let own := decide (s.nat Obj.vcoreMax < s.nat Obj.vcoreNow)
      let s := s.onFittingEnd m own
      if own then s.setVcore (s.nat Obj.vcoreMax) else s

end Sys2Proof.Machine
end

