-- ==== Sys2Proof/Machine/PleatPower.lean ====
section
/-!
DEFINITION. Which pleats and bobbins are powered (R348), the wake sequencer's requests (R352), and what NDL_STATE and
POWER_STATE show of it (R82, R86, R346).
-/

namespace Sys2Proof.Machine

/-- SERVICE_LEVEL: 0 FULL, 1 TRIM, 2 TEST (R3). -/
def State.level (s : State) : Nat := s.nat Obj.serviceLevel

/-- Pleat p is under test (R354). -/
def State.inTest (s : State) (p : Nat) : Bool :=
  s.level == 2 && s.pw.testRun.any (fun t => t.2.1.testBit p)

/-- What NDL_STATE of needle n reads (R82, R86, R348, R354). -/
def State.ndlStateOf (s : State) (n : Nat) : Nat :=
  if !s.pleatOn (n / 8) then 0
  else if s.inTest (n / 8) then 4
  else if s.level = 2 then 1
  else if (s.needle n).placed then (if s.bit (ndlObj n 1) 0 0 then 3 else 2)
  else 1

/-- Bring NDL_STATE of a pleat's needles up to date. -/
def State.showPleat (s : State) (p : Nat) : State :=
  (pleatMates (8 * p)).foldl (fun s n => s.setNat (ndlObj n 0) 0 (s.ndlStateOf n)) s

/-- Bring NDL_STATE of every needle up to date. -/
def State.showAll (s : State) : State := (List.range 16).foldl State.showPleat s

/-- A pleat holds a placed piece or a copy of one: the placed copies, the targets of migrations, and the copies a
placement or a restore is about to start (R129, R140, R348). -/
def State.pleatHolds (s : State) (p : Nat) : Bool :=
  (s.last.copies ++ s.last.nextCopies ++ s.last.restoring ++ s.last.migs.flatMap (·.copies)).any
    (fun c => c.needle / 8 == p)

/-- The pleats R348 powers. -/
def State.pleatWanted (s : State) (p : Nat) : Bool :=
  if s.pw.hush then s.pw.leaving && (if s.level = 1 then p == 0 else s.pleatHolds p)
  else if s.level = 2 then s.inTest p
  else (s.level == 1 && p == 0) || (s.last.safety && p == 0) || s.pleatHolds p

/-- The owner of bobbin b is a master other than a needle (R150). -/
def State.bobForeign (s : State) (b : Nat) : Bool :=
  decide (128 ≤ s.nat Obj.bobbinOwner b) && s.nat Obj.bobbinOwner b != 255

/-- A placed piece holds a region or a spool window in bobbin b. -/
def State.bobHeld (s : State) (b : Nat) : Bool := s.last.copies.any (fun c => c.regions.any (fun r => r.bobbin == b))

/-- Bobbin b is powered (R348). -/
def State.bobPowered (s : State) (b : Nat) : Bool :=
  if s.pw.hush then s.bobForeign b
  else s.pleatOn (b / 8) || s.bobHeld b || s.bobForeign b || (s.level == 1 && decide (b < 8)) || s.mapBit Obj.bobbinMap b

/-- Unpowered bobbins keep nothing (R348): what they hold is as memory that nothing has written. -/
def State.dropBobbins (s : State) : State :=
  let on := (List.range 128).map s.bobPowered
  { s with bob := s.bob.filter (fun e => on.getD (e.1 / 524288) false),
           bobBad := s.bobBad.filter (fun a => on.getD (a / 524288) false) }

/-- A pleat powers down: its needles stop, and its bobbins that nothing else powers lose what they hold (R348). -/
def State.pleatOff (s : State) (p : Nat) : State :=
  let s1 := (pleatMates (8 * p)).foldl (fun s n => s.modNeedle n (fun nd => { nd with run := none, wait := .none })) s
  (({ s1 with pw := { s1.pw with waking := s1.pw.waking.filter (fun w => w.1 != p) } } : State).setBit Obj.pleatPower 0 p false).dropBobbins.showPleat p

/-- A wake or a power-down begins (R352). -/
def State.beginPleat (s : State) (p : Nat) (wake : Bool) : State :=
  let s1 : State := { s with pw := { s.pw with begun := s.now :: s.pw.begun.take 1 } }
  if wake then { s1 with pw := { s1.pw with waking := s1.pw.waking ++ [(p, s1.now)] } } else s1.pleatOff p

/-- Fewer than two begins lie in the last 4 µs (R352). -/
def State.mayBegin (s : State) : Bool := decide ((s.pw.begun.filter (fun t => decide (s.now < t + 4000000))).length < 2)

/-- Ask for a wake or a power-down: an opposite request still queued goes with it, and one beyond the limit waits and
counts (R352). -/
def State.askPleat (s : State) (p : Nat) (wake : Bool) : State :=
  if s.pw.queue.any (fun q => q.1 == p) then
    if s.pw.queue.any (fun q => q.1 == p && q.2.1 == wake) then s
    else { s with pw := { s.pw with queue := s.pw.queue.filter (fun q => q.1 != p) } }
  else if s.pw.queue.isEmpty && s.mayBegin then s.beginPleat p wake
  else State.bump { s with pw := { s.pw with queue := s.pw.queue ++ [(p, wake, s.now)] } } Obj.wakeQueuedHem

/-- What pleat p will be once its requests are served. -/
def State.pleatWill (s : State) (p : Nat) : Bool :=
  match s.pw.queue.find? (fun q => q.1 == p) with
  | some q => q.2.1
  | none => s.pleatOn p || s.pw.waking.any (fun w => w.1 == p)

/-- Ask for every pleat that R348 now wants otherwise. -/
def State.adjustPower (s : State) : State :=
  ((List.range 16).foldl (fun s p => if s.pleatWill p == s.pleatWanted p then s else s.askPleat p (s.pleatWanted p)) s).dropBobbins

/-- Every pleat that is wanted is ready (R352: the Last uses no pleat before it is). -/
def State.pleatsReady (s : State) : Bool := (List.range 16).all (fun p => !s.pleatWanted p || s.pleatOn p)

/-! ## Hand-over (R151, R152) -/

/-- A bobbin's new owner has been written: until its ports are idle the hand-over is busy (R152). -/
def State.handing (s : State) (b : Nat) (old new : Nat) : State :=
  if old = new then s
  else ({ s.setMapBit Obj.handoverBusy b true with last := { s.last with freed := s.last.freed.filter (· != b) } }).adjustPower

/-- Hand a bobbin to an owner (R152). -/
def State.handOver (s : State) (b new : Nat) : State :=
  (s.setNat Obj.bobbinOwner b new).handing b (s.bobOwner b) new

/-- The Last hands a bobbin over at a strobe, which finds both ports idle (R152). -/
def State.handAtStrobe (s : State) (b new : Nat) : State := s.setNat Obj.bobbinOwner b new

/-- POWER_STATE: 0 RUN, 1 TRIM, 2 HUSH (R346). -/
def State.showPower (s : State) : State :=
  s.setNat Obj.powerState 0 (if s.pw.hush then 2 else if s.level = 1 then 1 else 0)

end Sys2Proof.Machine
end

