-- ==== Sys2Proof/Machine/Dma.lean ====
section
/-!
DEFINITION. The DMA engine (R304–R310).
-/

namespace Sys2Proof.Machine

/-! ## Addresses (R304, R306) -/

/-- An address of a descriptor: in a bobbin, and its byte there, or in package memory. -/
structure DmaAddr where
  bob : Option Nat
  off : Nat
  deriving DecidableEq, Repr

/-- The address a word names; none where a bit that must be 0 is 1. -/
def dmaAddr (v : Nat) : Option DmaAddr :=
  if v.testBit 63 then
    (if bits v 62 26 = 0 then some ⟨some (bits v 25 19), bits v 18 0⟩ else none)
  else if bits v 62 34 = 0 then some ⟨none, bits v 33 0⟩ else none

/-- The bytes from a to a + n lie in the firmware region, or in their bobbin (R305). -/
def State.dmaIn (s : State) (a : DmaAddr) (n : Nat) : Bool :=
  match a.bob with
  | some _ => decide (a.off + n ≤ 524288)
  | none => s.inFirmware a.off n

/-- The window of a circular side, or the bytes of a linear one: its first byte and its length (R306). -/
def dmaSet (a : DmaAddr) (k len : Nat) : DmaAddr × Nat :=
  if k = 0 then (a, len) else ({ a with off := a.off / 2 ^ k * 2 ^ k }, 2 ^ k)

/-- The address of byte i of a side (R306). -/
def dmaByte (a : DmaAddr) (k i : Nat) : DmaAddr :=
  if k = 0 then { a with off := a.off + i }
  else { a with off := a.off / 2 ^ k * 2 ^ k + (a.off % 2 ^ k + i) % 2 ^ k }

/-- The DMA engine may reach a byte: package memory, or a bobbin it owns (R150, R154). -/
def State.dmaOwns (s : State) (a : DmaAddr) : Bool :=
  match a.bob with
  | some b => s.bobOwner b == 130 && s.bobPowered b
  | none => true

/-- An access of the DMA engine waits for the end of the bobbin's hand-over to it (R152). -/
def State.dmaWaits (s : State) (a : DmaAddr) : Bool :=
  match a.bob with
  | some b => s.bobOwner b == 130 && s.mapBit Obj.handoverBusy b
  | none => false

/-- Read a byte. A word of a bobbin read with bad parity is carried on as 0 (R360). -/
def State.dmaRead (s : State) (a : DmaAddr) : Byte :=
  match a.bob with
  | some b => if (List.range 4).any (fun i => s.bobBadAt b (a.off / 4 * 4 + i)) then 0 else s.bobByte b a.off
  | none => s.pmByte a.off
/-- The accesses of a read of n bytes that meet bad parity count (R360). -/
def State.dmaParity (s : State) (a : DmaAddr) (n : Nat) : State :=
  match a.bob with
  | some b => s.bobParity b (s.badReads b (a.off / 4 * 4) ((a.off + n + 3) / 4 * 4 - a.off / 4 * 4))
  | none => s
/-- Write a byte. -/
def State.dmaWrite (s : State) (a : DmaAddr) (v : Byte) : State :=
  match a.bob with
  | some b => s.setBobByte b a.off v
  | none => s.setPmBytes a.off [v]

/-! ## Channels -/

/-- The chain a channel runs. -/
def State.dmaRun (s : State) (c : Nat) : Option DmaRun := (s.dma[c]?).bind id
/-- Give a channel a chain, or none. -/
def State.setDma (s : State) (c : Nat) (r : Option DmaRun) : State :=
  ({ s with dma := setAt s.dma c r }).setBit Obj.dmaState c 0 r.isSome

/-- DONE is set, and with it the interrupt of the channel's core (R309). -/
def State.dmaDone (s : State) (c : Nat) : State := s.setBit Obj.dmaState c 1 true

/-- A channel stops with an error code at a descriptor (R305). -/
def State.dmaError (s : State) (c code addr : Nat) : State :=
  ((((s.setDma c none).setField Obj.dmaState c 11 8 code).setNat Obj.dmaCur c addr).bump Obj.dmaErrHem).dmaDone c

/-- The 32 bytes of a descriptor as read (R304). -/
def dmaDesc (addr : Nat) (l : List Byte) : DmaDesc :=
  let f (k n : Nat) : Nat := leNat ((l.drop k).take n)
  ⟨addr, f 0 8, f 8 8, f 16 4, bits (f 20 4) 4 0, bits (f 20 4) 12 8, (f 20 4).testBit 16, f 24 8⟩

/-- K is 0, or 6 to 30. -/
def dmaKOk (k : Nat) : Bool := k == 0 || (decide (6 ≤ k) && decide (k ≤ 30))

/-- Two byte ranges share a byte. -/
def dmaMeets (a b : DmaAddr × Nat) : Bool :=
  a.1.bob == b.1.bob && decide (a.1.off < b.1.off + b.2) && decide (b.1.off < a.1.off + a.2)

/-- The error of a fetched descriptor; 0 none (R305, R308). -/
def State.dmaDescError (s : State) (l : List Byte) (d : DmaDesc) : Nat :=
  let ctrl := leNat ((l.drop 20).take 4)
  match dmaAddr d.src, dmaAddr d.dst, (if d.next = 2 ^ 64 - 1 then some ⟨none, 0⟩ else dmaAddr d.next) with
  | some a, some b, some n =>
    let sa := dmaSet a d.srcK d.len
    let sb := dmaSet b d.dstK d.len
    let last := d.next == 2 ^ 64 - 1
    if bits ctrl 7 5 ≠ 0 || bits ctrl 15 13 ≠ 0 || bits ctrl 31 17 ≠ 0 || d.len = 0 || !dmaKOk d.srcK || !dmaKOk d.dstK
        || (!last && n.off % 32 != 0) then 1
    else if decide (1073741824 < d.len) || !s.dmaIn sa.1 sa.2 || !s.dmaIn sb.1 sb.2 || (!last && !s.dmaIn n 32) then 2
    else if (d.srcK != 0 || d.dstK != 0) && dmaMeets sa sb then 3
    else 0
  | _, _, _ => 1

/-- A channel fetches and checks the descriptor at an address (R304, R305). -/
def State.dmaFetch (s : State) (c addr : Nat) : State :=
  let s1 := s.setNat Obj.dmaCur c addr
  match dmaAddr addr with
  | none => s1.dmaError c 1 addr
  | some a =>
    if a.off % 32 ≠ 0 then s1.dmaError c 1 addr
    else if !s1.dmaIn a 32 then s1.dmaError c 2 addr
    else if s1.dmaWaits a then s1.setDma c (some ⟨⟨addr, 0, 0, 0, 0, 0, false, 0⟩, 0, false, some addr⟩)
    else if !s1.dmaOwns a then (s1.denied 130).dmaError c 4 addr
    else
      let l := (List.range 32).map (fun i => s1.dmaRead { a with off := a.off + i })
      let d := dmaDesc addr l
      let e := s1.dmaDescError l d
      let s1 := s1.dmaParity a 32
      if e ≠ 0 then s1.dmaError c e addr else s1.setDma c (some ⟨d, 0, false, none⟩)

/-- DMA_GO (R309): ERR clears and the chain begins. -/
def State.dmaGo (s : State) (c : Nat) : State := (s.setField Obj.dmaState c 11 8 0).dmaFetch c (s.nat Obj.dmaDesc c)

/-- DMA_STOP (R309): after its piece; an idle channel is left as it is. -/
def State.dmaStop (s : State) (c : Nat) : State :=
  match s.dmaRun c with
  | some r => s.setDma c (some { r with stop := true })
  | none => s

/-- The channels of a core stop at once with STOPPED (R309, R356). -/
def State.dmaStopCore (s : State) (core : Nat) : State :=
  (List.range 16).foldl (fun s c =>
    match s.dmaRun c with
    | some r => if s.nat Obj.dmaCore c = core then s.dmaError c 6 r.d.addr else s
    | none => s) s

/-! ## Pieces (R307, R308) -/

/-- The copy runs descending: both sides linear, the destination above the source and overlapping it (R308). -/
def dmaDescends (a b : DmaAddr) (d : DmaDesc) : Bool :=
  d.srcK == 0 && d.dstK == 0 && decide (a.off < b.off) && dmaMeets (a, d.len) (b, d.len)

/-- Bytes to the next 4 KiB unit or window wrap above an address. -/
def dmaUp (a : DmaAddr) (k : Nat) : Nat := let u := 4096 - a.off % 4096; if k = 0 then u else min u (2 ^ k - a.off % 2 ^ k)
/-- Bytes down to the 4 KiB unit below an address that is one past the piece. -/
def dmaDown (off : Nat) : Nat := (off - 1) % 4096 + 1

/-- The next piece: the index of its first byte and its length. -/
def dmaPiece (a b : DmaAddr) (r : DmaRun) : Nat × Nat :=
  let left := r.d.len - r.done
  if dmaDescends a b r.d then
    let n := min left (min (dmaDown (a.off + left)) (dmaDown (b.off + left)))
    (left - n, n)
  else
    (r.done, min left (min (dmaUp (dmaByte a r.d.srcK r.done) r.d.srcK) (dmaUp (dmaByte b r.d.dstK r.done) r.d.dstK)))

/-- The piece's bytes are read whole and then written; a byte outside the destination is never written (R307). -/
def State.dmaMove (s : State) (a b : DmaAddr) (d : DmaDesc) (i n : Nat) : State :=
  let l := (List.range n).map (fun j => s.dmaRead (dmaByte a d.srcK (i + j)))
  l.zipIdx.foldl (fun s e => s.dmaWrite (dmaByte b d.dstK (i + e.2)) e.1) s

/-- A descriptor ends: its interrupt, then the next of the chain or the end of it (R304, R309). -/
def State.dmaEnd (s : State) (c : Nat) (r : DmaRun) : State :=
  let s1 := if r.d.irq then s.dmaDone c else s
  if r.d.next = 2 ^ 64 - 1 then s1.setDma c none
  else if r.stop then s1.dmaError c 6 r.d.addr
  else s1.dmaFetch c r.d.next

/-- The bytes of the source bobbin found with bad parity. -/
def State.dmaMark (s : State) (a : DmaAddr) (l : List Nat) : State :=
  match a.bob with
  | some b => s.markBad b l
  | none => s

/-- The channels of package memory that the next piece of a chain reads or writes (R158). -/
def DmaRun.needs (r : DmaRun) : List Nat :=
  match r.fetch, dmaAddr r.d.src, dmaAddr r.d.dst with
  | none, some a, some b =>
    let i := (dmaPiece a b r).1
    distinct ([dmaByte a r.d.srcK i, dmaByte b r.d.dstK i].filterMap (fun x =>
      if x.bob.isNone then some (x.off / 4096 % 2) else none))
  | _, _, _ => []

/-- A read of a descriptor itself, before its first piece, was delivered bad: it came from package memory (R305, R364). -/
def DmaRun.fetchedBad (r : DmaRun) (bad : Bool) : Bool :=
  bad && r.done == 0 && (dmaAddr r.d.addr).any (fun x => x.bob.isNone)

/-- One piece of a channel (R305–R308); it waits for a hand-over to the engine (R152). A bad read burst of the descriptor is
found with the first piece (R364; DESIGN CHOICE, assumption 197). -/
def State.dmaPieceDone (s0 : State) (c : Nat) (bad : Bool) (badBytes : List Nat) (meets : List BobMeet) : State :=
  match s0.dmaRun c with
  | none => s0
  | some r =>
    match dmaAddr r.d.src, dmaAddr r.d.dst with
    | some a, some b =>
      let (i, n) := dmaPiece a b r
      let s := s0.dmaMark a badBytes
      if r.fetch.isSome || s.dmaWaits a || s.dmaWaits b then s0
      else if !s.dmaOwns a || !s.dmaOwns b then (s.denied 130).dmaError c 4 r.d.addr
      else if bad && a.bob.isNone || r.fetchedBad bad then s.dmaError c 5 r.d.addr
      else
        let s := s.meets 130 meets
        let s1 := (s.dmaMove a b r.d i n).dmaParity (dmaByte a r.d.srcK i) n
        let r1 : DmaRun := { r with done := r.done + n }
        if r.d.len ≤ r1.done then s1.dmaEnd c r1
        else if r.stop then s1.dmaError c 6 r.d.addr
        else s1.setDma c (some r1)
    | _, _ => s0

/-- The channel whose piece is next: in ascending number after the one served last (R307). -/
def State.dmaTurn (s : State) : Option Nat :=
  ((List.range 16).map (fun i => (s.dmaLast + 1 + i) % 16)).find? (fun c => (s.dmaRun c).isSome)

/-- The channels that the piece in turn needs granted to the engine (R307). -/
def State.dmaNeeds (s : State) : List Nat := (((s.dmaTurn).bind s.dmaRun).map DmaRun.needs).getD []

/-! ## Objects (R309, R310) -/

/-- The checks of the DMA objects. -/
def State.dmaCheck (s : State) (num : Nat) (v : Int) : Nat :=
  let n := v.toNat
  if num = Obj.dmaGo then (if 16 ≤ n then St.range else if (s.dmaRun n).isSome then St.dmaBusy else St.ok)
  else if num = Obj.dmaStop then (if 16 ≤ n then St.range else St.ok)
  else if num = Obj.dmaCore then (if 4 ≤ n then St.range else St.ok)
  else St.ok

/-- What their accepted writes do. -/
def State.dmaEffect (s : State) (num : Nat) (v : Int) : State :=
  if num = Obj.dmaGo then s.dmaGo v.toNat
  else if num = Obj.dmaStop then s.dmaStop v.toNat
  else s

end Sys2Proof.Machine
end

