-- ==== Sys2Proof/Machine/Crypto.lean ====
section
/-!
DEFINITION. The protection of Ursin messages (R263): AES-256 in Galois/Counter Mode (FIPS 197, NIST SP 800-38D), HKDF with
SHA-384 (RFC 5869), and key agreement and signatures (FIPS 186) on the curve P-384 (NIST SP 800-186).
-/

namespace Sys2Proof.Machine

/-! ## AES-256 (FIPS 197); blocks are 16 bytes as numbers, words 32 bits with their first byte highest -/

/-- The S-box, entry x at bits 8x+7 to 8x. -/
def aesTable : Nat := 0x16BB54B00F2D99416842E6BF0D89A18CDF2855CEE9871E9B948ED9691198F8E19E1DC186B95735610EF6034866B53E708A8BBD4B1F74DDE8C6B4A61C2E2578BA08AE7A65EAF4566CA94ED58D6D37C8E779E4959162ACD3C25C2406490A3A32E0DB0B5EDE14B8EE4688902A22DC4F816073195D643D7EA7C41744975FEC130CCDD2F3FF1021DAB6BCF5389D928F40A351A89F3C507F02F94585334D43FBAAEFD0CF584C4A39BECB6A5BB1FC20ED00D153842FE329B3D63B52A05A6E1B1A2C830975B227EBE28012079A059618C323C7041531D871F1E5A534CCF73F362693FDB7C072A49CAFA2D4ADF04759FA7DC982CA76ABD7FE2B670130C56F6BF27B777C63

/-- SubBytes of one byte. -/
def aesSub (x : Nat) : Nat := (aesTable >>> (8 * (x % 256))) % 256

/-- SubWord. -/
def aesSubWord (w : Nat) : Nat :=
  aesSub (w / 16777216) * 16777216 + aesSub (w / 65536) * 65536 + aesSub (w / 256) * 256 + aesSub w

/-- Multiplication by x in the field of AES. -/
def aesDouble (x : Nat) : Nat := if x < 128 then 2 * x else (2 * x) ^^^ 0x11B

/-- n more words of the key schedule, from word i on; w holds the eight words before, oldest first. -/
def aesExpand : Nat → Nat → List Nat → List Nat
  | 0, _, _ => []
  | n + 1, i, w =>
    let t := w.getD 7 0
    let u := if i % 8 = 0 then aesSubWord (t % 16777216 * 256 + t / 16777216) ^^^ 2 ^ (24 + (i / 8 - 1))
      else if i % 8 = 4 then aesSubWord t else t
    let v := w.getD 0 0 ^^^ u
    v :: aesExpand n (i + 1) (w.drop 1 ++ [v])

/-- Bytes as the number they write, first byte highest. -/
def bytesNat (l : List Byte) : Nat := l.foldl (fun a b => a * 256 + b.toNat) 0

/-- The 60 words of a key's schedule. -/
def aesKeys (key : List Byte) : List Nat :=
  let w := (List.range 8).map (fun i => bytesNat ((key.drop (4 * i)).take 4))
  w ++ aesExpand 52 8 w

/-- A word's four bytes. -/
def wordBytes (w : Nat) : List Nat := [w / 16777216 % 256, w / 65536 % 256, w / 256 % 256, w % 256]

/-- AddRoundKey with the next four words. -/
def aesAdd (ks : List Nat) (st : List Nat) : List Nat := List.zipWith (· ^^^ ·) st ((ks.take 4).flatMap wordBytes)

/-- SubBytes and ShiftRows. -/
def aesShift (st : List Nat) : List Nat := (List.range 16).map (fun i => aesSub (st.getD ((i + 4 * (i % 4)) % 16) 0))

/-- MixColumns. -/
def aesMix (st : List Nat) : List Nat :=
  (List.range 16).map (fun i =>
    let g (k : Nat) : Nat := st.getD (i / 4 * 4 + (i + k) % 4) 0
    aesDouble (g 0) ^^^ aesDouble (g 1) ^^^ g 1 ^^^ g 2 ^^^ g 3)

/-- The last n rounds. -/
def aesRounds : Nat → List Nat → List Nat → List Nat
  | 0, _, st => st
  | n + 1, ks, st => aesRounds n (ks.drop 4) (aesAdd ks (if n = 0 then aesShift st else aesMix (aesShift st)))

/-- One block as a number, under a key schedule. -/
def aesBlock (ks : List Nat) (v : Nat) : Nat :=
  let st := aesAdd ks ((List.range 16).map (fun i => v / 256 ^ (15 - i) % 256))
  (aesRounds 14 (ks.drop 4) st).foldl (fun a b => a * 256 + b) 0

/-! ## Galois/Counter Mode (SP 800-38D) -/

/-- x · v in the field of GHASH, from bit n − 1 of x on, added to z. -/
def ghashMul : Nat → Nat → Nat → Nat → Nat
  | 0, _, _, z => z
  | n + 1, x, v, z =>
    ghashMul n x (if v.testBit 0 then (v >>> 1) ^^^ (0xE1 * 2 ^ 120) else v >>> 1) (if x.testBit n then z ^^^ v else z)

/-- Blocks of 16 bytes as numbers, the last one filled with zeros. -/
def gcmBlocks : Nat → List Byte → List Nat
  | 0, _ => []
  | n + 1, l => if l.isEmpty then [] else bytesNat ((l ++ List.replicate 16 0).take 16) :: gcmBlocks n (l.drop 16)

/-- GHASH under h of the associated data and a ciphertext. -/
def ghash (h : Nat) (aad ct : List Byte) : Nat :=
  (gcmBlocks (aad.length + 1) aad ++ gcmBlocks (ct.length + 1) ct ++ [aad.length * 8 * 2 ^ 64 + ct.length * 8]).foldl
    (fun y b => ghashMul 128 (y ^^^ b) h 0) 0

/-- The key stream of n bytes, in blocks whose counters begin at c. -/
def gcmStream (ks : List Nat) (iv c n : Nat) : List Byte :=
  ((List.range ((n + 15) / 16)).flatMap (fun i => beLen 16 (aesBlock ks (iv * 2 ^ 32 + (c + i) % 2 ^ 32)))).take n

/-- A text added to the key stream: encryption and decryption. -/
def gcmText (key iv : List Byte) (l : List Byte) : List Byte :=
  List.zipWith (· ^^^ ·) l (gcmStream (aesKeys key) (bytesNat iv) 2 l.length)

/-- The tag of a ciphertext and its associated data under a 96-bit IV. -/
def gcmTag (key iv aad ct : List Byte) : List Byte :=
  let ks := aesKeys key
  beLen 16 (ghash (aesBlock ks 0) aad ct ^^^ aesBlock ks (bytesNat iv * 2 ^ 32 + 1))

/-- The text of a protected message, where its tag holds. -/
def gcmOpen (key iv aad ct tag : List Byte) : Option (List Byte) :=
  if tag = gcmTag key iv aad ct then some (gcmText key iv ct) else none

/-- A message protected: its ciphertext, and its tag. -/
def gcmSeal (key iv aad text : List Byte) : List Byte × List Byte :=
  let ct := gcmText key iv text
  (ct, gcmTag key iv aad ct)

/-! ## HKDF with SHA-384 (RFC 5869) -/

/-- HMAC with SHA-384. -/
def hmac384 (key m : List Byte) : List Byte :=
  let k0 := if 128 < key.length then sha384 key else key
  let k := k0 ++ List.replicate (128 - k0.length) 0
  sha384 (k.map (· ^^^ 0x5C) ++ sha384 (k.map (· ^^^ 0x36) ++ m))

/-- n bytes of output, at most 96, for an input key, a salt and an info string. -/
def hkdf384 (n : Nat) (ikm salt info : List Byte) : List Byte :=
  let prk := hmac384 salt ikm
  let t1 := hmac384 prk (info ++ [1])
  let t2 := hmac384 prk (t1 ++ info ++ [2])
  (t1 ++ t2).take n

/-! ## The curve P-384; points in Jacobian coordinates, with Z = 0 at infinity -/

/-- The field's prime. -/
def p384 : Nat := 2 ^ 384 - 2 ^ 128 - 2 ^ 96 + 2 ^ 32 - 1
/-- The curve's constant b; a is −3. -/
def p384b : Nat := 0xB3312FA7E23EE7E4988E056BE3F82D19181D9C6EFE8141120314088F5013875AC656398D8A2ED19D2A85C8EDD3EC2AEF
/-- The order of the base point. -/
def p384n : Nat := 0xFFFFFFFFFFFFFFFFFFFFFFFFFFFFFFFFFFFFFFFFFFFFFFFFC7634D81F4372DDF581A0DB248B0A77AECEC196ACCC52973
/-- The base point. -/
def p384g : Nat × Nat :=
  (0xAA87CA22BE8B05378EB1C71EF320AD746E1D3B628BA79B9859F741E082542A385502F25DBF55296C3A545E3872760AB7,
    0x3617DE4A96262C6F5D9E98BF9292DC29F8F41DBD289A147CE9DA3113B5F0B8C00A60B1CE1D7E819D7A431D7C90EA0E5F)

/-- b ^ e modulo m, for e below 2 ^ n. -/
def powMod (m : Nat) : Nat → Nat → Nat → Nat
  | 0, _, _ => 1
  | n + 1, b, e =>
    let r := powMod m n (b * b % m) (e / 2)
    if e % 2 = 1 then r * b % m else r

/-- The inverse of a number modulo a prime below 2 ^ 384. -/
def invMod (m b : Nat) : Nat := powMod m 384 (b % m) (m - 2)

/-- A point (x / z², y / z³) of the curve. -/
structure JPoint where
  x : Nat
  y : Nat
  z : Nat
  deriving DecidableEq, Repr

/-- Twice a point. -/
def JPoint.double (p : JPoint) : JPoint :=
  let d := p.z * p.z % p384
  let g := p.y * p.y % p384
  let b := p.x * g % p384
  let a := 3 * (p.x + p384 - d) * (p.x + d) % p384
  let x := (a * a + 8 * (p384 - b)) % p384
  ⟨x, (a * (4 * b + p384 - x) + 8 * (p384 - g) * g) % p384, 2 * p.y * p.z % p384⟩

/-- The sum of two points. -/
def JPoint.add (p q : JPoint) : JPoint :=
  if p.z = 0 then q
  else if q.z = 0 then p
  else
    let zp := p.z * p.z % p384
    let zq := q.z * q.z % p384
    let u := p.x * zq % p384
    let s := p.y * (q.z * zq) % p384
    let h := (q.x * zp + p384 - u) % p384
    let r := (q.y * (p.z * zp) + p384 - s) % p384
    if h = 0 then (if r = 0 then p.double else ⟨1, 1, 0⟩)
    else
      let h2 := h * h % p384
      let h3 := h * h2 % p384
      let v := u * h2 % p384
      let x := (r * r + (p384 - h3) + 2 * (p384 - v)) % p384
      ⟨x, (r * (v + p384 - x) + (p384 - s) * h3) % p384, h * (p.z * q.z) % p384⟩

/-- k times a point, for k below 2 ^ n. -/
def JPoint.mul : Nat → Nat → JPoint → JPoint
  | 0, _, _ => ⟨1, 1, 0⟩
  | n + 1, k, q =>
    let r := JPoint.mul n (k / 2) q.double
    if k % 2 = 1 then r.add q else r

/-- A point's coordinates; none at infinity. -/
def JPoint.affine (p : JPoint) : Option (Nat × Nat) :=
  if p.z = 0 then none
  else
    let i := invMod p384 p.z
    let i2 := i * i % p384
    some (p.x * i2 % p384, p.y * (i2 * i) % p384)

/-- A point by its coordinates. -/
def jac (q : Nat × Nat) : JPoint := ⟨q.1, q.2, 1⟩

/-- k times a point. -/
def p384Mul (k : Nat) (q : Nat × Nat) : Option (Nat × Nat) := ((jac q).mul 384 k).affine

/-- A public key in uncompressed form. -/
def p384Bytes (q : Option (Nat × Nat)) : List Byte :=
  match q with
  | some (x, y) => 0x04 :: (beLen 48 x ++ beLen 48 y)
  | none => List.replicate 97 0

/-- The point a public key names, where it lies on the curve. -/
def p384Read (l : List Byte) : Option (Nat × Nat) :=
  let x := bytesNat ((l.drop 1).take 48)
  let y := bytesNat ((l.drop 49).take 48)
  if l.headD 0 = 0x04 && decide (x < p384) && decide (y < p384) && (y * y) % p384 == (x * x * x + (p384 - 3) * x + p384b) % p384 then
    some (x, y) else none

/-- The shared secret of a private key and a public key's bytes; none where they name no point of the curve. -/
def ecdh384 (d : Nat) (pub : List Byte) : Option (List Byte) :=
  (p384Read pub).bind (fun q => (p384Mul d q).map (fun r => beLen 48 r.1))

/-! ## ECDSA on P-384 with SHA-384 (FIPS 186); a signature is r and s, each 48 bytes with the highest first -/

/-- A signature over a hash holds under a public key's bytes. -/
def ecdsaOk (pub hash sig : List Byte) : Bool :=
  let r := bytesNat (sig.take 48)
  let v := bytesNat ((sig.drop 48).take 48)
  match p384Read pub with
  | none => false
  | some q =>
    let w := invMod p384n v
    let a := (jac p384g).mul 384 (bytesNat hash * w % p384n)
    let b := (jac q).mul 384 (r * w % p384n)
    decide (sig.length = 96) && decide (0 < r) && decide (r < p384n) && decide (0 < v) && decide (v < p384n) &&
      (a.add b).affine.any (fun p => p.1 % p384n == r)

/-- The signature over a hash by a private key d with the number k. -/
def ecdsaSign (d k : Nat) (hash : List Byte) : List Byte :=
  let r := ((p384Mul k p384g).map (·.1)).getD 0 % p384n
  beLen 48 r ++ beLen 48 (invMod p384n k * (bytesNat hash + r * d) % p384n)

/-- The public key of a private key, in uncompressed form. -/
def p384Public (d : Nat) : List Byte := p384Bytes (p384Mul d p384g)

end Sys2Proof.Machine
end

