-- ==== Sys2Proof/Machine/Types.lean ====
section
/-!
DEFINITION. The value types of the dictionary (R238) and how values travel in messages (R265).
-/

namespace Sys2Proof.Machine

/-- The type codes of R238; an ARRAY adds 0x80. -/
def Ty.code : Ty → Nat
  | .bool => 0 | .u8 => 1 | .i8 => 2 | .u16 => 3 | .i16 => 4 | .u32 => 5 | .i32 => 6 | .u64 => 7 | .i64 => 8
  | .q31 => 9 | .f32 => 10 | .gain => 11 | .time => 12 | .str => 13 | .blob => 14

/-- The scalar type of an element code (R238). -/
def Ty.ofCode (e : Nat) : Ty :=
  [Ty.bool, .u8, .i8, .u16, .i16, .u32, .i32, .u64, .i64, .q31, .f32, .gain, .time, .str, .blob].getD e .u32

/-- Bytes of an encoded value; a STR or BLOB has its own length. -/
def Ty.size : Ty → Nat
  | .bool | .u8 | .i8 => 1
  | .u16 | .i16 => 2
  | .u32 | .i32 | .q31 | .f32 | .gain => 4
  | .u64 | .i64 => 8
  | .time => 10
  | .str | .blob => 0

/-- Sign-extended types (R21, R238). -/
def Ty.signed : Ty → Bool
  | .i8 | .i16 | .i32 | .i64 | .q31 | .gain => true
  | _ => false

/-- STR and BLOB hold bytes, not numbers. -/
def Ty.isBytes : Ty → Bool
  | .str | .blob => true
  | _ => false

/-- The least and the greatest value of a type: MIN and MAX where an object has no narrower ones. -/
def Ty.lo (t : Ty) : Int := if t.signed then -(2 ^ (8 * t.size - 1)) else if t = .f32 then 0xFF7FFFFF else 0
/-- See `Ty.lo`. -/
def Ty.hi (t : Ty) : Int :=
  if t = .bool then 1 else if t.signed then 2 ^ (8 * t.size - 1) - 1 else if t = .f32 then 0x7F7FFFFF else 2 ^ (8 * t.size) - 1

/-- A value in the form of R265. TIME is held in ns. -/
def Ty.encode (t : Ty) (v : Int) : List Byte :=
  if t = .time then leBytes 6 (v.toNat / 1000000000) ++ leBytes 4 (v.toNat % 1000000000)
  else leBytes t.size (v % 2 ^ (8 * t.size)).toNat

/-- The value encoded bytes stand for. -/
def Ty.decode (t : Ty) (l : List Byte) : Int :=
  if t = .time then Int.ofNat (leNat (l.take 6) * 1000000000 + leNat ((l.drop 6).take 4))
  else
    let n := leNat (l.take t.size)
    if t.signed && decide (2 ^ (8 * t.size - 1) ≤ n) then Int.ofNat n - 2 ^ (8 * t.size) else Int.ofNat n

/-- A binary32 pattern as a number to compare: its magnitude bits with its sign. -/
def f32Order (w : Int) : Int := if w < 2147483648 then w else 2147483648 - w

/-- A value as it compares: F32 as a number, the rest as they are (R238, R243). -/
def Ty.order (t : Ty) (v : Int) : Int := if t = .f32 then f32Order v else v

/-- The value check of R238 on one encoded value, against MIN and MAX. -/
def Ty.valid (t : Ty) (lo hi : Int) (l : List Byte) : Bool :=
  let v := t.decode l
  match t with
  | .bool => decide (0 ≤ v) && decide (v ≤ 1)
  | .time => decide (leNat ((l.drop 6).take 4) ≤ 999999999)
  | .f32 => bits v.toNat 30 23 != 255 && v != 2147483648 && decide (f32Order lo ≤ f32Order v) && decide (f32Order v ≤ f32Order hi)
  | _ => decide (lo ≤ v) && decide (v ≤ hi)

/-- The values of n elements one after another. -/
def Ty.decodeAll (t : Ty) : Nat → List Byte → List Int
  | 0, _ => []
  | n + 1, l => t.decode l :: t.decodeAll n (l.drop t.size)

/-- Every one of n elements passes the value check. -/
def Ty.validAll (t : Ty) (lo hi : Int) : Nat → List Byte → Bool
  | 0, _ => true
  | n + 1, l => t.valid lo hi l && t.validAll lo hi n (l.drop t.size)

/-- The bytes of a STR are 0x20 to 0x7E (R238). -/
def strOk (l : List Byte) : Bool := l.all (fun b => decide (0x20 ≤ b.toNat) && decide (b.toNat ≤ 0x7E))

end Sys2Proof.Machine
end

