-- ==== Sys2Proof/Machine/Manifest.lean ====
section
/-!
DEFINITION. An image's manifest as bytes (R320): its fields, its form, its signature, and the pattern keys it lists.
-/

namespace Sys2Proof.Machine

/-- A little-endian field of a manifest. -/
def manField (m : List Byte) (o n : Nat) : Nat := leNat ((m.drop o).take n)
/-- KEY_SET of a manifest. -/
def manSet (m : List Byte) : Nat := manField m 6 1
/-- KEY_INDEX. -/
def manIndex (m : List Byte) : Nat := manField m 7 1
/-- SEC_VERSION. -/
def manVersion (m : List Byte) : Nat := manField m 8 4
/-- CHUNKS. -/
def manChunks (m : List Byte) : Nat := manField m 0x10 2
/-- TRIAL_S. -/
def manTrial (m : List Byte) : Nat := manField m 0x16 2
/-- HASH of chunk k. -/
def manHash (m : List Byte) (k : Nat) : List Byte := (m.drop (0x300 + 48 * k)).take 48

/-- Length of a manifest by its CHUNKS (R320). -/
def manLength (chunks : Nat) : Nat := 0x300 + 48 * chunks + 96

/-- A manifest's own form fails (code 2). -/
def manBad (m : List Byte) : Bool :=
  let len := manField m 0x0C 4
  let n := manChunks m
  m.take 4 != [0x44, 0x4C, 0x4E, 0x4D] || manField m 4 2 != 1 || decide (1 < manSet m) || decide (2 < manIndex m)
    || decide (256 < manVersion m) || len == 0 || decide (16777216 < len) || n != (len + 65535) / 65536
    || decide (3 < manField m 0x13 1) || decide (15 < manField m 0x14 1) || decide (1 < manField m 0x15 1)
    || decide (manTrial m < 10) || decide (3600 < manTrial m) || decide (min len 65536 ≤ manField m 0x18 4)
    || decide (4 < manField m 0x163 1) || ((m.drop 0x20).take 32).any (· != 0) || ((m.drop 0x2E8).take 24).any (· != 0)

/-- Key i of KEYS, which sign manifests. -/
def manKey (m : List Byte) (i : Nat) : List Byte := (m.drop (0x40 + 97 * i)).take 97
/-- Key i of PAT_KEY, which sign patterns (R117). -/
def patKey (m : List Byte) (i : Nat) : List Byte := (m.drop (0x164 + 97 * i)).take 97

/-- The signature over every byte before it holds under the key of KEY_INDEX. -/
def manSigOk (m : List Byte) : Bool :=
  let n := m.length - 96
  ecdsaOk (manKey m (manIndex m)) (sha384 (m.take n)) (m.drop n)

end Sys2Proof.Machine
end

