-- ==== Sys2Proof/Machine/Pattern.lean ====
section
/-!
DEFINITION. The pattern container as the Last reads it (R117–R124): the header, its tables and their records, each
checked in the order of R396, and the parameter table's own checks (R97, R123, R237–R239, R241).
-/

namespace Sys2Proof.Machine

/-- A refusal of a placement (R130): CODE, ENC, PIECE and PLACE_DETAIL. -/
structure PlaceErr where
  code : Nat
  enc : Nat
  piece : Nat
  detail : Nat
  deriving DecidableEq, Repr

/-- FORMAT at a byte offset; PIECE reads 0 (R130; DESIGN CHOICE, assumption 190). -/
def fmtErr (off : Nat) : PlaceErr := ⟨2, 0, 0, off⟩
/-- RATE. -/
def rateErr : PlaceErr := ⟨3, 0, 0, 0⟩
/-- PARAM at a parameter record. -/
def paramErr (j : Nat) : PlaceErr := ⟨6, 0, 0, j⟩

/-- The first entry whose condition holds is the refusal. -/
def firstErr : List (Bool × PlaceErr) → Option PlaceErr
  | [] => none
  | (true, e) :: _ => some e
  | (false, _) :: t => firstErr t

/-- The first byte offset whose condition holds is refused with FORMAT. -/
def firstFmt (l : List (Bool × Nat)) : Option PlaceErr := firstErr (l.map (fun e => (e.1, fmtErr e.2)))

/-- The n bytes at offset o as a little-endian number (R117). -/
def rdLe (m : Sparse Byte) (o n : Nat) : Nat := leNat (lookAll (fun _ => 0) m o n)

/-- One check a byte: a reserved byte must be 0 (R118). -/
def reservedBytes (m : Sparse Byte) (o n : Nat) : List (Bool × Nat) :=
  (List.range n).map (fun i => (rdLe m (o + i) 1 != 0, o + i))

/-! ## The header (R118) -/

/-- LENGTH. -/
def patLength (m : Sparse Byte) : Nat := rdLe m 8 4

/-- Step 1 of R396. -/
def checkLength (m : Sparse Byte) : Option PlaceErr :=
  firstFmt [(decide (patLength m < 232) || decide (50331648 < patLength m), 8)]

/-- Step 3 of R396 up to the rate check: every other header field in ascending offset. -/
def checkHeader (m : Sparse Byte) : Option PlaceErr :=
  firstErr ([(rdLe m 0 4 != 0x00504853, fmtErr 0), (rdLe m 4 2 != 1, fmtErr 4), (decide (6 < rdLe m 6 1), fmtErr 6),
      (rdLe m 7 1 != 0xB0, rateErr),
      (rdLe m 0x10 2 == 0 || decide (4096 < rdLe m 0x10 2), fmtErr 0x10)]
    ++ (reservedBytes m 0x12 14 ++ reservedBytes m 0x68 24).map (fun e => (e.1, fmtErr e.2)))

/-- The rate against VCORE_MAX and AVS_STATUS.FAULT (R87). -/
def State.checkRate (s : State) (rate : Nat) : Option PlaceErr :=
  firstErr [(rate == 6 && (decide (s.nat Obj.vcoreMax < 780) || s.avsFault), rateErr)]

/-- Offset and count of the table whose header field stands at h. -/
def tableAt (m : Sparse Byte) (h : Nat) : Nat × Nat := (rdLe m h 4, rdLe m (h + 4) 4)

/-- The extent of a table of entries of `size` bytes: its offset is a multiple of 8, its count within `most`, and it ends
before the signature block; a table that does not is reported at its offset field (R118, R396; DESIGN CHOICE, assumption 122). -/
def checkExtent (m : Sparse Byte) (h size most : Nat) : Option PlaceErr :=
  let t := tableAt m h
  firstFmt [(t.1 % 8 != 0, h), (decide (most < t.2), h + 4), (decide (patLength m - 104 < t.1 + t.2 * size), h)]

/-! ## Records -/

/-- A name in STRINGS: it ends there, after at most 31 characters (R119, R123). -/
def nameOk (m : Sparse Byte) (o : Nat) : Bool :=
  let t := tableAt m 0x58
  decide (o < t.2) && ((lookAll (fun _ => 0) m (t.1 + o) (min 32 (t.2 - o))).any (· == 0))

/-- Piece descriptor at byte o (R119). -/
def readPiece (m : Sparse Byte) (o : Nat) : PieceDesc where
  codeFirst := rdLe m o 4
  codeLen := rdLe m (o + 4) 4
  slots := rdLe m (o + 8) 2
  gather := rdLe m (o + 10) 2
  xWords := rdLe m (o + 12) 2
  yWords := rdLe m (o + 14) 2
  xInit := rdLe m (o + 16) 4
  yInit := rdLe m (o + 20) 4
  history := rdLe m (o + 24) 4
  memFirst := rdLe m (o + 28) 4
  memCount := rdLe m (o + 32) 2
  inlets := rdLe m (o + 34) 2
  outlets := rdLe m (o + 36) 2
  seams := rdLe m (o + 38) 1
  priority := rdLe m (o + 39) 1
  twin := (rdLe m (o + 40) 1).testBit 0
  pinned := (rdLe m (o + 40) 1).testBit 1
  priv := (rdLe m (o + 40) 1).testBit 2
  policy := bits (rdLe m (o + 40) 1) 4 3
  pin := rdLe m (o + 42) 1
  blocks := rdLe m (o + 43) 1
  keepD := rdLe m (o + 44) 2
  keepA := rdLe m (o + 46) 1
  keepP := rdLe m (o + 47) 1
  keepPtr := rdLe m (o + 48) 1
  keepM := rdLe m (o + 49) 1
  name := rdLe m (o + 52) 4

/-- The checks of a piece descriptor, its fields in ascending offset (R119). -/
def checkPiece (m : Sparse Byte) (o : Nat) : Option PlaceErr :=
  let p := readPiece m o
  let code := (tableAt m 0x28).2
  let init := (tableAt m 0x30).2
  let mems := (tableAt m 0x38).2
  firstFmt ([(decide (code < p.codeFirst), o), (decide (code < p.codeFirst + p.codeLen), o + 4),
    (p.slots == 0 || decide (8192 < p.slots), o + 8), (p.gather == 1 || decide (1024 < p.gather), o + 10),
    (decide (16384 < p.xWords), o + 12), (decide (16384 < p.yWords), o + 14),
    (p.xInit != 0xFFFFFFFF && decide (init < p.xInit + p.xWords), o + 16),
    (p.yInit != 0xFFFFFFFF && decide (init < p.yInit + p.yWords), o + 20),
    (decide (mems < p.memFirst), o + 28), (decide (64 < p.memCount) || decide (mems < p.memFirst + p.memCount), o + 32),
    (decide (256 < p.inlets), o + 34), (decide (256 < p.outlets), o + 36), (decide (64 < p.seams), o + 38),
    (decide (7 < p.priority), o + 39), (rdLe m (o + 40) 1 / 32 != 0, o + 40), (rdLe m (o + 41) 1 != 0, o + 41),
    (p.policy == 3, o + 40), (if p.pinned then decide (127 < p.pin) else p.pin != 0, o + 42),
    (decide (16 < p.blocks), o + 43), (decide (15 < p.keepA), o + 46), (decide (127 < p.keepP), o + 47)]
    ++ reservedBytes m (o + 50) 2 ++ [(!nameOk m p.name, o + 52)] ++ reservedBytes m (o + 56) 8)

/-- Memory record at byte o (R121). -/
def readMem (m : Sparse Byte) (o : Nat) : MemRec where
  piece := rdLe m o 2
  delay := rdLe m (o + 2) 1 == 1
  noSpool := (rdLe m (o + 3) 1).testBit 0
  words := rdLe m (o + 4) 4
  anchor := rdLe m (o + 8) 2

/-- The checks of memory record j (R121). -/
def checkMem (m : Sparse Byte) (pieces : List PieceDesc) (j o : Nat) : Option PlaceErr :=
  let r := readMem m o
  let owner := pieces[r.piece]?
  firstFmt ([(!owner.any (fun p => decide (p.memFirst ≤ j) && decide (j < p.memFirst + p.memCount)), o),
    (decide (1 < rdLe m (o + 2) 1), o + 2), (decide (1 < rdLe m (o + 3) 1), o + 3),
    (r.words == 0 || decide ((if r.delay then 2 ^ 28 else 131072) < r.words), o + 4),
    (!owner.any (fun p => decide (r.anchor + 2 ≤ p.xWords)), o + 8)] ++ reservedBytes m (o + 10) 6)

/-- Connection record at byte o (R122). -/
def readConn (m : Sparse Byte) (o : Nat) : Conn where
  kind := rdLe m o 1
  fwdOk := (rdLe m (o + 1) 1).testBit 0
  a := rdLe m (o + 4) 2
  b := rdLe m (o + 6) 2
  index := rdLe m (o + 8) 2
  path := rdLe m (o + 10) 2

/-- The checks of a connection record; `seen` holds the records before it (R122). -/
def checkConn (m : Sparse Byte) (pieces : List PieceDesc) (seen : List Conn) (o : Nat) : Option PlaceErr :=
  let c := readConn m o
  let b := pieces[c.b]?
  let indexOk := match c.kind with
    | 0 => b.any (fun p => decide (c.index < p.inlets))
    | 1 => b.any (fun p => decide (c.index < p.outlets))
    | _ => (pieces[c.a]?).any (fun p => decide (c.index < p.seams))
  firstFmt ([(decide (2 < c.kind), o), (decide ((if c.kind = 2 then 1 else 0) < rdLe m (o + 1) 1), o + 1)]
    ++ reservedBytes m (o + 2) 2
    ++ [(decide ((if c.kind = 2 then pieces.length else 8448) ≤ c.a)
          || (c.kind == 1 && seen.any (fun d => d.kind == 1 && d.a == c.a)), o + 4),
        (decide (pieces.length ≤ c.b), o + 6), (!indexOk, o + 8),
        (decide (1023 < c.path) && c.path != 0xFFFF, o + 10)])

/-- Parameter record at byte o (R123). -/
def readParam (m : Sparse Byte) (o : Nat) : Param where
  piece := rdLe m o 2
  block := rdLe m (o + 2) 1
  y := rdLe m (o + 3) 1 == 1
  offset := rdLe m (o + 4) 2
  words := rdLe m (o + 6) 2
  ty := rdLe m (o + 8) 1
  flags := rdLe m (o + 9) 1
  group := rdLe m (o + 10) 2
  dflt := rdLe m (o + 12) 4
  min := rdLe m (o + 16) 4
  max := rdLe m (o + 20) 4
  unit := rdLe m (o + 24) 2
  rights := rdLe m (o + 26) 2
  name := rdLe m (o + 28) 4

/-- The reserved bits of a parameter record: FLAGS[7:3] and bit 15 of RIGHTS (R118, R123, R237). -/
def checkParamBits (m : Sparse Byte) (o : Nat) : Option PlaceErr :=
  firstFmt [(decide (7 < rdLe m (o + 9) 1), o + 9), (decide (127 < rdLe m (o + 27) 1), o + 27)]

/-- Constraint record at byte o (R124). -/
def readCons (m : Sparse Byte) (o : Nat) : Cons where
  kind := rdLe m o 1
  mayChange := (rdLe m (o + 1) 1).testBit 0
  a := rdLe m (o + 2) 2
  b := rdLe m (o + 4) 2
  value := rdLe m (o + 8) 4

/-- The checks of a constraint record (R124). -/
def checkCons (m : Sparse Byte) (pieces : Nat) (o : Nat) : Option PlaceErr :=
  let c := readCons m o
  firstFmt ([(c.kind == 0 || decide (4 < c.kind), o), (decide ((if c.kind = 1 then 1 else 0) < rdLe m (o + 1) 1), o + 1),
    (decide ((if c.kind = 1 then 1024 else pieces) ≤ c.a), o + 2),
    ((c.kind == 2 || c.kind == 3) && decide (pieces ≤ c.b), o + 4)]
    ++ reservedBytes m (o + 6) 2 ++ reservedBytes m (o + 12) 4)

/-- The first refusal a list of checks gives. -/
def firstOf {α : Type} (l : List α) (f : α → Option PlaceErr) : Option PlaceErr := l.findSome? f

/-- Byte offsets of a table's entries. -/
def entryOffs (m : Sparse Byte) (h size : Nat) : List Nat :=
  (List.range (tableAt m h).2).map (fun i => (tableAt m h).1 + i * size)

/-- All records of a table. -/
def readAll {α : Type} (m : Sparse Byte) (h size : Nat) (f : Sparse Byte → Nat → α) : List α :=
  (entryOffs m h size).map (f m)

/-- Check connection records in index order. -/
def checkConns (m : Sparse Byte) (pieces : List PieceDesc) : List Conn → List Nat → Option PlaceErr
  | _, [] => none
  | seen, o :: t =>
    match checkConn m pieces seen o with
    | some e => some e
    | none => checkConns m pieces (readConn m o :: seen) t

/-- Step 4 of R396: the tables in the order of their header fields, each table's extent before its records. -/
def checkTables (m : Sparse Byte) : Option PlaceErr :=
  let n := rdLe m 0x10 2
  let pieces := readAll m 0x20 64 readPiece
  let steps : List (Unit → Option PlaceErr) :=
    [fun _ => checkExtent m 0x20 64 4096,
     fun _ => if (tableAt m 0x20).2 = n then none else some (fmtErr 0x24),
     fun _ => firstOf (entryOffs m 0x20 64) (checkPiece m),
     fun _ => checkExtent m 0x28 8 0xFFFFFFFF,
     fun _ => checkExtent m 0x30 4 0xFFFFFFFF,
     fun _ => checkExtent m 0x38 16 65536,
     fun _ => firstOf ((entryOffs m 0x38 16).zipIdx) (fun e => checkMem m pieces e.2 e.1),
     fun _ => checkExtent m 0x40 12 262144,
     fun _ => checkConns m pieces [] (entryOffs m 0x40 12),
     fun _ => checkExtent m 0x48 32 0xFFFFFFFF,
     fun _ => firstOf (entryOffs m 0x48 32) (checkParamBits m),
     fun _ => checkExtent m 0x50 16 65536,
     fun _ => firstOf (entryOffs m 0x50 16) (checkCons m n),
     fun _ => checkExtent m 0x58 1 0xFFFFFFFF]
  steps.findSome? (fun f => f ())

/-! ## Parameters (R97, R123, R237–R239, R241) -/

/-- The element type of a parameter's TYPE code, where R238 allows it: the code without the ARRAY bit. -/
def paramType? (ty : Nat) : Option Nat :=
  let e := ty % 128
  if decide (255 < ty) || decide (0x0B < e) || e = 7 || e = 8 then none else some e

/-- A parameter's type is an ARRAY. -/
def paramIsArray (ty : Nat) : Bool := decide (0x80 ≤ ty)

/-- One parameter record against the records before it (R97, R123, R237–R239). -/
def paramBad (m : Sparse Byte) (pieces : List PieceDesc) (initCount : Nat) (seen : List Param) (p : Param) (memByte : Nat) :
    Bool :=
  let same := seen.filter (fun q => q.piece == p.piece && q.block == p.block)
  let basted := p.flags.testBit 0
  !(pieces[p.piece]?).any (fun d => decide (p.block < d.blocks)) || decide (1 < memByte) || same.any (fun q => q.y != p.y)
    || (paramType? p.ty).isNone
    || (if paramIsArray p.ty then p.words == 0 || decide (1024 < p.words) else p.words != 1)
    || same.any (fun q => decide (q.offset < p.offset + p.words) && decide (p.offset < q.offset + q.words))
    || (if basted then p.group == 0 || decide (4095 < p.group) else p.group != 0)
    || (basted && same.any (fun q => q.flags.testBit 0 && q.group != p.group))
    || (paramIsArray p.ty && decide (initCount < p.dflt + p.words))
    || decide (19 < p.unit) || bits p.rights 14 10 &&& (31 - bits p.rights 4 0) != 0 || !nameOk m p.name

/-- Check parameter records in index order from record j. -/
def checkParams (m : Sparse Byte) (pieces : List PieceDesc) (initCount : Nat) :
    List Param → Nat → List Nat → Option PlaceErr
  | _, _, [] => none
  | seen, j, o :: t =>
    let p := readParam m o
    if decide (1048576 ≤ j) || paramBad m pieces initCount seen p (rdLe m (o + 3) 1) then some (paramErr j)
    else checkParams m pieces initCount (p :: seen) (j + 1) t

/-- Blocks without records, in ascending piece and block (R123, R130). -/
def checkBlocks (pieces : List PieceDesc) (params : List Param) : Option PlaceErr :=
  pieces.zipIdx.findSome? (fun e => (List.range e.1.blocks).findSome? (fun b =>
    if params.any (fun p => p.piece == e.2 && p.block == b) then none else some ⟨6, 0, e.2, 0x80000000 + b⟩))

/-- Bytes of heap a parameter takes: its extension and, for an ARRAY, its shadow, its committed value and its default at
full capacity (R241). -/
def paramHeap (p : Param) : Nat := 64 + (if paramIsArray p.ty then 12 * p.words else 0)

/-- Free heap after reset in bytes (DICT_HEAP_FREE, R257). -/
def heapBytes : Nat := 1007616 * 1024

/-- The first record that does not fit the heap (R241). -/
def checkHeap : Nat → Nat → List Param → Option PlaceErr
  | _, _, [] => none
  | used, j, p :: t =>
    if heapBytes < used + paramHeap p then some (paramErr j) else checkHeap (used + paramHeap p) (j + 1) t

/-- Step 6 of R396. -/
def checkParamTable (m : Sparse Byte) (pieces : List PieceDesc) : Option PlaceErr :=
  let params := readAll m 0x48 32 readParam
  match checkParams m pieces (tableAt m 0x30).2 [] 0 (entryOffs m 0x48 32) with
  | some e => some e
  | none =>
    match checkBlocks pieces params with
    | some e => some e
    | none => checkHeap 0 0 params

/-! ## The pattern -/

/-- A pattern as read; its code is filled by the expansion (R63). -/
def readPattern (m : Sparse Byte) : Pattern where
  rate := rdLe m 6 1
  id := rdLe m 12 4
  bytes := m
  initAt := (tableAt m 0x30).1
  strings := (tableAt m 0x58).1
  pieces := readAll m 0x20 64 readPiece
  code := []
  stores := []
  mems := readAll m 0x38 16 readMem
  conns := readAll m 0x40 12 readConn
  params := readAll m 0x48 32 readParam
  cons := readAll m 0x50 16 readCons

/-- Word i of the INIT table (R118). -/
def Pattern.init (p : Pattern) (i : Nat) : Word := BitVec.ofNat 32 (rdLe p.bytes (p.initAt + 4 * i) 4)

/-- The unexpanded code of a piece (R119). -/
def rawCode (m : Sparse Byte) (d : PieceDesc) : List (BitVec 64) :=
  (List.range d.codeLen).map (fun i => BitVec.ofNat 64 (rdLe m ((tableAt m 0x28).1 + 8 * (d.codeFirst + i)) 8))

/-- The size of a parameter block in words: the largest OFFSET + WORDS among its records (R123). -/
def Pattern.blockSize (p : Pattern) (piece b : Nat) : Nat :=
  ((p.params.filter (fun q => q.piece == piece && q.block == b)).map (fun q => q.offset + q.words)).foldl max 0

/-- The memory of a parameter block: true for Y (R123). -/
def Pattern.blockY (p : Pattern) (piece b : Nat) : Bool :=
  ((p.params.find? (fun q => q.piece == piece && q.block == b)).map (·.y)).getD false

/-- A parameter's default, as its dictionary value: a signed type's word is read as signed (R123, R238). -/
def signedType (ty : Nat) : Bool := let e := ty % 128; e = 2 || e = 4 || e = 6 || e = 9 || e = 0x0B

/-- A 32-bit pattern as the value a type gives it. -/
def paramValue (ty w : Nat) : Int := if signedType ty then (BitVec.ofNat 32 w).toInt else Int.ofNat w

/-- The default of element i of a parameter (R123). -/
def Pattern.paramDflt (p : Pattern) (q : Param) (i : Nat) : Int :=
  paramValue q.ty (if paramIsArray q.ty then (p.init (q.dflt + i)).toNat else q.dflt)

end Sys2Proof.Machine
end

