-- ==== Sys2Proof/Machine/CodeCheck.lean ====
section
/-!
DEFINITION. The checks of a piece's code (R63, R67, R68, R71, R120): REPEAT expansion, the pointers followed through the
expanded slots, and the registers a piece reads before it has written them.
-/

namespace Sys2Proof.Machine

/-! ## REPEAT (R63) -/

/-- The slots a piece's code expands to; the fuel is the code's length. -/
def expand : Nat → List (BitVec 64) → List (BitVec 64)
  | 0, _ => []
  | _ + 1, [] => []
  | f + 1, w :: t =>
    if isRepeat w then
      (List.replicate (repeatOf w).1 (expand f (t.take (repeatOf w).2))).flatten ++ expand f (t.drop (repeatOf w).2)
    else w :: expand f t

/-- How many slots it expands to. -/
def expandedLen : Nat → List (BitVec 64) → Nat
  | 0, _ => 0
  | _ + 1, [] => 0
  | f + 1, w :: t =>
    if isRepeat w then (repeatOf w).1 * expandedLen f (t.take (repeatOf w).2) + expandedLen f (t.drop (repeatOf w).2)
    else 1 + expandedLen f t

/-- The last positions of the bodies that enclose position p of the code. -/
def enclosing (code : List (BitVec 64)) (p : Nat) : List Nat :=
  ((code.take p).zipIdx.filter (fun e => isRepeat e.1 && decide (p ≤ e.2 + (repeatOf e.1).2))).map
    (fun e => e.2 + (repeatOf e.1).2)

/-- The lowest code the REPEAT at position p breaches; 0 for none (R63, R71). -/
def repeatBreach (code : List (BitVec 64)) (p : Nat) (w : BitVec 64) : Nat :=
  if repeatCode w ≠ 0 then repeatCode w
  else
    let around := enclosing code p
    let last := p + (repeatOf w).2
    if decide (3 < around.length) || decide (code.length ≤ last) || around.any (fun e => decide (e < last)) then 8 else 0

/-- The first breach by a REPEAT, in ascending position: its position and code. -/
def firstRepeatBreach (code : List (BitVec 64)) : Option (Nat × Nat) :=
  code.zipIdx.findSome? (fun e =>
    if isRepeat e.1 && repeatBreach code e.2 e.1 != 0 then some (e.2, repeatBreach code e.2 e.1) else none)

/-! ## Pointers (R68) -/

/-- A known address of a piece: in its private range or in a page of a block, one of `len` words from `off` on. It is one
word, but for an address that a windowed update took from another area: that one is known to lie in its window, and which
word it is depends on where the areas are placed. -/
structure Place where
  page : Option Nat
  off : Nat
  len : Nat
  deriving DecidableEq, Repr

/-- A word of the private range. -/
def Place.own (o : Nat) : Place := ⟨none, o, 1⟩

/-- What is known of a pointer: address, base, length. -/
structure APtr where
  a : Option Place
  b : Option Place
  l : Option Nat
  deriving DecidableEq, Repr

/-- What is known of the eight pointers (0–3 XP, 4–7 YP) and the eight modifiers. -/
structure AState where
  ptrs : List APtr
  mods : List (Option Int)
  deriving DecidableEq, Repr

/-- Nothing is known at a piece's first slot (R68). -/
def AState.start : AState := ⟨List.replicate 8 ⟨none, none, none⟩, List.replicate 8 none⟩

/-- Pointer p. -/
def AState.ptr (st : AState) (p : Nat) : APtr := st.ptrs.getD p ⟨none, none, none⟩
/-- Modifier m. -/
def AState.md (st : AState) (m : Nat) : Option Int := st.mods.getD m none
/-- Change pointer p. -/
def AState.setPtr (st : AState) (p : Nat) (f : APtr → APtr) : AState := { st with ptrs := modAt st.ptrs p f }

/-- Move a known address (R54: modulo 16 384). -/
def Place.move (w : Place) (k : Int) : Place := { w with off := ((Int.ofNat w.off + k) % 16384).toNat }

/-- The offset of an address from a base of the same area. -/
def Place.from_ (w base : Place) : Option Nat :=
  if w.page = base.page && w.len == 1 then some ((Int.ofNat w.off - Int.ofNat base.off) % 16384).toNat else none

/-- The words of an area of the piece in one memory: its private range, or a page of a block that lies there. -/
def areaSize (p : Pattern) (i : Nat) (y : Bool) (w : Place) : Nat :=
  match w.page with
  | none => ((p.pieces[i]?).map (fun d => if y then d.yWords else d.xWords)).getD 0
  | some b => if p.blockY i b == y then p.blockSize i b else 0

/-- The window's aligned quads lie within its area; in an area of all 16 384 words a window may run on at word 0 (R54,
R68). The check precedes the placement, so the quads are those of the area's own offsets (DEDUCED, assumption 114). -/
def windowFits (p : Pattern) (i : Nat) (y : Bool) (b : Place) (l : Nat) : Bool :=
  areaSize p i y b == 16384 || decide ((b.off + l + 3) / 4 * 4 ≤ areaSize p i y b)

/-- The words of a window, as ranges that do not wrap (R54). -/
def windowWords (b l : Nat) : List (Nat × Nat) :=
  if b + l ≤ 16384 then [(b, b + l)] else [(b, 16384), (0, b + l - 16384)]

/-- The code an access breaches, 0 for none, and the private words a store through it can reach (R68). -/
def accessBreach (p : Pattern) (i : Nat) (y store : Bool) (ac : Access) (st : AState) : Nat × List (Nat × Nat) :=
  let q := st.ptr (ac.ptr.val + if y then 4 else 0)
  if ac.mode = .none then (0, [])
  else if ac.mode.windowed then
    match q.b, q.l with
    | some b, some l =>
      if ac.mode = .bitrev && 2 ^ Nat.log2 l != l then (9, [])
      else if !windowFits p i y b l || (store && b.page.isSome) then (10, [])
      else (0, if store then windowWords b.off l else [])
    | _, _ => (9, [])
  else
    match q.a with
    | none => (9, [])
    | some a =>
      if ac.mode.usesMod && (st.md ac.md.val).isNone then (9, [])
      else if decide (areaSize p i y a < a.off + a.len) || (store && a.page.isSome) then (10, [])
      else (0, if store then [(a.off, a.off + a.len)] else [])

/-- A window as a known address: one of its words. -/
def Place.window (b : Place) (l : Nat) : Place := ⟨b.page, b.off, l⟩

/-- What is known of a pointer's address after an access (R54, R68). -/
def stepPlace (q : APtr) (ac : Access) (m : Option Int) : Option Place :=
  match ac.mode with
  | .none | .index | .hold => q.a
  | .inc => q.a.map (·.move 1)
  | .incM => q.a.bind (fun a => m.map (a.move ·))
  | .dec => q.a.bind (fun a => m.map (fun k => a.move (-k)))
  | .circ =>
    match q.a, q.b, q.l, m with
    | some a, some b, some l, some k =>
      match a.from_ b with
      | some w => some (b.move ((Int.ofNat (w % l) + k) % Int.ofNat l))
      | none => some (b.window l)
    | _, _, _, _ => none
  | .bitrev =>
    match q.a, q.b, q.l, m with
    | some a, some b, some l, some k =>
      let n := Nat.log2 l
      match a.from_ b with
      | some w => some (b.move (Int.ofNat (revBits n ((Int.ofNat (revBits n (w % l)) + k) % Int.ofNat l).toNat)))
      | none => some (b.window l)
    | _, _, _, _ => none

/-- The state after an access field's update. -/
def AState.step (st : AState) (y : Bool) (ac : Access) : AState :=
  let m := st.md ac.md.val
  st.setPtr (ac.ptr.val + if y then 4 else 0) (fun q => { q with a := stepPlace q ac m })

/-- What an instruction makes known or unknown beside its access fields (R68). -/
def AState.sets (st : AState) (i : Instr) : AState :=
  match i with
  | .seta _ _ p imm => st.setPtr p.val (fun q => { q with a := some (.own imm.toNat) })
  | .setaD _ _ p _ => st.setPtr p.val (fun q => { q with a := none })
  | .setb _ _ p imm => st.setPtr p.val (fun q => { q with b := some (.own imm.toNat) })
  | .setbP _ _ p blk => st.setPtr p.val (fun q => { q with a := some ⟨some blk.val, 0, 1⟩, b := some ⟨some blk.val, 0, 1⟩ })
  | .setl _ _ p imm => st.setPtr p.val (fun q => { q with l := some imm.toNat })
  | .setm _ _ m imm => { st with mods := modAt st.mods m.val (fun _ => some imm.toInt) }
  | .setmD _ _ m _ => { st with mods := modAt st.mods m.val (fun _ => none) }
  | _ => st

/-- The memories an instruction stores to: X, Y. -/
def storesTo (i : Instr) : Bool × Bool :=
  match i with
  | .stx _ _ _ | .staX _ _ _ => (true, false)
  | .sty _ _ _ | .staY _ _ _ => (false, true)
  | _ => (false, false)

/-- The table of TLU needs a known window too (R49, R68). -/
def tluBreach (p : Pattern) (k : Nat) (i : Instr) (st : AState) : Nat :=
  match i with
  | .tlu _ _ _ _ yp => (accessBreach p k true false ⟨.hold, yp, 0⟩ st).1
  | _ => 0

/-- The lower of two codes, 0 being none. -/
def lowCode (a b : Nat) : Nat := if a = 0 then b else if b = 0 then a else min a b

/-- Some word of a piece's code writes seam-out word j. -/
def writesSeam (code : List (BitVec 64)) (j : Nat) : Bool :=
  code.any (fun w => w.toNat / 2 ^ 56 == 0xA4 && w.toNat % 64 == j)

/-- A forward read as the code names it: another piece's word, its link marked FORWARD_OK, and a word that piece's code
writes (R67, R122). -/
def sinfBreach (p : Pattern) (raw : Nat → List (BitVec 64)) (k : Nat) (i : Instr) : Nat :=
  match i with
  | .sinf _ _ _ src j _ =>
    if src.val ≠ k && p.conns.any (fun c => c.kind == 2 && c.fwdOk && c.a == src.val && c.b == k && c.index == j.val)
      && writesSeam (raw src.val) j.val then 0 else 11
  | _ => 0

/-- SETB.P names a block that is not the piece's. -/
def setbPBreach (p : Pattern) (k : Nat) (i : Instr) : Nat :=
  match i with
  | .setbP _ _ _ blk => if (p.pieces[k]?).any (fun d => decide (blk.val < d.blocks)) then 0 else 12
  | _ => 0

/-- The common fields of a word. -/
def gateOf (w : BitVec 64) : Gate := gateAt (w.toNat / 2 ^ 35)

/-- One slot of piece k: the lowest code it breaches, the words its stores can reach (with the memory, true for Y), and
what is known after it (R68, R71). -/
def slotBreach (p : Pattern) (raw : Nat → List (BitVec 64)) (k : Nat) (st : AState) (w : BitVec 64) :
    Nat × List (Bool × Nat × Nat) × AState :=
  match checkSlot 0 w with
  | .error c => (c, [], st)
  | .ok i =>
    let g := gateOf w
    let x := accessBreach p k false (storesTo i).1 g.x st
    let y := accessBreach p k true (storesTo i).2 g.y st
    let code := lowCode (lowCode (lowCode x.1 y.1) (tluBreach p k i st)) (lowCode (sinfBreach p raw k i) (setbPBreach p k i))
    (code, x.2.map (fun r => (false, r)) ++ y.2.map (fun r => (true, r)), ((st.step false g.x).step true g.y).sets i)

/-- The first breach of a piece's slots, or the words its stores can reach. -/
def followSlots (p : Pattern) (raw : Nat → List (BitVec 64)) (k : Nat) :
    AState → Nat → List (BitVec 64) → Except (Nat × Nat) (List (Bool × Nat × Nat))
  | _, _, [] => .ok []
  | st, n, w :: t =>
    let r := slotBreach p raw k st w
    if r.1 ≠ 0 then .error (n, r.1)
    else
      match followSlots p raw k r.2.2 (n + 1) t with
      | .ok more => .ok (r.2.1 ++ more)
      | .error e => .error e

/-! ## Scratch registers (R120) -/

/-- Registers as sets of bits: D, A, P, M, and for each pointer its a, B and L. -/
structure RegSet where
  d : Nat
  a : Nat
  p : Nat
  m : Nat
  pa : Nat
  pb : Nat
  pl : Nat
  deriving DecidableEq, Repr

/-- No register. -/
def RegSet.none : RegSet := ⟨0, 0, 0, 0, 0, 0, 0⟩
/-- Both sets. -/
def RegSet.or (x y : RegSet) : RegSet :=
  ⟨x.d ||| y.d, x.a ||| y.a, x.p ||| y.p, x.m ||| y.m, x.pa ||| y.pa, x.pb ||| y.pb, x.pl ||| y.pl⟩
/-- Every member of x is in y. -/
def RegSet.within (x y : RegSet) : Bool :=
  x.d &&& y.d == x.d && x.a &&& y.a == x.a && x.p &&& y.p == x.p && x.m &&& y.m == x.m && x.pa &&& y.pa == x.pa
    && x.pb &&& y.pb == x.pb && x.pl &&& y.pl == x.pl

/-- Some D registers. -/
def rD (l : List (Fin 16)) : RegSet := { RegSet.none with d := l.foldl (fun m r => m ||| 2 ^ r.val) 0 }
/-- Some accumulators. -/
def rA (l : List (Fin 4)) : RegSet := { RegSet.none with a := l.foldl (fun m r => m ||| 2 ^ r.val) 0 }
/-- A predicate; P7 is no register. -/
def rP (r : Fin 8) : RegSet := { RegSet.none with p := if r.val = 7 then 0 else 2 ^ r.val }
/-- A register quad. -/
def rQ (q : Fin 4) : RegSet := rD [quadReg q 0, quadReg q 1, quadReg q 2, quadReg q 3]
/-- A D pair. -/
def rPair (p : Fin 8) : RegSet := rD [pairReg p 0, pairReg p 1]
/-- The register of a quad source. -/
def rQuadSrc : QuadSrc → RegSet
  | .fetched => .none
  | .reg q => rQ q
/-- The registers of a pair source. -/
def rPairSrc : PairSrc → RegSet
  | .reg p => rPair p
  | _ => .none
/-- The register of a scalar source. -/
def rScalar : ScalarSrc → RegSet
  | .reg d => rD [d]
  | .lane _ => .none
/-- The accumulators an accumulate mode reads. -/
def rAccMode (md : AccMode) (l : List (Fin 4)) : RegSet :=
  match md with
  | .clr => .none
  | _ => rA l

/-- The registers an access field reads: the pointer's a, its B and L in a windowed mode, and the modifier (R120). -/
def rAccess (y : Bool) (ac : Access) : RegSet :=
  if ac.mode = .none then .none
  else
    let b := 2 ^ (ac.ptr.val + if y then 4 else 0)
    { RegSet.none with pa := b, pb := if ac.mode.windowed then b else 0, pl := if ac.mode.windowed then b else 0,
                       m := if ac.mode.usesMod then 2 ^ ac.md.val else 0 }

/-- The four accumulators. -/
def allA : List (Fin 4) := [0, 1, 2, 3]

/-- The registers an instruction names as sources (R60). -/
def readsOf (i : Instr) : RegSet :=
  match i with
  | .mov _ _ _ a | .neg _ _ _ a | .abs _ _ _ a | .not _ _ _ a | .log2 _ _ _ a | .exp2 _ _ _ a | .rsqe _ _ _ a => rD [a]
  | .addi _ _ _ a _ => rD [a]
  | .add _ _ _ a b | .sub _ _ _ a b | .min _ _ _ a b | .max _ _ _ a b | .and _ _ _ a b | .or _ _ _ a b | .xor _ _ _ a b =>
    rD [a, b]
  | .select _ _ _ a b pc => (rD [a, b]).or (rP pc)
  | .asl _ _ _ a b rs _ | .asr _ _ _ a b rs _ | .lsl _ _ _ a b rs _ | .lsr _ _ _ a b rs _ =>
    if rs then rD [a, b] else rD [a]
  | .cmp _ _ _ a b _ => rD [a, b]
  | .cmpi _ _ _ a _ _ => rD [a]
  | .acmp _ _ _ a b _ => rA [a, b]
  | .plog _ _ _ pa pb _ => (rP pa).or (rP pb)
  | .mac4Dot _ _ ad md xq yq => ((rAccMode md [ad]).or (rQuadSrc xq)).or (rQuadSrc yq)
  | .mac4Fan _ _ md sc yq => ((rAccMode md allA).or (rScalar sc)).or (rQuadSrc yq)
  | .mac4Lane _ _ md xq yq => ((rAccMode md allA).or (rQuadSrc xq)).or (rQuadSrc yq)
  | .cmac _ _ md xp yp | .cmacCj _ _ md xp yp => ((rAccMode md [0, 1]).or (rPairSrc xp)).or (rPairSrc yp)
  | .msq _ _ ad x => (rA [ad]).or (rD [x])
  | .bfly _ _ _ _ a b w | .bflyH _ _ _ _ a b w => ((rPairSrc a).or (rPairSrc b)).or (rPairSrc w)
  | .lda _ _ _ x => rD [x]
  | .aadd _ _ _ a b | .asub _ _ _ a b => rA [a, b]
  | .aasl _ _ _ a _ | .aasr _ _ _ a _ => rA [a]
  | .asel _ _ _ a b pc => (rA [a, b]).or (rP pc)
  | .wb _ _ _ a | .rdag _ _ _ a | .rdah _ _ _ a | .rdal _ _ _ a => rA [a]
  | .wb4 _ _ _ => rA allA
  | .staX _ _ a | .staY _ _ a => rA [a]
  | .wrag _ _ _ x | .wrah _ _ _ x | .wral _ _ _ x => rD [x]
  | .divs _ _ q r d => (rD [q, d]).or (rA [r])
  | .tlu _ _ _ p yp => (rD [p]).or { RegSet.none with pb := 2 ^ (yp.val + 4), pl := 2 ^ (yp.val + 4) }
  | .glide _ _ v t st _ => rD [v, t, st]
  | .mpeak _ _ m x => rD [m, x]
  | .stx _ _ x | .sty _ _ x | .setaD _ _ _ x | .setmD _ _ _ x | .outW _ _ x _ | .sout _ _ x _ => rD [x]
  | .rdp _ _ _ p => { RegSet.none with pa := 2 ^ p.val, pb := 2 ^ p.val }
  | .outq _ _ q _ => rQ q
  | .bldW _ _ _ b _ _ | .bldT _ _ _ b _ _ => rD [b]
  | .bstW _ _ x b _ _ | .bstT _ _ x b _ _ => rD [x, b]
  | _ => .none

/-- The registers an instruction names as destinations (R60, R61). -/
def writesOf (i : Instr) : RegSet :=
  match i with
  | .stcl _ _ d | .stch _ _ d | .gsl _ _ d _ | .ldih _ _ d _ | .ldil _ _ d _ | .mov _ _ d _ | .neg _ _ d _ | .abs _ _ d _
  | .not _ _ d _ | .log2 _ _ d _ | .exp2 _ _ d _ | .rsqe _ _ d _ | .wb _ _ d _ | .rdag _ _ d _ | .rdah _ _ d _
  | .rdal _ _ d _ | .ldx _ _ d _ | .ldy _ _ d _ | .rdp _ _ d _ | .inW _ _ d _ => rD [d]
  | .addi _ _ d _ _ | .add _ _ d _ _ | .sub _ _ d _ _ | .min _ _ d _ _ | .max _ _ d _ _ | .and _ _ d _ _ | .or _ _ d _ _
  | .xor _ _ d _ _ | .tlu _ _ d _ _ | .sin _ _ d _ _ _ | .sinf _ _ d _ _ _ | .bldW _ _ d _ _ _ | .bldT _ _ d _ _ _ => rD [d]
  | .select _ _ d _ _ _ | .asl _ _ d _ _ _ _ | .asr _ _ d _ _ _ _ | .lsl _ _ d _ _ _ _ | .lsr _ _ d _ _ _ _ => rD [d]
  | .cmp _ _ pd _ _ _ | .cmpi _ _ pd _ _ _ | .acmp _ _ pd _ _ _ | .plog _ _ pd _ _ _ => rP pd
  | .mac4Dot _ _ ad _ _ _ | .msq _ _ ad _ | .lda _ _ ad _ | .aclr _ _ ad | .aadd _ _ ad _ _ | .asub _ _ ad _ _
  | .aasl _ _ ad _ _ | .aasr _ _ ad _ _ | .asel _ _ ad _ _ _ => rA [ad]
  | .mac4Fan _ _ _ _ _ | .mac4Lane _ _ _ _ _ => rA allA
  | .cmac _ _ _ _ _ | .cmacCj _ _ _ _ _ => rA [0, 1]
  | .bfly _ _ dm dk _ _ _ | .bflyH _ _ dm dk _ _ _ => (rPair dm).or (rPair dk)
  | .wb4 _ _ q | .ldqx _ _ q | .ldqy _ _ q | .inq _ _ q _ => rQ q
  | .wrag _ _ a _ | .wrah _ _ a _ | .wral _ _ a _ => rA [a]
  | .divs _ _ q r _ => (rD [q]).or (rA [r])
  | .glide _ _ v _ _ pk => (rD [v]).or (rP pk)
  | .mpeak _ _ m _ => rD [m]
  | .seta _ _ p _ | .setaD _ _ p _ => { RegSet.none with pa := 2 ^ p.val }
  | .setb _ _ p _ => { RegSet.none with pb := 2 ^ p.val }
  | .setbP _ _ p _ => { RegSet.none with pa := 2 ^ p.val, pb := 2 ^ p.val }
  | .setl _ _ p _ => { RegSet.none with pl := 2 ^ p.val }
  | .setm _ _ m _ | .setmD _ _ m _ => { RegSet.none with m := 2 ^ m.val }
  | _ => .none

/-- A piece's persistent registers (R119, R120). -/
def PieceDesc.keeps (d : PieceDesc) : RegSet := ⟨d.keepD, d.keepA, d.keepP, d.keepM, d.keepPtr, d.keepPtr, d.keepPtr⟩

/-- The first slot that reads a scratch register before an unpredicated instruction of the run has written it (R120). An
instruction that writes part of a register writes it (DESIGN CHOICE, assumption 117). -/
def scratchBreach : RegSet → Nat → List (BitVec 64) → Option Nat
  | _, _, [] => none
  | have_, n, w :: t =>
    match readSlot 0 w with
    | none => some n
    | some i =>
      let g := gateOf w
      let reads := (((readsOf i).or (rAccess false g.x)).or (rAccess true g.y)).or (rP g.pk)
      if reads.within have_ then scratchBreach (if g.always then have_.or (writesOf i) else have_) (n + 1) t else some n

/-! ## A piece's code whole (R71, R396 step 5) -/

/-- A piece's expanded code and the words its stores reach, or its first refusal; `o` is the descriptor's offset. -/
def checkCode (p : Pattern) (raw : Nat → List (BitVec 64)) (k o : Nat) (d : PieceDesc) :
    Except PlaceErr (List (BitVec 64) × List (Bool × Nat × Nat)) :=
  let code := raw k
  match firstRepeatBreach code with
  | some (pos, c) => .error ⟨4, c, k, 0x80000000 + pos⟩
  | none =>
    let n := expandedLen (code.length + 1) code
    if slotLimit p.rate < n then .error ⟨4, 8, k, slotLimit p.rate⟩
    else if n ≠ d.slots then .error ⟨2, 0, k, o + 8⟩
    else
      let slots := expand (code.length + 1) code
      match followSlots p raw k AState.start 0 slots with
      | .error (at_, c) => .error ⟨4, c, k, at_⟩
      | .ok stores =>
        match scratchBreach d.keeps 0 slots with
        | some at_ => .error ⟨5, 0, k, at_⟩
        | none => .ok (slots, stores)

/-- Step 5 of R396: the pieces in ascending index. -/
def checkPieces (p : Pattern) (raw : Nat → List (BitVec 64)) :
    List (PieceDesc × Nat) → Except PlaceErr (List (List (BitVec 64) × List (Bool × Nat × Nat)))
  | [] => .ok []
  | (d, k) :: t =>
    match checkCode p raw k ((tableAt p.bytes 0x20).1 + 64 * k) d with
    | .error e => .error e
    | .ok c =>
      match checkPieces p raw t with
      | .error e => .error e
      | .ok more => .ok (c :: more)

end Sys2Proof.Machine
end

