-- ==== Sys2Proof/Machine/Place.lean ====
section
/-!
DEFINITION. The placement procedure (R122, R125–R128, R132, R136): feasibility, allotments, budgets, path latencies, and
the vector by which the Last chooses a needle.
-/

namespace Sys2Proof.Machine

/-- A placement as far as it has come: the placed copies in order, the SEAM records placed as forward reads, and the
spools. -/
structure Plan where
  copies : List Copy
  fwd : List Nat
  spools : List Spool
  deriving DecidableEq, Repr

/-- What a placement starts from beside the pattern (R128): the usable needles and bobbins, the seed, the spool rules and
sizes, and the margins. -/
structure PlaceIn where
  needles : List Nat
  bobbins : List Nat
  seed : Nat
  threshold : Nat
  bwLimit : Nat
  target : Int
  floor : Int
  spoolBytes : Nat
  deriving DecidableEq, Repr

/-! ## Order (R127) -/

/-- Lexicographic order. -/
def lexLt : List Nat → List Nat → Bool
  | _, [] => false
  | [], _ :: _ => true
  | a :: s, b :: t => decide (a < b) || (a == b && lexLt s t)

/-- Insert by key, after equal keys. -/
def insertBy {α : Type} (key : α → List Nat) (x : α) : List α → List α
  | [] => [x]
  | y :: t => if lexLt (key x) (key y) then x :: y :: t else y :: insertBy key x t

/-- Sort by key. -/
def sortBy {α : Type} (key : α → List Nat) (l : List α) : List α := l.foldl (fun m x => insertBy key x m) []

/-- Piece b can be reached from piece a along edges. -/
def reaches (edges : List (Nat × Nat)) : Nat → Nat → Nat → Bool
  | 0, a, b => a == b
  | f + 1, a, b => a == b || (edges.filter (fun e => e.1 == a)).any (fun e => reaches edges f e.2 b)

/-- The SEAM records as edges from producer to consumer, in index order, without those that close a cycle (R127). -/
def seamEdges (p : Pattern) : List (Nat × Nat) :=
  (p.conns.filter (fun c => c.kind == 2)).foldl
    (fun m c => if reaches m p.pieces.length c.b c.a then m else m ++ [(c.a, c.b)]) []

/-- The longest chain of edges that ends at a piece. -/
def chainTo (edges : List (Nat × Nat)) : Nat → Nat → Nat
  | 0, _ => 0
  | f + 1, i => ((edges.filter (fun e => e.2 == i)).map (fun e => chainTo edges f e.1 + 1)).foldl max 0

/-- The pieces in placement order (R127). -/
def placeOrder (p : Pattern) : List Nat :=
  let edges := seamEdges p
  (sortBy (fun e => [e.1.priority, chainTo edges p.pieces.length e.2, 8192 - e.1.slots, e.2]) p.pieces.zipIdx).map (·.2)

/-- The copies to place: the first copy of each piece, then the second of each TWIN piece (R127). -/
def copyOrder (p : Pattern) : List (Nat × Bool) :=
  let o := placeOrder p
  o.map (fun i => (i, false)) ++ (o.filter (fun i => (p.pieces[i]?).any (·.twin))).map (fun i => (i, true))

/-- rank(n) (R127). -/
def rank (seed n : Nat) : Nat := (n + 128 - seed % 128) % 128

/-! ## Seams (R122) -/

/-- The placed copy of a piece whose seam words are read: its first (R145). -/
def Plan.primary (pl : Plan) (i : Nat) : Option Copy := pl.copies.find? (fun c => c.piece == i && !c.second)

/-- A pleat's forward links from needle a reach needle b. -/
def Plan.needleReaches (p : Pattern) (pl : Plan) (a b : Nat) : Bool :=
  let links := pl.fwd.filterMap (fun k => (p.conns[k]?).bind (fun c =>
    match pl.primary c.a, pl.primary c.b with
    | some x, some y => some (x.needle, y.needle)
    | _, _ => none))
  reaches links 8 a b

/-- SEAM record k can be placed as a forward read (R122, R125). -/
def Plan.canForward (p : Pattern) (pl : Plan) (c : Conn) : Bool :=
  c.kind == 2 && c.fwdOk && !(p.pieces[c.a]?).any (·.twin) && !(p.pieces[c.b]?).any (·.twin)
    && writesSeam (p.code.getD c.a []) c.index
    && (match pl.primary c.a, pl.primary c.b with
        | some x, some y => x.needle != y.needle && x.needle / 8 == y.needle / 8 && !pl.needleReaches p y.needle x.needle
        | _, _ => false)

/-- The SEAM records whose pieces are now both placed become forward reads where they can, in index order. -/
def Plan.link (p : Pattern) (pl : Plan) (i : Nat) : Plan :=
  p.conns.zipIdx.foldl (fun pl e =>
    if (e.1.a == i || e.1.b == i) && !pl.fwd.contains e.2 && pl.canForward p e.1 then { pl with fwd := pl.fwd ++ [e.2] }
    else pl) pl

/-- The fabric latency of a path in a placement that may be partial (R122, R127). -/
def Plan.pathLatency (p : Pattern) (pl : Plan) (path : Nat) : Nat :=
  1 + ((p.conns.zipIdx.filter (fun e => e.1.kind == 2 && e.1.path == path)).map (fun e =>
    if (pl.primary e.1.a).isSome && (pl.primary e.1.b).isSome then (if pl.fwd.contains e.2 then 0 else 1)
    else if e.1.fwdOk then 0 else 1)).sum

/-- The declared paths. -/
def Pattern.paths (p : Pattern) : List Nat := distinct ((p.conns.map (·.path)).filter (fun x => decide (x < 1024)))

/-- The largest fabric latency over every path. -/
def Plan.latency (p : Pattern) (pl : Plan) : Nat := (p.paths.map (fun x => pl.pathLatency p x)).foldl max 0

/-! ## Budgets (R70, R77, R127) -/

/-- The copies on a needle, in the order of their slots. -/
def Plan.inOrder (pl : Plan) (n : Nat) : List Copy := sortBy (fun c => [c.slotFirst]) (pl.copies.filter (fun c => c.needle == n))

/-- The program of a needle: piece, whether it is a second copy, and the word. -/
def Plan.program (p : Pattern) (pl : Plan) (n : Nat) : List (Nat × Bool × BitVec 64) :=
  (pl.inOrder n).flatMap (fun c => (p.code.getD c.piece []).map (fun w => (c.piece, c.second, w)))

/-- The forward SEAM record a word reads through, if it is placed as one. -/
def Plan.forwardOf (p : Pattern) (pl : Plan) (i : Nat) (second : Bool) (w : BitVec 64) : Option Conn :=
  let op := w.toNat / 2 ^ 56
  if second || (op != 0xA5 && op != 0xA6) then none
  else (pl.fwd.filterMap (fun k => p.conns[k]?)).find? (fun c =>
    c.a == w.toNat / 2 ^ 24 % 128 && c.b == i && c.index == w.toNat % 64)

/-- Index, in its needle's program, of the last SOUT of a piece to its word j: the release slot (R67). -/
def Plan.releaseSlot (p : Pattern) (pl : Plan) (i j : Nat) : Option (Nat × Nat) :=
  match pl.primary i with
  | none => none
  | some c =>
    let l := (pl.program p c.needle).zipIdx.filter
      (fun e => e.1.1 == i && !e.1.2.1 && e.1.2.2.toNat / 2 ^ 56 == 0xA4 && e.1.2.2.toNat % 64 == j)
    l.getLast?.map (fun e => (c.needle, e.2))

/-- Budgeted retire times of a program in slot times, given the other needles' times (R70). -/
def retireTimes (p : Pattern) (pl : Plan) (known : List (Nat × List Nat)) :
    Nat → List (Nat × Bool × BitVec 64) → List Nat
  | _, [] => []
  | t, (i, second, w) :: rest =>
    let op := w.toNat / 2 ^ 56
    let t1 :=
      if 0xB0 ≤ op && decide (op ≤ 0xB3) then t + 2
      else
        match pl.forwardOf p i second w with
        | none => t + 1
        | some c =>
          match pl.releaseSlot p c.a c.index with
          | none => t + 1
          | some r => max (t + 1) (((known.find? (fun e => e.1 == r.1)).map (fun e => e.2.getD r.2 0)).getD 0)
    t1 :: retireTimes p pl known t1 rest

/-- Retire times of a pleat's needles; eight rounds settle eight needles whose forward links form no cycle. -/
def Plan.pleatTimes (p : Pattern) (pl : Plan) (pleat : Nat) : Nat → List (Nat × List Nat)
  | 0 => []
  | r + 1 =>
    let known := pl.pleatTimes p pleat r
    (List.range 8).map (fun k => (8 * pleat + k, retireTimes p pl known 0 (pl.program p (8 * pleat + k))))

/-- The budget of each needle of a pleat, in slot times. -/
def Plan.budgets (p : Pattern) (pl : Plan) (pleat : Nat) : List (Nat × Nat) :=
  (pl.pleatTimes p pleat 8).map (fun e => (e.1, e.2.getLastD 0))

/-- The guaranteed slot time of a rate in ps (R77). -/
def slotPs (rate : Nat) : Nat := if rate = 6 then 920 else 1080

/-- A budget in slot times times the stitch rate, against the usable window reduced by a margin of m thousandths: the
excess in ps · Hz · 1 000 (R77, R126). -/
def overLine (rate b : Nat) (m : Int) : Nat :=
  (Int.ofNat (b * slotPs rate * rateHz rate * 1000)
    - (1000000000000 - 320000 * Int.ofNat (rateHz rate)) * (1000 - m)).toNat

/-- A budget in Tape units. -/
def budgetTape (rate b : Nat) : Nat := b * slotPs rate / 500

/-! ## Allotment (R127) -/

/-- The lowest multiple of `align` at which `size` units fit below `cap` beside the used ranges. -/
def firstFit (used : List (Nat × Nat)) (size align cap : Nat) : Option Nat :=
  let starts := 0 :: used.map (fun u => (u.1 + u.2 + align - 1) / align * align)
  let ok := starts.filter (fun s => decide (s + size ≤ cap)
    && used.all (fun u => u.2 == 0 || decide (s + size ≤ u.1) || decide (u.1 + u.2 ≤ s)))
  if size = 0 then some 0 else ok.min?

/-- The copies on a needle. -/
def Plan.on (pl : Plan) (n : Nat) : List Copy := pl.copies.filter (fun c => c.needle == n)

/-- The slots a copy takes of its needle's program; gated slots take their time too (R53). -/
def Copy.used (c : Copy) : Nat := c.slots

/-- Ranges of X (Y) words in use on a needle: private ranges and pages. -/
def Plan.usedWords (p : Pattern) (pl : Plan) (n : Nat) (y : Bool) : List (Nat × Nat) :=
  (pl.on n).flatMap (fun c =>
    (match p.pieces[c.piece]? with
     | some d => [if y then (c.yBase, d.yWords) else (c.xBase, d.xWords)]
     | none => [])
    ++ (c.blocks.filter (fun b => b.y == y)).flatMap (fun b => [(b.a, b.size), (b.b, b.size)]))

/-- Pages of a piece's blocks, each first-fit, page A before page B, block 0 first (R127). -/
def placePages (p : Pattern) (i : Nat) :
    List (Nat × Nat) → List (Nat × Nat) → List Nat → Option (List BlockPlace)
  | _, _, [] => some []
  | ux, uy, b :: t => do
    let y := p.blockY i b
    let size := p.blockSize i b
    let a ← firstFit (if y then uy else ux) size 1 16384
    let ux1 := if y then ux else (a, size) :: ux
    let uy1 := if y then (a, size) :: uy else uy
    let c ← firstFit (if y then uy1 else ux1) size 1 16384
    let rest ← placePages p i (if y then ux1 else (c, size) :: ux1) (if y then (c, size) :: uy1 else uy1) t
    some (⟨y, a, c, size⟩ :: rest)

/-- Bytes in use of a bobbin. -/
def Plan.usedBytes (pl : Plan) (more : List Region) (b : Nat) : List (Nat × Nat) :=
  ((pl.copies.flatMap (·.regions) ++ more).filter (fun r => r.bobbin == b)).map (fun r => (r.off, r.bytes))

/-- First-fit of a region: the needle's own bobbins by number, then free ones by rank (R127). -/
def Plan.placeRegion (pin : PlaceIn) (pl : Plan) (n : Nat) (more : List Region) (bytes : Nat) : Option (Nat × Nat) :=
  let all := pl.copies.flatMap (·.regions) ++ more
  let own := distinct (((pl.on n).flatMap (·.regions) ++ more).map (·.bobbin))
  let free := pin.bobbins.filter (fun b => !all.any (fun r => r.bobbin == b))
  let order := sortBy (fun b => [b]) own ++ sortBy (fun b => [rank pin.seed b]) free
  order.findSome? (fun b => (firstFit (pl.usedBytes more b) bytes 4 524288).map (fun o => (b, o)))

/-- Words a spool holds in the spool region (R132). -/
def spoolWords (w : Nat) : Nat := (w + 4096 + 511) / 512 * 512

/-- The bandwidth of one spool in B/s (R136). -/
def spoolBps (rate : Nat) : Nat := 10 * rateHz rate

/-- The memory records of a copy in record order: their regions, their new spools, or the refusal (R127, R132, R136). -/
def Plan.placeMems (p : Pattern) (pin : PlaceIn) (pl : Plan) (n i : Nat) (second : Bool) :
    List Region → List Spool → List (MemRec × Nat) → Except PlaceErr (List Region × List Spool)
  | rs, sp, [] => .ok (rs, sp)
  | rs, sp, (m, j) :: t =>
    let inBobbin := if !m.delay || decide (m.words ≤ pin.threshold) then pl.placeRegion pin n rs (4 * m.words) else none
    match inBobbin with
    | some (b, o) => pl.placeMems p pin n i second (rs ++ [⟨j, b, o, 4 * m.words, false⟩]) sp t
    | none =>
      let all := pl.spools ++ sp
      if !m.delay || m.noSpool || decide (m.words < 4096) || decide (4096 ≤ all.length) then .error ⟨7, 0, i, 0⟩
      else
        match pl.placeRegion pin n rs 16384 with
        | none => .error ⟨7, 0, i, 0⟩
        | some (b, o) =>
          match firstFit (all.map (fun q => (q.base, 4 * q.words))) (4 * spoolWords m.words) 1 pin.spoolBytes with
          | none => .error ⟨9, 0, i, j⟩
          | some base =>
            if pin.bwLimit * 1000000 < (all.length + 1) * spoolBps p.rate then .error ⟨10, 0, i, j⟩
            else pl.placeMems p pin n i second (rs ++ [⟨j, b, o, 16384, true⟩])
              (sp ++ [⟨i, second, j, spoolWords m.words, base, b, o, m.words, [], [], [], [], []⟩]) t

/-- The memory records of a piece with their indices (R119). -/
def Pattern.memsOf (p : Pattern) (d : PieceDesc) : List (MemRec × Nat) :=
  (p.mems.zipIdx.drop d.memFirst).take d.memCount

/-- The copy as it stands on needle n but for its memory records: slots, private words, pages, windows and blocks, each
first-fit (R127); none where one does not fit (R125). -/
def Plan.seat (p : Pattern) (pl : Plan) (i : Nat) (second : Bool) (n : Nat) : Option Copy := do
  let d ← p.pieces[i]?
  let here := pl.on n
  let ux := pl.usedWords p n false
  let uy := pl.usedWords p n true
  let four (k : Nat) : Nat := (k + 3) / 4 * 4
  let dOf (c : Copy) (f : PieceDesc → Nat) : Nat := ((p.pieces[c.piece]?).map f).getD 0
  let x ← firstFit ux d.xWords 1 16384
  let y ← firstFit uy d.yWords 1 16384
  let pages ← placePages p i ((x, d.xWords) :: ux) ((y, d.yWords) :: uy) (List.range d.blocks)
  let a ← firstFit (here.map (fun c => (c.inBase, four (dOf c (·.inlets))))) (four d.inlets) 4 256
  let o ← firstFit (here.map (fun c => (c.outBase, four (dOf c (·.outlets))))) (four d.outlets) 4 256
  let se ← firstFit (here.map (fun c => (c.seamBase, dOf c (·.seams)))) d.seams 1 64
  let k ← firstFit (here.map (fun c => (c.blkBase, dOf c (·.blocks)))) d.blocks 1 256
  some ⟨i, second, n, (here.map Copy.used).sum, d.slots, x, y, k, pages, a, o, se, [], true⟩

/-- Step 4 of allocate for a copy on needle n: its regions and its new spools, or the refusal (R127, R132, R136). -/
def Plan.memsOn (p : Pattern) (pin : PlaceIn) (pl : Plan) (i : Nat) (second : Bool) (n : Nat) :
    Except PlaceErr (List Region × List Spool) :=
  match p.pieces[i]? with
  | none => .error ⟨14, 0, i, 0⟩
  | some d => pl.placeMems p pin n i second [] [] (p.memsOf d)

/-- The spool bandwidth with the copy on needle n (R126). Where its memory records cannot be placed there the spec states
no value: the needle ranks behind every one where they can (DESIGN CHOICE, assumption 109). -/
def Plan.spoolLoad (p : Pattern) (pin : PlaceIn) (pl : Plan) (i : Nat) (second : Bool) (n : Nat) : Nat :=
  match pl.memsOn p pin i second n with
  | .ok (_, sp) => (pl.spools.length + sp.length) * spoolBps p.rate
  | .error _ => 2 ^ 60

/-! ## Feasibility (R125) -/

/-- A LATENCY record (kind 1) is broken by a plan. -/
def Plan.breaksLatency (p : Pattern) (pl : Plan) (c : Cons) : Bool := c.kind == 1 && decide (c.value < pl.pathLatency p c.a)

/-- APART and TOGETHER hold for a copy on needle n (R124). -/
def Plan.grouped (p : Pattern) (pl : Plan) (i n : Nat) : Bool :=
  p.cons.all (fun c =>
    if c.kind = 2 || c.kind = 3 then
      let other := if c.a = i then some c.b else if c.b = i then some c.a else none
      match other with
      | none => true
      | some j => pl.copies.all (fun x => x.piece != j || (x.needle / 8 == n / 8) == (c.kind == 3))
    else true)

/-- Registers of one needle's pieces never overlap (R120). -/
def disjointKeeps (a b : PieceDesc) : Bool :=
  a.keepD &&& b.keepD == 0 && a.keepA &&& b.keepA == 0 && a.keepP &&& b.keepP == 0 && a.keepPtr &&& b.keepPtr == 0
    && a.keepM &&& b.keepM == 0

/-- Rules of R125 that need no allotment: map, slots, registers, pins, TWIN and the groupings. The pin binds the first copy of a
TWIN piece (DESIGN CHOICE, assumption 118). -/
def Plan.mayStand (p : Pattern) (pin : PlaceIn) (pl : Plan) (i : Nat) (second : Bool) (n : Nat) : Bool :=
  match p.pieces[i]? with
  | none => false
  | some d =>
    pin.needles.contains n
      && decide (((pl.on n).map Copy.used).sum + d.slots ≤ slotLimit p.rate)
      && (pl.on n).all (fun c => (p.pieces[c.piece]?).all (fun e => disjointKeeps d e))
      && (!d.pinned || second || n == d.pin)
      && pl.copies.all (fun c => c.piece != i || c.second == second || c.needle / 8 != n / 8)
      && pl.grouped p i n

/-- Every needle of a pleat keeps its budget within the window reduced by the floor (R77). -/
def Plan.inBudget (p : Pattern) (pin : PlaceIn) (pl : Plan) (pleat : Nat) : Bool :=
  (pl.budgets p pleat).all (fun e => overLine p.rate e.2 pin.floor == 0)

/-- A copy placed on a needle: the plan with it and its links. -/
def Plan.with_ (p : Pattern) (pl : Plan) (c : Copy) : Plan := Plan.link p { pl with copies := pl.copies ++ [c] } c.piece

/-- The plan with a copy on a needle, where R125 allows it but for LATENCY records, which are left to the caller. -/
def Plan.try_ (p : Pattern) (pin : PlaceIn) (pl : Plan) (i : Nat) (second : Bool) (n : Nat) : Option Plan :=
  if !pl.mayStand p pin i second n then none
  else
    match pl.seat p i second n with
    | none => none
    | some c =>
      let q := pl.with_ p c
      if q.inBudget p pin (n / 8) then some q else none

/-! ## The vector (R126, R127) -/

/-- The sum of the excess over every needle. -/
def Plan.excess (p : Pattern) (pin : PlaceIn) (pl : Plan) : Nat :=
  ((distinct (pl.copies.map (fun c => c.needle / 8))).flatMap (fun q => (pl.budgets p q).map (fun e =>
    overLine p.rate e.2 pin.target))).sum

/-- The vector of the copies that a plan adds to the one before it, on needle n: latency, excess, spool bandwidth, a new
pleat, the needle's budget. -/
def Plan.vector (p : Pattern) (pin : PlaceIn) (pl before : Plan) (n spool : Nat) : List Nat :=
  [pl.latency p, pl.excess p pin, spool,
   if before.copies.any (fun c => c.needle / 8 == n / 8) then 0 else 1,
   (((pl.budgets p (n / 8)).find? (fun e => e.1 == n)).map (·.2)).getD 0]

/-- The better of two choices: the earlier keeps ties. -/
def better (a b : Option (List Nat × Nat × Plan)) : Option (List Nat × Nat × Plan) :=
  match a, b with
  | none, b => b
  | a, none => a
  | some x, some y => if lexLt y.1 x.1 then some y else some x

/-- The needles to try in ascending rank. -/
def PlaceIn.byRank (pin : PlaceIn) : List Nat := sortBy (fun n => [rank pin.seed n]) pin.needles

/-- A LATENCY record of the pattern is broken. -/
def Plan.breaksAny (p : Pattern) (pl : Plan) : Bool := p.cons.any (fun c => pl.breaksLatency p c)

/-- The feasible needle with the best vector for a copy (R127). -/
def Plan.best (p : Pattern) (pin : PlaceIn) (pl : Plan) (i : Nat) (second : Bool) : Option (List Nat × Nat × Plan) :=
  pin.byRank.foldl (fun best n =>
    match pl.try_ p pin i second n with
    | none => best
    | some q =>
      if q.breaksAny p then best
      else better best (some (q.vector p pin pl n (pl.spoolLoad p pin i second n), n, q))) none

/-- The refusal when no needle is feasible: LATENCY where a LATENCY record alone keeps the copy from a needle, the first in
rank, else NO_FIT (R125, R396 step 7; DEDUCED, assumption 110). -/
def Plan.whyNot (p : Pattern) (pin : PlaceIn) (pl : Plan) (i : Nat) (second : Bool) : PlaceErr :=
  let broken := pin.byRank.findSome? (fun n => (pl.try_ p pin i second n).bind (fun q =>
    p.cons.zipIdx.find? (fun e => q.breaksLatency p e.1)))
  match broken with
  | some e => ⟨8, 0, i, e.2⟩
  | none => ⟨7, 0, i, 0⟩

/-- The copy last put in a plan takes its regions, and the plan its new spools. -/
def Plan.give (q : Plan) (i : Nat) (second : Bool) (rs : List Region) (sp : List Spool) : Plan :=
  { q with
    copies := q.copies.map (fun c => if c.piece = i && c.second == second then { c with regions := rs } else c),
    spools := q.spools ++ sp }

/-- One copy is put on its best needle and allocated there (R127). -/
def Plan.put (p : Pattern) (pin : PlaceIn) (pl : Plan) (i : Nat) (second : Bool) : Except PlaceErr Plan :=
  match pl.best p pin i second with
  | none => .error (pl.whyNot p pin i second)
  | some (_, n, q) =>
    match pl.memsOn p pin i second n with
    | .error e => .error e
    | .ok (rs, sp) => .ok (q.give i second rs sp)

/-- Placement of copies in order (R127). -/
def placeAll (p : Pattern) (pin : PlaceIn) : Plan → List (Nat × Bool) → Except PlaceErr Plan
  | pl, [] => .ok pl
  | pl, (i, second) :: t =>
    match pl.put p pin i second with
    | .error e => .error e
    | .ok q => placeAll p pin q t

end Sys2Proof.Machine
end

