-- ==== Sys2Proof/Machine/Last.lean ====
section
/-!
DEFINITION. What the Last writes and reports (R92, R119–R121, R127–R131, R146, R147): programs, images, pages, anchors and
routes of placed copies, the placement's reports, and full placement step by step.
-/

namespace Sys2Proof.Machine

/-! ## The placement as it stands -/

/-- The placement in force, with the copies of migrations at their targets from the decision on, and at their sources until
two stitches after the switch (R140). -/
def State.placedPlan (s : State) : Plan := ⟨s.last.copies ++ s.last.migs.flatMap (·.copies), s.last.fwd, s.last.spools⟩

/-- What a decision of the Last finds taken: the placement in force, and a restore that waits for its strobe (R131). -/
def State.plan (s : State) : Plan :=
  { s.placedPlan with
    copies := s.placedPlan.copies ++ s.last.restoring, spools := s.last.spools ++ s.last.restoreSpools }

/-- The copies whose slots stand in program memory: those of a migration's target from the strobe mirroring starts at
(R140 step 2). -/
def State.written (s : State) : Plan :=
  { s.placedPlan with
    copies := s.last.copies ++ (s.last.migs.filter (fun m => m.mirror || m.switched)).flatMap (·.copies) }

/-- Piece i's standing. -/
def State.pieceSt (s : State) (i : Nat) : PieceSt := look (fun _ => PieceSt.none) s.last.pieces i

/-- Give piece i a standing. -/
def State.setPieceSt (s : State) (i : Nat) (p : PieceSt) : State :=
  { s with last := { s.last with pieces := put (fun _ => PieceSt.none) s.last.pieces i p } }

/-- The descriptor of placed piece i. -/
def State.pieceDesc (s : State) (i : Nat) : Option PieceDesc := s.last.pat.bind (fun p => p.pieces[i]?)

/-- Bytes of the spool region in force (R159). -/
def State.spoolRegion (s : State) : Nat := s.regionBase 3 - s.regionBase 2

/-- The usable needles: RESOURCE_MAP without frayed needles and storm-barred pleats (R128). -/
def State.usableNeedles (s : State) : List Nat :=
  (List.range 128).filter (fun n => s.mapBit Obj.resourceMap n && !s.bit (ndlObj n 1) 0 0 && !s.last.barred.contains (n / 8))

/-- What a placement starts from (R128): an edit and a migration too take the maps as they stand when they are decided (R125; DESIGN
CHOICE, assumption 187). -/
def State.placeIn (s : State) : PlaceIn where
  needles := s.usableNeedles
  bobbins := (List.range 128).filter (fun b => s.mapBit Obj.bobbinMap b)
  seed := s.nat Obj.placeSeed
  threshold := s.nat Obj.spoolThreshold
  bwLimit := s.nat Obj.spoolBwLimit
  target := s.obj Obj.marginTarget
  floor := s.obj Obj.marginFloor
  spoolBytes := s.spoolRegion

/-- EFFECTIVE_MAP's eight elements for the usable needles and bobbins (R128, R147). -/
def mapWords (l : List Nat) : List Nat :=
  (List.range 4).map (fun e => (l.filter (fun n => n / 32 == e)).foldl (fun m n => m ||| 2 ^ (n % 32)) 0)

/-! ## Relocation (R119) -/

/-- Replace bits hi–lo of a word by f. -/
def wordField (w : BitVec 64) (hi lo f : Nat) : BitVec 64 := BitVec.ofNat 64 (withBits w.toNat hi lo f)

/-- A word of a piece as it stands in its needle's program: piece-local numbers become the needle's, and SIN or SINF is
written as the link was placed (R119, R122). A read of a removed piece goes on naming the words it published last, where
`gone` says it stood (R90, R131). -/
def relocate (p : Pattern) (pl : Plan) (gone : List (Nat × Nat × Nat)) (c : Copy) (w : BitVec 64) : BitVec 64 :=
  let v := w.toNat
  match v / 2 ^ 56 with
  | 0x90 | 0x92 => wordField w 13 0 (v % 2 ^ 14 + if bits v 34 32 < 4 then c.xBase else c.yBase)
  | 0x93 => wordField w 31 24 (bits v 31 24 + c.blkBase)
  | 0xA0 | 0xA1 => wordField w 7 0 (v % 256 + c.inBase)
  | 0xA2 | 0xA3 => wordField w 7 0 (v % 256 + c.outBase)
  | 0xA4 => wordField w 5 0 (v % 64 + c.seamBase)
  | 0xA5 | 0xA6 =>
    match pl.primary (bits v 30 24) with
    | some src =>
      let op := if (pl.forwardOf p c.piece c.second w).isSome then 0xA6 else 0xA5
      wordField (wordField (wordField w 63 56 op) 30 24 src.needle) 5 0 (v % 64 + src.seamBase)
    | none =>
      match gone.find? (fun e => e.1 == bits v 30 24) with
      | some e => wordField (wordField (wordField w 63 56 0xA5) 30 24 e.2.1) 5 0 (v % 64 + e.2.2)
      | none => wordField w 63 56 0xA5
  | _ => w

/-- The words of needle n's program in slot order, each with its copy. -/
def ownedProgram (p : Pattern) (pl : Plan) (gone : List (Nat × Nat × Nat)) (n : Nat) : List (Copy × BitVec 64) :=
  (pl.inOrder n).flatMap (fun c => (p.code.getD c.piece []).map (fun w => (c, relocate p pl gone c w)))

/-- The words of needle n's program in slot order. -/
def programOf (p : Pattern) (pl : Plan) (gone : List (Nat × Nat × Nat)) (n : Nat) : List (BitVec 64) :=
  (ownedProgram p pl gone n).map (·.2)

/-- Release slots of needle n: seam-out word and slot (R67). -/
def releasesOf (p : Pattern) (pl : Plan) (n : Nat) : List (Nat × Nat) :=
  pl.fwd.filterMap (fun k => (p.conns[k]?).bind (fun c =>
    match pl.primary c.a, pl.releaseSlot p c.a c.index with
    | some x, some r => if x.needle = n then some (x.seamBase + c.index, r.2) else none
    | _, _ => none))

/-- The eight parity bits of a slot: bit i makes byte i of the word even (R53). -/
def slotParity (w : BitVec 64) : BitVec 8 :=
  BitVec.ofNat 8 ((List.range 8).map (fun i =>
    2 ^ i * (((List.range 8).map (fun k => w.toNat / 2 ^ (8 * i + k) % 2)).sum % 2))).sum

/-- The Last writes the slots of a program, each with its parity bits (R53, R63). -/
def Needle.program (nd : Needle) (l : List (BitVec 64)) : Needle :=
  { nd with
    prog := putAll (fun _ => 0) [] 0 l, progPar := putAll (fun _ => 0) [] 0 (l.map slotParity), progLen := l.length }

/-- Write needle n's program memory and release slots anew from a plan. -/
def State.reprogram (s : State) (p : Pattern) (pl : Plan) (n : Nat) : State :=
  s.modNeedle n (fun nd => { nd.program (programOf p pl s.last.gone n) with release := releasesOf p pl n })

/-- SLOT_FIRST of every copy: where the pieces before it on its needle end. -/
def numberSlots : List Copy → List Copy → List Copy
  | _, [] => []
  | seen, c :: t =>
    let c1 := { c with slotFirst := ((seen.filter (fun d => d.needle == c.needle)).map Copy.used).sum }
    c1 :: numberSlots (seen ++ [c1]) t

/-! ## Images (R92, R112, R119–R121) -/

/-- The journalled bytes of a parameter, where they pass the check of R238 (R253). -/
def State.paramKept (s : State) (p : Pattern) (j : Nat) (q : Param) : Option (List Byte) :=
  let t := Ty.ofCode (q.ty % 128)
  ((s.last.kept.find? (fun e => e.1 == p.id && e.2.1 == paramBase + j)).map (·.2.2)).filter (fun l =>
    l.length == t.size * q.words && t.validAll (paramValue q.ty q.min) (paramValue q.ty q.max) q.words l)

/-- The value a parameter starts with: a journalled value of the same pattern, else its default (R112, R253). -/
def State.paramStart (s : State) (p : Pattern) (j : Nat) (q : Param) (k : Nat) : Int :=
  match s.paramKept p j q with
  | some l => let t := Ty.ofCode (q.ty % 128); t.decode (l.drop (t.size * k))
  | none => p.paramDflt q k

/-- The words a new copy's active and pending pages hold (R108, R112): the committed value, and for a group with an
outstanding commit the frozen one; an unbasted parameter's value on both. -/
def State.pageWords (s : State) (j : Nat) (q : Param) (k : Nat) : Word × Word :=
  let key := objKey (paramBase + j) k
  if q.flags.testBit 0 then
    let a := look (objRest s.e16) s.baste.committed key
    let b := ((s.outstanding q.group).bind (fun c => c.frozen.find? (fun e => e.1 == key))).map (·.2)
    (paramWord a, paramWord (b.getD a))
  else (paramWord (s.obj (paramBase + j) k), paramWord (s.obj (paramBase + j) k))

/-- Store a word of an image. -/
def Needle.setWord (nd : Needle) (y : Bool) (e : Nat) (w : Word) : Needle := if y then nd.setY e w else nd.setX e w

/-- Store a word of a piece's private range and of its initial image (R361). -/
def Needle.setImage (nd : Needle) (y : Bool) (e : Nat) (w : Word) : Needle :=
  { nd.setWord y e w with image := put (fun _ => 0) nd.image (memKey y e) w }

/-- The initial image of a private range (R119). -/
def imageRange (p : Pattern) (y : Bool) (base n at_ : Nat) (nd : Needle) : Needle :=
  (List.range n).foldl (fun nd k => nd.setImage y (base + k) (if at_ = 0xFFFFFFFF then 0 else p.init (at_ + k))) nd

/-- The anchor words of a region (R121). -/
def anchorWords (r : Region) : Word × Word :=
  (BitVec.ofNat 32 ((if r.isSpool then 2 ^ 31 else 0) + r.bobbin * 2 ^ 19 + r.off),
   BitVec.ofNat 32 (if r.isSpool then 8192 else r.bytes))

/-- The registers a piece keeps start from zero when it joins a needle (R92, R120). -/
def zeroKeeps (d : PieceDesc) (nd : Needle) : Needle :=
  { nd with
    d := Vector.ofFn (fun i : Fin 16 => if d.keepD.testBit i.val then 0 else nd.d[i]),
    acc := Vector.ofFn (fun i : Fin 4 => if d.keepA.testBit i.val then 0 else nd.acc[i]),
    p := Vector.ofFn (fun i : Fin 7 => if d.keepP.testBit i.val then false else nd.p[i]),
    m := Vector.ofFn (fun i : Fin 8 => if d.keepM.testBit i.val then 0 else nd.m[i]),
    xp := Vector.ofFn (fun i : Fin 4 => if d.keepPtr.testBit i.val then Ptr.start else nd.xp[i]),
    yp := Vector.ofFn (fun i : Fin 4 => if d.keepPtr.testBit (4 + i.val) then Ptr.start else nd.yp[i]) }

/-- The registers of a needle whose program has no predecessor there, at their start values (R27, R92). -/
def Needle.startRegs (nd : Needle) : Needle :=
  { nd with
    d := Needle.start.d, acc := Needle.start.acc, p := Needle.start.p, m := Needle.start.m,
    xp := Needle.start.xp, yp := Needle.start.yp }

/-- A needle whose program goes: it stops, and what the Last keeps of the program goes too; registers, memories, windows and
the stitch counter stay (R27, R129, R400). -/
def Needle.unloaded (nd : Needle) : Needle :=
  { nd with
    run := none, wait := .none, fill := .none, progLen := 0, blocks := [], release := [], fwd := [], golden := [], image := [],
    stateWords := [], placed := false }

/-- A needle as a program with no predecessor there finds it (R27, R65, R66); its stitch counter is loaded when its first run
starts (R400). -/
def Needle.anew (nd : Needle) : Needle := { Needle.start with stc := nd.stc }

/-- Clear consecutive words of a window. -/
def clearWords (m : Sparse Word) (lo n : Nat) : Sparse Word := keep (fun k => decide (k < lo) || decide (lo + n ≤ k)) m

/-- The block table entries of a copy (R58), page A active. -/
def blockEntries (c : Copy) : List ParamBlock :=
  c.blocks.zipIdx.map (fun e => ⟨c.blkBase + e.2, e.1.y, e.1.a, e.1.b, e.1.size, c.piece, false, 0⟩)

/-- Write the pages of a copy's blocks, and their golden twins (R104, R108). -/
def State.writePages (s : State) (p : Pattern) (c : Copy) : State :=
  (p.params.zipIdx.filter (fun e => e.1.piece == c.piece)).foldl (fun s e =>
    match c.blocks[e.1.block]? with
    | none => s
    | some b => (List.range e.1.words).foldl (fun s k =>
        let w := s.pageWords e.2 e.1 k
        s.modNeedle c.needle (fun nd =>
          (nd.setPage b.y (b.a + e.1.offset + k) w.1).setPage b.y (b.b + e.1.offset + k) w.2)) s) s

/-- A new copy's words on its needle (R92, R119–R121): private ranges, anchors, parameter blocks and pages, the words its
stores reach, its windows and registers at their start. -/
def State.writeCopy (s : State) (p : Pattern) (c : Copy) : State :=
  match p.pieces[c.piece]? with
  | none => s
  | some d =>
    let stores := (p.stores.getD c.piece []).map (fun r =>
      (⟨r.1, r.2.1 + (if r.1 then c.yBase else c.xBase), r.2.2 + (if r.1 then c.yBase else c.xBase), c.piece⟩ : WordRange))
    let s1 := s.modNeedle c.needle (fun nd =>
      let nd1 := imageRange p true c.yBase d.yWords d.yInit (imageRange p false c.xBase d.xWords d.xInit nd)
      let nd2 := c.regions.foldl (fun nd r =>
        match p.mems[r.rec_]? with
        | none => nd
        | some m =>
          let w := anchorWords r
          (nd.setImage false (c.xBase + m.anchor) w.1).setImage false (c.xBase + m.anchor + 1) w.2) nd1
      { zeroKeeps d nd2 with
        blocks := nd2.blocks.filter (fun b => b.piece != c.piece) ++ blockEntries c,
        stateWords := nd2.stateWords.filter (fun r => r.piece != c.piece) ++ stores,
        outlet := clearWords nd2.outlet c.outBase d.outlets,
        seam := clearWords nd2.seam c.seamBase d.seams, pub := clearWords nd2.pub c.seamBase d.seams,
        prev := clearWords nd2.prev c.seamBase d.seams,
        seamBad := nd2.seamBad.filter (fun m => decide (m.j < c.seamBase) || decide (c.seamBase + d.seams ≤ m.j)), inlet := clearWords nd2.inlet c.inBase d.inlets })
    s1.writePages p c

/-- The bytes of a range of cells are zeroed, parity and all (R92, R148). -/
def State.zeroBob (s : State) (lo hi : Nat) : State :=
  { s with bob := s.bob.filter (fun e => decide (e.1 < lo) || decide (hi ≤ e.1)),
           bobBad := s.bobBad.filter (fun a => decide (a < lo) || decide (hi ≤ a)) }

/-- The Last zeroes the regions of a copy, its windows and its spools, and hands its bobbins to its needle (R92, R127,
R151). -/
def State.zeroCopy (s : State) (hand : State → Nat → Nat → State) (c : Copy) (spools : List Spool) : State :=
  let s1 := c.regions.foldl (fun s r =>
    hand (s.zeroBob (r.bobbin * 524288 + r.off) (r.bobbin * 524288 + r.off + r.bytes)) r.bobbin c.needle) s
  (spools.filter (fun q => q.piece == c.piece && q.second == c.second)).foldl
    (fun s q => s.zeroPm (s.regionBase 2 + q.base) (s.regionBase 2 + q.base + 4 * q.words)) s1

/-- The routes of a copy: pool channels to inlet words (true) or from outlet words (R122). -/
def routesOf (p : Pattern) (c : Copy) (inlet : Bool) : List Route :=
  (p.conns.filter (fun e => e.kind == (if inlet then 0 else 1) && e.b == c.piece)).map
    (fun e => ⟨e.a, c.needle, (if inlet then c.inBase else c.outBase) + e.index, c.piece, c.second⟩)

/-- The routes of a copy come into force. -/
def State.addRoutes (s : State) (p : Pattern) (c : Copy) : State :=
  { s with fab := { s.fab with routesIn := s.fab.routesIn ++ routesOf p c true,
                               routesOut := s.fab.routesOut ++ routesOf p c false } }

/-- The routes of a piece end. -/
def State.dropRoutes (s : State) (i : Nat) : State :=
  { s with fab := { s.fab with routesIn := s.fab.routesIn.filter (fun r => r.piece != i),
                               routesOut := s.fab.routesOut.filter (fun r => r.piece != i) } }

/-! ## Reports (R93, R130, R146, R147) -/

/-- End a placement or an edit with a code of R130. -/
def State.placeEnd (s : State) (e : PlaceErr) : State :=
  ((({ s with last := { s.last with stage := 0 } } : State).setNat Obj.placeStatus 0
    (e.code % 256 + e.enc % 256 * 256 + e.piece % 4096 * 65536)).setNat Obj.placeDetail 0 e.detail)

/-- BUSY of PLACE_STATUS reads 1. -/
def State.placeBusy (s : State) : State := s.setBit Obj.placeStatus 0 31 true

/-- Packed bitmap of bobbins, as little-endian bytes. -/
def bobbinBits (l : List Nat) : List Byte := leBytes 16 (l.foldl (fun m b => m ||| 2 ^ b) 0)

/-- A piece's share of its needle's budget in slot times: from the end of the slot before its first to the end of its
last. -/
def Plan.share (p : Pattern) (pl : Plan) (c : Copy) : Nat :=
  let t := (((pl.pleatTimes p (c.needle / 8) 8).find? (fun e => e.1 == c.needle)).map (·.2)).getD []
  t.getD (c.slotFirst + c.slots - 1) 0 - (if c.slotFirst = 0 then 0 else t.getD (c.slotFirst - 1) 0)

/-- The 64-byte entry of a piece in the placement table (R146). -/
def State.tableEntry (s : State) (p : Pattern) (pl : Plan) (i : Nat) (d : PieceDesc) : List Byte :=
  let st := s.pieceSt i
  let first := s.last.copies.find? (fun c => c.piece == i && !c.second)
  let second := s.last.copies.find? (fun c => c.piece == i && c.second)
  let shown := st.state == 1 || st.state == 2 || st.state == 3
  let num (c : Option Copy) (f : Copy → Nat) (none_ : Nat) : Nat := if shown then (c.map f).getD none_ else none_
  let sp := s.last.spools.filter (fun q => q.piece == i)
  let page (y : Bool) : Nat := num first (fun c => ((c.blocks.find? (fun b => b.y == y)).map (·.a)).getD 0xFFFF) 0xFFFF
  let flags := (if st.valid then 1 else 0) + (if d.pinned then 2 else 0) + (if d.priv then 4 else 0) + (if st.forced then 8 else 0)
  leBytes 1 (num first (·.needle) 0xFF) ++ leBytes 1 (num second (·.needle) 0xFF) ++ leBytes 1 st.state ++ leBytes 1 flags
    ++ leBytes 2 (num first (·.slotFirst) 0) ++ leBytes 2 (num first (·.slots) 0)
    ++ leBytes 2 (num first (·.xBase) 0) ++ leBytes 2 (num first (fun _ => d.xWords) 0)
    ++ leBytes 2 (num first (·.yBase) 0) ++ leBytes 2 (num first (fun _ => d.yWords) 0)
    ++ bobbinBits (if shown then ((s.last.copies.filter (fun c => c.piece == i)).flatMap (·.regions)).map (·.bobbin) else [])
    ++ leBytes 2 (if shown then sp.length else 0) ++ leBytes 2 (num second (·.slotFirst) 0)
    ++ leBytes 4 (if shown then ((sp.map (fun q => 4 * q.words)).sum + 1023) / 1024 else 0)
    ++ leBytes 2 (num first (fun c => budgetTape p.rate (pl.share p c)) 0)
    ++ leBytes 2 (page false) ++ leBytes 2 (page true) ++ leBytes 2 0 ++ leBytes 8 (st.lastMove.getD allOnes64) ++ leBytes 8 0

/-- Table number k, its 64 entries (R146). -/
def State.tableBlob (s : State) (k : Nat) : List Byte :=
  match s.last.pat with
  | none => List.replicate 4096 0
  | some p =>
    let pl := s.placedPlan
    (List.range 64).flatMap (fun e =>
      match p.pieces[64 * k + e]? with
      | some d => s.tableEntry p pl (64 * k + e) d
      | none => List.replicate 64 0)

/-- Bring PLACE_TABLE up to date. -/
def State.showTable (s : State) : State :=
  (List.range 64).foldl (fun s k => s.setBlob (0xE100 + k) (s.tableBlob k)) s

/-- Bring PATH_LATENCY, FREE_SLOTS, FREE_X, FREE_Y, FREE_BOBBIN, SPOOL_BW_RESERVED, FREE_SPOOL_KIB, NDL_BUDGET and
NDL_SLOTS up to date; while the safety matrix runs, its needles keep their own. -/
def State.showFree (s : State) : State :=
  let pl := s.placedPlan
  let rate := s.nat Obj.stitchRate
  let p : Pattern := s.last.pat.getD ⟨rate, 0, [], 0, 0, [], [], [], [], [], [], []⟩
  let words (n : Nat) (y : Bool) : Nat := ((pl.usedWords p n y).map (·.2)).sum
  let keep (n : Nat) : Bool := s.last.safety && decide (n < 8)
  let here : Plan := { pl with copies := s.last.copies }
  let s1 := (List.range 128).foldl (fun s n =>
    let used := ((pl.on n).map Copy.used).sum
    let s := if keep n then s else s.setNat (ndlObj n 0xA) 0 used
    let s := s.setNat Obj.freeSlots n (slotLimit rate - used)
    let s := (s.setNat Obj.freeX n (16384 - words n false)).setNat Obj.freeY n (16384 - words n true)
    s.setNat Obj.freeBobbin n (131072 - ((here.usedBytes [] n).map (·.2)).sum / 4)) s
  let s2 := (List.range 16).foldl (fun s q => (pl.budgets p q).foldl
    (fun s e => if keep e.1 then s else s.setNat (ndlObj e.1 9) 0 (budgetTape p.rate e.2)) s) s1
  let s3 := (List.range 1024).foldl (fun s x =>
    s.setNat Obj.pathLatency x (if p.paths.contains x then pl.pathLatency p x else 0xFFFF)) s2
  let used := (pl.spools.map (fun q => 4 * q.words)).sum
  (s3.setNat Obj.spoolBwReserved 0 (pl.spools.length * spoolBps p.rate / 1000)).setNat Obj.freeSpoolKib 0
    ((s.spoolRegion - used) / 1024)

/-- Bring HISTORY_MAP and HISTORY_ALL up to date; a shed piece stays placed (R90, R93). -/
def State.showHistory (s : State) : State :=
  let s1 := (List.range 128).foldl (fun s e =>
    s.setNat Obj.historyMap e
      (((List.range 32).filter (fun b => (s.pieceSt (32 * e + b)).valid)).foldl (fun m b => m ||| 2 ^ b) 0)) s
  let placed := s.last.pieces.filter (fun e => e.2.state == 1 || e.2.state == 2 || e.2.state == 3)
  s1.setNat Obj.historyAll 0 (if !placed.isEmpty && placed.all (fun e => e.2.valid) then 1 else 0)

/-- Bring every report of the placement up to date. -/
def State.showPlacement (s : State) : State := ((s.showFree.showHistory).showTable).showAll

/-- ARG1 of a Last event: source and target needle, 0xFF for none (R366). -/
def moveArg (src dst : Nat) : Nat := src + 256 * dst

/-! ## Full placement (R129, R395, R396) -/

/-- The signature of a pattern holds under the pattern key its signature block names in the image's manifest (R117, R320). -/
def State.patSigOk (s : State) (m : Sparse Byte) : Bool :=
  let n := patLength m - 104
  let block := lookAll (fun _ => (0 : Byte)) m n 104
  let i := (block.getD 0 0).toNat
  decide (i < manField s.boot.manifest 0x163 1) &&
    ecdsaOk (patKey s.boot.manifest i) (sha384 (lookAll (fun _ => (0 : Byte)) m 0 n)) (block.drop 8)

/-- The checks of R396, the signature and its key among them, and the placement of R127, by PLACE_SEED, the spool
objects and the margins as they stand at the decision (DESIGN CHOICE, assumption 119). -/
def State.decide_ (s : State) (m : Sparse Byte) : Except PlaceErr (Pattern × Plan) :=
  match checkLength m with
  | some e => .error e
  | none =>
    if !s.patSigOk m then .error ⟨1, 0, 0, 0⟩
    else
      match [fun (_ : Unit) => checkHeader m, fun _ => s.checkRate (rdLe m 6 1), fun _ => checkTables m].findSome?
          (fun f => f ()) with
      | some e => .error e
      | none =>
        let p := readPattern m
        let raw (k : Nat) : List (BitVec 64) := ((p.pieces[k]?).map (rawCode m)).getD []
        match checkPieces p raw p.pieces.zipIdx with
        | .error e => .error e
        | .ok codes =>
          match checkParamTable m p.pieces with
          | some e => .error e
          | none =>
            let q := { p with code := codes.map (·.1), stores := codes.map (·.2) }
            let needles := (List.range 128).filter (fun n => (s.last.effMap.getD (n / 32) 0).testBit (n % 32))
            let bobbins := (List.range 128).filter (fun n => (s.last.effMap.getD (4 + n / 32) 0).testBit (n % 32))
            match placeAll q { s.placeIn with needles := needles, bobbins := bobbins } ⟨[], [], []⟩ (copyOrder q) with
            | .error e => .error e
            | .ok pl => .ok (q, { pl with copies := numberSlots [] pl.copies })

/-- Step 1: the staged bytes are copied to the pending-pattern area, and the effective map is taken (R128, R129). -/
def State.placeFull (s : State) : State :=
  let n := min stageSize (leNat (s.pmBytes (s.stageBase + 8) 4))
  let lo := s.stageBase
  let copy : Sparse Byte := (s.pm.filter (fun e => decide (lo ≤ e.1) && decide (e.1 < lo + max n 12))).map (fun e => (e.1 - lo, e.2))
  let s1 : State := { s with last := { s.last with
    stage := 1, pending := copy, startedAt := s.now,
    effMap := mapWords s.usableNeedles ++ mapWords ((List.range 128).filter (fun b => s.mapBit Obj.bobbinMap b)) } }
  ((s1.last.effMap.zipIdx).foldl (fun s e => s.setNat Obj.effectiveMap e.2 e.1) s1).placeBusy

/-- Step 2 ends: a refusal, or T0 falls at the next strobe (R129). -/
def State.placementDecided (s : State) : State :=
  if s.last.stage ≠ 1 then s
  else
    let s1 := s.setNat Obj.placeTime 0 ((s.now - s.last.startedAt) / 1000000)
    match s.decide_ s.last.pending with
    | .error e => s1.placeEnd e
    | .ok (p, pl) =>
      { s1 with
        last := { s1.last with stage := 2, threshold := s1.nat Obj.spoolThreshold, next := some p, nextCopies := pl.copies, nextSpools := pl.spools, nextFwd := pl.fwd },
        fab := { s1.fab with due := s1.fab.due ++ [.t0] } }

/-- Pattern parameters become undefined: shadows, committed values and pending commits' members go (R233). -/
def State.dropParams (s : State) : State :=
  let n := ((s.last.pat.map (·.params.length)).getD 0)
  let isParam (k : Nat) : Bool := decide (paramBase ≤ k / 2048) && decide (k / 2048 < 0x200000)
  let s1 : State := { s with
    regs := keep (fun k => !isParam k) s.regs,
    baste := { s.baste with committed := keep (fun k => !isParam k) s.baste.committed } }
  (List.range n).foldl (fun s j => s.touch (paramBase + j)) (s1.setNat Obj.dictHeapFree 0 (heapBytes / 1024))

/-- The placed pattern's work ends: its needles stop, its routes go, its pieces and parameters with them (R91, R129,
R233). The needles of the safety matrix are left alone. A MOVE or REBALANCE not yet decided ends with PIECE (R130). -/
def State.dropPattern (s : State) : State :=
  let old := distinct (s.last.copies.map (·.needle) ++ (s.last.migs.flatMap (·.copies)).map (·.needle))
  let held := ((s.last.copies ++ s.last.migs.flatMap (·.copies)).flatMap (·.regions)).map (·.bobbin)
  let s1 := s.dropParams
  let s2 := old.foldl (fun s n => s.modNeedle n Needle.unloaded) s1
  let s3 := match s2.last.moves with
    | [] => s2
    | (i, _) :: _ => s2.placeEnd ⟨14, 0, i, 0⟩
  { s3 with
    fab := { s3.fab with routesIn := [], routesOut := [] },
    last := { s3.last with
      pat := none, copies := [], pieces := [], spools := [], migs := [], fwd := [], requests := [],
      moves := [], restoring := [], restoreSpools := [], twinSeen := [], pieceStart := [], gone := [],
      freed := distinct (held ++ s3.last.freed) } }

/-- The safety matrix stops: its needles hold no program (R129). -/
def State.stopSafety (s : State) : State :=
  let s1 := (List.range 8).foldl (fun s n => if (s.last.copies.any (fun c => c.needle == n)) then s
    else s.modNeedle n Needle.unloaded) s
  { s1 with last := { s1.last with safety := false } }

/-- The Last takes bobbins to zero them: all but those of the safety matrix while it runs (R149, R151, R153). -/
def State.takeBobbins (s : State) (hand : State → Nat → Nat → State) (l : List Nat) : State :=
  (l.filter (fun b => !(s.last.safety && decide (b < 8)))).foldl (fun s b => hand s b 135) s

/-- Strobe T0 (R112, R129): commits are cancelled, the old pattern stops; the pleats the new one needs are woken; the Last
takes the bobbins it is to zero; a raise to 780 mV is made for a 384 kHz pattern (R87). -/
def State.strobeT0 (s : State) : State :=
  let s1 := (s.cancelAll 2).dropPattern
  let needs0 := s1.last.nextCopies.any (fun c => c.needle / 8 == 0)
  let s2 := if s1.level = 1 && needs0 then s1.stopSafety else s1
  let s3 := (({ s2 with last := { s2.last with stage := 3 } } : State)).takeBobbins State.handAtStrobe
    (distinct ((s2.last.nextCopies.flatMap (·.regions)).map (·.bobbin)))
  let s4 := if (s3.last.next.any (fun p => p.rate == 6)) && decide (s3.nat Obj.vcoreNow < 780) then
      ({ s3 with last := { s3.last with waitRaise := true } } : State).setVcore 780
    else s3
  s4.adjustPower.showPlacement

/-- The shadows and committed values a new pattern's parameters start with (R112, R233). -/
def State.startParams (s : State) (p : Pattern) : State :=
  p.params.zipIdx.foldl (fun s e =>
    (List.range e.1.words).foldl (fun s k =>
      let v := s.paramStart p e.2 e.1 k
      let key := objKey (paramBase + e.2) k
      { s with regs := put (objRest s.e16) s.regs key v,
               baste := { s.baste with committed := put (objRest s.e16) s.baste.committed key v } }) s) s

/-- At T1 a new pattern's parameters become defined, and hold their heap space (R233, R241, R254). -/
def State.defineParams (s : State) (p : Pattern) : State :=
  (List.range p.params.length).foldl (fun s j => s.touch (paramBase + j))
    (s.setNat Obj.dictHeapFree 0 ((heapBytes - (p.params.map paramHeap).sum) / 1024))

/-- Mapped bobbins no piece uses go to their needles, and unmapped ones that the placement leaves out to nobody (R151); a bobbin that
TRIM entry gave to its needle stays with it (R153; DESIGN CHOICE, assumption 193). -/
def State.homeBobbins (s : State) (used : List Nat) : State :=
  let s1 := (List.range 128).foldl (fun s b =>
    if used.contains b then s
    else if s.mapBit Obj.bobbinMap b then s.handOver b b
    else if s.last.freed.contains b then s.handOver b 255 else s) s
  { s1 with last := { s1.last with freed := [] } }

/-- Step 4 ends: programs, images, pages and anchors are written, history is zeroed and owners set, and T1 falls at the
next strobe, provided every pleat is ready and the raise is acknowledged (R129, R352). -/
def State.placementLoaded (s : State) : State :=
  if s.last.stage ≠ 3 || s.last.waitRaise || !s.pleatsReady || s.pw.hush || s.level = 2 then s
  else
    match s.last.next with
    | none => s
    | some p =>
      let pl : Plan := ⟨s.last.nextCopies, s.last.nextFwd, s.last.nextSpools⟩
      let needles := distinct (pl.copies.map (·.needle))
      let s0 : State := { s with last := { s.last with pat := some p } }
      let s1 := s0.startParams p
      let s2 := needles.foldl (fun s n => (s.modNeedle n Needle.anew).reprogram p pl n) s1
      let s3 := pl.copies.foldl (fun s c => (s.writeCopy p c).zeroCopy State.handOver c pl.spools) s2
      let s4 := s3.homeBobbins ((pl.copies.flatMap (·.regions)).map (·.bobbin))
      { s4 with last := { s4.last with stage := 4, pat := none },
                fab := { s4.fab with due := s4.fab.due ++ [.t1] } }

/-- A piece starts as newly placed at stitch k: its standing, its routes, and its needle's program runs (R93, R129). Its seam
words of stitch k − 1 count as published, so a SIN of its first run reads zeros and holds nothing (R66; DESIGN CHOICE,
assumption 113). -/
def State.startCopy (s : State) (p : Pattern) (c : Copy) : State :=
  let s1 := (s.addRoutes p c).modNeedle c.needle (fun nd => { nd with
    placed := true, pubAt := if nd.pubAt.isNone then some (s.stitch - 1) else nd.pubAt })
  s1.setPieceSt c.piece { PieceSt.none with state := 1 }

/-- Pieces with no history are valid at their first strobe (R93). -/
def State.validAtOnce (s : State) (i : Nat) : State :=
  match s.pieceDesc i with
  | some d => if d.history = 0 then s.setPieceSt i { s.pieceSt i with valid := true } else s
  | none => s

/-- PLACE_DIGEST: the first 8 bytes of the SHA-384 of the placement table, as a little-endian number (R128). -/
def State.placeDigest (s : State) : Nat :=
  leNat ((sha384 ((List.range 64).flatMap (fun k => s.blob (0xE100 + k)))).take 8)

/-- Strobe T1 of stitch k: the new pattern's first stitch at its rate, in FULL service (R4, R129); PLACE_DIGEST is of the
table before HISTORY_VALID rises (DESIGN CHOICE, assumption 120). -/
def State.strobeT1 (s : State) (k : Nat) : State :=
  match s.last.next with
  | none => s
  | some p =>
    let copies := s.last.nextCopies
    let s1 : State := { s with
      last := { s.last with
        stage := 0, next := none, nextCopies := [], nextSpools := [], nextFwd := [], pat := some p, gone := [],
        copies := copies, fwd := s.last.nextFwd, spools := s.last.nextSpools, pieces := [],
        pieceStart := (List.range p.pieces.length).map (fun i => (i, k)) },
      fab := { s.fab with changedInFit := true, routesIn := [], routesOut := [] } }
    let s2 := if s1.last.safety then s1.stopSafety else s1
    let s3 := ((s2.setLevel 0).setRate p.rate).defineParams p
    let s4 := copies.foldl (fun s c => s.startCopy p c) s3
    let s5 := (s4.setNat Obj.patId 0 p.id).showPlacement
    let s6 := s5.setNat Obj.placeDigest 0 s5.placeDigest
    let s7 := (List.range p.pieces.length).foldl (fun s i =>
      let n := ((copies.find? (fun c => c.piece == i && !c.second)).map (·.needle)).getD 0xFF
      (s.validAtOnce i).logAt 0x20 Rsn.placement k i (moveArg 0xFF n) 0) s6
    (((s7.placeEnd ⟨0, 0, 0, 0⟩).showHistory.showTable).showPower).adjustPower

/-- The raise of a placement failed twice: the placement ends with RATE, and TRIM is entered at the next strobe (R87). -/
def State.raiseFailed (s : State) : State :=
  if s.last.waitRaise then
    let s1 : State := { s with
      last := { s.last with waitRaise := false, next := none, nextCopies := [], nextSpools := [], nextFwd := [] },
      fab := { s.fab with due := s.fab.due ++ [.trim] } }
    s1.placeEnd rateErr
  else s

end Sys2Proof.Machine
end

