-- ==== Sys2Proof/Machine/Migrate.lean ====
section
/-!
DEFINITION. Moving and stopping work (R90, R131, R137–R145): removal, sheds and restores, the choice of a migration's
target, the capture and the switch, forced switches, and the requests the Last decides.
-/

namespace Sys2Proof.Machine

/-- Log an event of the Last for a piece. -/
def State.lastEvent (s : State) (code piece src dst reason : Nat) : State := s.log code piece (moveArg src dst) 0 reason

/-- The first copy's needle of a piece; 0xFF for none. -/
def State.needleOf (s : State) (i : Nat) : Nat :=
  ((s.last.copies.find? (fun c => c.piece == i && !c.second)).map (·.needle)).getD 0xFF

/-- SLOT_FIRST of a copy: the slots of its needle before it. -/
def Plan.slotOf (pl : Plan) (c : Copy) : Nat :=
  ((pl.copies.filter (fun d => d.needle == c.needle && decide (d.slotFirst < c.slotFirst))).map Copy.used).sum

/-- Close the gaps in the needles' programs; slots that are reserved for a migration and not yet written come after them
(R140). -/
def State.renumber (s : State) : State :=
  let f (c : Copy) : Copy := { c with slotFirst := s.written.slotOf c }
  let g (c : Copy) : Copy := { c with slotFirst := ((s.written.on c.needle).map Copy.used).sum +
    (({ s.placedPlan with copies := (s.last.migs.filter (fun m => !m.mirror && !m.switched)).flatMap (·.copies) } : Plan).slotOf c) }
  { s with last := { s.last with
    copies := s.last.copies.map f,
    migs := s.last.migs.map (fun m => { m with copies := m.copies.map (if m.mirror || m.switched then f else g) }) } }

/-- A program stands on needle n: of a placed piece, or of a migration whose mirroring has begun (R140). -/
def State.holdsProgram (s : State) (n : Nat) : Bool := s.written.copies.any (fun c => c.needle == n)

/-- Of the first r slots of needle n's program as its run found it, those of copies that still stand there: a run in progress
goes on with the slots that are left, and slots appended to its program are not its own (DESIGN CHOICE, assumption 128). -/
def Plan.slotsLeft (pl : Plan) (n r : Nat) : Nat := ((pl.on n).map (fun c => min c.slots (r - c.slotFirst))).sum

/-- Placed pieces do not run: in HUSH, in TEST, and after a test until the pieces start again (R349, R354). -/
def State.piecesRest (s : State) : Bool := s.pw.hush || s.level == 2 || s.pw.reload

/-- Write anew the programs of the needles given, from the placement in force; none starts to run while the placed pieces
rest. -/
def State.reprogramAll (s : State) (l : List Nat) : State :=
  match s.last.pat with
  | none => s
  | some p =>
    l.foldl (fun t n =>
      let held := t.holdsProgram n
      (t.reprogram p t.written n).modNeedle n (fun nd => { nd with
        placed := held && !t.piecesRest,
        run := if held then nd.run.map (fun r => { r with
          retired := s.written.slotsLeft n r.retired, len := s.written.slotsLeft n r.len }) else none,
        wait := if held then nd.wait else .none })) s.renumber

/-- The needles that hold placed copies. -/
def State.usedNeedles (s : State) : List Nat := distinct (s.last.copies.map (·.needle))

/-- SEAM records that touch a piece. -/
def Pattern.touches (p : Pattern) (i k : Nat) : Bool := (p.conns[k]?).any (fun c => c.kind == 2 && (c.a == i || c.b == i))

/-- Forward reads of a piece become reads of what its needle last published. -/
def State.unlink (s : State) (i : Nat) : State :=
  match s.last.pat with
  | none => s
  | some p => { s with last := { s.last with fwd := s.last.fwd.filter (fun k => !p.touches i k) } }

/-- A copy of piece i migrates: its migration has not switched. -/
def State.migrating (s : State) (i : Nat) : Bool :=
  s.last.migs.any (fun m => !m.switched && m.copies.any (fun c => c.piece == i))

/-- The standing of a piece whose migration has ended or switched: placed, unless its other copy migrates or it is shed. -/
def State.settle (s : State) (i : Nat) : State :=
  let st := s.pieceSt i
  if st.state = 2 && !s.migrating i then s.setPieceSt i { st with state := 1 } else s

/-- Migrations of a piece end at the source (R90, R131): a copy that had been captured runs on there. -/
def State.endMigs (s : State) (i : Nat) : State :=
  let gone := (s.last.migs.filter (fun m => !m.switched && m.copies.any (fun c => c.piece == i))).flatMap (·.copies)
  let same (a : Copy) (p : Nat) (b : Bool) : Bool := a.piece == p && a.second == b
  let s1 : State := { s with last := { s.last with
    migs := s.last.migs.filter (fun m => m.switched || !m.copies.any (fun c => c.piece == i)),
    copies := s.last.copies.map (fun c =>
      if gone.any (fun g => same g c.piece c.second) && (s.pieceSt c.piece).state != 3 then { c with live := true } else c) } }
  let s2 : State := match s.last.pat with
    | none => s1
    | some p => { s1 with fab := { s1.fab with
        routesIn := s1.fab.routesIn.filter (fun r => !gone.any (fun g => same g r.piece r.second)) ++
          (s1.last.copies.filter (fun c => c.live && gone.any (fun g => same g c.piece c.second))).flatMap (fun c => routesOf p c true) } }
  let s3 := gone.foldl (fun s c => s.settle c.piece) s2
  if gone.isEmpty then s else s3.reprogramAll (distinct (gone.map (·.needle)))

/-- The SEAM records that can stay forward reads, taken in order. -/
def Plan.relink (p : Pattern) (pl : Plan) (want : List Nat) : Plan :=
  want.foldl (fun pl k =>
    if !pl.fwd.contains k && (p.conns[k]?).any (fun c => pl.canForward p c) then { pl with fwd := pl.fwd ++ [k] } else pl) pl

/-! ## Sheds and removals (R90, R131) -/

/-- The seam words of a piece that stops keep what was published last (R90). -/
def State.holdSeams (s : State) (i : Nat) : State :=
  let n := ((s.pieceDesc i).map (·.seams)).getD 0
  (s.last.copies.filter (fun c => c.piece == i)).foldl (fun s c =>
    s.modNeedle c.needle (fun nd => { nd with
      seam := copyRange nd.pub nd.seam c.seamBase c.seamBase n
      seamBad := nd.seamBad.filter (fun m => m.bank != .own || decide (m.j < c.seamBase) || decide (c.seamBase + n ≤ m.j)) ++
        ((List.range n).filter (fun i => nd.seamBadAt .pub (c.seamBase + i))).map (fun i => ⟨.own, c.seamBase + i⟩) })) s

/-- A piece stops: its migrations and its routes end, its slots are gated, its seam words are held, and its history is no
longer valid (R90, R93). -/
def State.stopPiece (s : State) (i state : Nat) : State :=
  let s1 := (s.endMigs i).dropRoutes i
  let s2 : State := { s1 with last := { s1.last with
    copies := s1.last.copies.map (fun c => if c.piece = i then { c with live := false } else c) } }
  let st := s2.pieceSt i
  (s2.setPieceSt i { st with state := state, valid := false, runs := 0 }).holdSeams i

/-- Shed a piece at the strobe of stitch k; it stays placed (R90). -/
def State.shedPiece (s : State) (k i : Nat) : State :=
  let n := s.needleOf i
  ((s.stopPiece i 3).bump Obj.shedHem).logAt 0x25 Rsn.emergency k i (moveArg n 0xFF) 0

/-- The resources of a piece are freed: its slots, words, windows, bobbins and spools (R131, R151). -/
def State.freePiece (s : State) (i : Nat) : State :=
  let mine := s.last.copies.filter (fun c => c.piece == i)
  let rest := s.last.copies.filter (fun c => c.piece != i)
  let kept := (rest.flatMap (·.regions)).map (·.bobbin)
  let freed := (distinct ((mine.flatMap (·.regions)).map (·.bobbin))).filter (fun b => !kept.contains b)
  let at_ := (mine.filter (fun c => !c.second)).map (fun c => (i, c.needle, c.seamBase))
  let s1 : State := { s with last := { s.last with
    copies := rest, spools := s.last.spools.filter (fun q => q.piece != i),
    gone := at_ ++ s.last.gone.filter (fun e => e.1 != i || at_.isEmpty) } }
  let s2 := freed.foldl (fun s b => s.handAtStrobe b (if s.mapBit Obj.bobbinMap b then b else 255)) s1
  let s3 := mine.foldl (fun s c => s.modNeedle c.needle (fun nd => { nd with
    blocks := nd.blocks.filter (fun b => b.piece != i), stateWords := nd.stateWords.filter (fun r => r.piece != i) })) s2
  (s3.unlink i).reprogramAll (distinct (mine.map (·.needle) ++ s3.usedNeedles))

/-- Remove a piece at a strobe (R131), for a reason. -/
def State.removePiece (s : State) (i reason : Nat) : State :=
  let n := s.needleOf i
  let s1 := ((s.stopPiece i 4).freePiece i).lastEvent 0x27 i n 0xFF reason
  s1.adjustPower.showPlacement

/-! ## Restores (R131) -/

/-- RESTORE (R131): decided with its request, it starts at the first strobe with its pleats ready (DESIGN CHOICE, assumption 189). -/
def State.restorePiece (s : State) (i : Nat) : State :=
  let st := (s.pieceSt i).state
  match s.last.pat, s.pieceDesc i with
  | some p, some d =>
    if st ≠ 3 ∧ st ≠ 4 then s.placeEnd ⟨14, 0, i, 0⟩
    else
      let pl := s.plan
      let base : Plan := ⟨pl.copies.filter (fun c => c.piece != i), pl.fwd.filter (fun k => !p.touches i k),
        pl.spools.filter (fun q => q.piece != i)⟩
      let pin : PlaceIn := { s.placeIn with threshold := s.last.threshold }
      match placeAll p pin base ((i, false) :: if d.twin then [(i, true)] else []) with
      | .error _ => (s.lastEvent 0x23 i (s.needleOf i) 0xFF Rsn.edit).placeEnd ⟨13, 0, i, 0⟩
      | .ok q =>
        let s1 : State := { s with
          last := { s.last with
            stage := 5, restoring := q.copies.filter (fun c => c.piece == i),
            restoreSpools := q.spools.filter (fun x => x.piece == i), nextFwd := q.fwd },
          fab := { s.fab with due := s.fab.due ++ [.restore i] } }
        let held := (base.copies.flatMap (·.regions)).map (·.bobbin)
        s1.placeBusy.adjustPower.takeBobbins State.handOver
          (distinct ((((q.copies.filter (fun c => c.piece == i)).flatMap (·.regions)).map (·.bobbin)).filter (fun b => !held.contains b)))
  | _, _ => s.placeEnd ⟨14, 0, i, 0⟩

/-- The strobe of a restore: the piece starts as newly placed at stitch k, once its pleats are ready and placed pieces run
(R92, R93, R131, R349, R354). -/
def State.restoreAt (s : State) (k i : Nat) : State :=
  if !s.pleatsReady || s.piecesRest then { s with fab := { s.fab with due := s.fab.due ++ [.restore i] } }
  else
    match s.last.pat with
    | none => s.placeEnd ⟨14, 0, i, 0⟩
    | some p =>
      let copies := s.last.restoring
      let s0 := s.freePiece i
      let s1 := (copies.filter (fun c => !s0.holdsProgram c.needle)).foldl
        (fun s c => s.modNeedle c.needle Needle.startRegs) s0
      let last := s1.last.copies.length * 8192
      let s2 : State := { s1 with last := { s1.last with
        copies := s1.last.copies ++ copies.map (fun c => { c with slotFirst := c.slotFirst + last + 8192 }),
        spools := s1.last.spools ++ s1.last.restoreSpools,
        fwd := (({ s1.placedPlan with copies := s1.last.copies ++ copies } : Plan).relink p
          (s1.last.nextFwd.filter (p.touches i))).fwd,
        restoring := [], restoreSpools := [], nextFwd := [], gone := s1.last.gone.filter (fun e => e.1 != i),
        pieceStart := (i, k) :: s1.last.pieceStart.filter (fun e => e.1 != i) } }
      let s3 := copies.foldl (fun s c => (s.writeCopy p c).zeroCopy State.handAtStrobe c s.last.spools) s2
      let s4 := s3.reprogramAll s3.usedNeedles
      let s5 := copies.foldl (fun s c => s.startCopy p c) s4
      let n := s5.needleOf i
      ((((s5.validAtOnce i).lastEvent 0x26 i 0xFF n Rsn.edit).logAt 0x20 Rsn.edit k i (moveArg 0xFF n) 0).placeEnd ⟨0, 0, i, 0⟩).showPlacement

/-! ## The target of a migration (R138, R140, R142, R143) -/

/-- A copy at needle n with its X and Y addresses and its regions unchanged (R138, R143). -/
def Plan.moved (p : Pattern) (pl : Plan) (c : Copy) (n : Nat) : Option Copy := do
  let d ← p.pieces[c.piece]?
  let here := pl.on n
  let four (k : Nat) : Nat := (k + 3) / 4 * 4
  let dOf (e : Copy) (f : PieceDesc → Nat) : Nat := ((p.pieces[e.piece]?).map f).getD 0
  let clear (used : List (Nat × Nat)) (lo len : Nat) : Bool :=
    len == 0 || used.all (fun u => u.2 == 0 || decide (lo + len ≤ u.1) || decide (u.1 + u.2 ≤ lo))
  let ok := clear (pl.usedWords p n false) c.xBase d.xWords && clear (pl.usedWords p n true) c.yBase d.yWords
    && c.blocks.all (fun b => clear (pl.usedWords p n b.y) b.a b.size && clear (pl.usedWords p n b.y) b.b b.size)
  if ok then do
    let a ← firstFit (here.map (fun e => (e.inBase, four (dOf e (·.inlets))))) (four d.inlets) 4 256
    let o ← firstFit (here.map (fun e => (e.outBase, four (dOf e (·.outlets))))) (four d.outlets) 4 256
    let se ← firstFit (here.map (fun e => (e.seamBase, dOf e (·.seams)))) d.seams 1 64
    let k ← firstFit (here.map (fun e => (e.blkBase, dOf e (·.blocks)))) d.blocks 1 256
    some { c with needle := n, slotFirst := (here.map Copy.used).sum, inBase := a, outBase := o, seamBase := se, blkBase := k }
  else none

/-- The members of a set appended one after another to needle n (R143). -/
def Plan.moveAll (p : Pattern) (pin : PlaceIn) (n : Nat) : Plan → List Copy → Option Plan
  | pl, [] => some pl
  | pl, c :: t =>
    if !pl.mayStand p pin c.piece c.second n then none
    else
      match pl.moved p c n with
      | none => none
      | some x => Plan.moveAll p pin n { pl with copies := pl.copies ++ [x] } t

/-- The pieces' links and their latencies at a target: as they were where that keeps every latency, else linked anew
(R142). -/
def Plan.linked (p : Pattern) (before pl : Plan) (pieces : List Nat) (anew : Bool) : Plan :=
  if anew then pieces.foldl (fun q i => q.link p i) pl
  else pl.relink p (before.fwd.filter (fun k => pieces.any (fun i => p.touches i k)))

/-- Every path keeps its latency, or may change it by every LATENCY record it has (R124, R142). -/
def latencyOk (p : Pattern) (before after : Plan) (mayChange : Bool) : Bool :=
  p.paths.all (fun x => before.pathLatency p x == after.pathLatency p x
    || (mayChange && p.cons.any (fun c => c.kind == 1 && c.a == x)
        && p.cons.all (fun c => c.kind != 1 || c.a != x || c.mayChange)))

/-- The plan with a set of copies moved from needle src to needle n, if every rule of a target holds. -/
def Plan.migrateTo (p : Pattern) (pin : PlaceIn) (pl : Plan) (set : List Copy) (n : Nat) (mayChange : Bool) : Option Plan :=
  let pieces := set.map (·.piece)
  let rest : Plan := ⟨pl.copies.filter (fun c => !set.contains c), pl.fwd.filter (fun k => !pieces.any (fun i => p.touches i k)),
    pl.spools⟩
  match Plan.moveAll p pin n rest set with
  | none => none
  | some q =>
    let r := Plan.linked p pl q pieces mayChange
    if r.inBudget p pin (n / 8) && latencyOk p pl r mayChange then some r else none

/-- The best target of a set: first with every latency kept, then, in another pleat, where LATENCY records allow a change
(R142). -/
def Plan.bestMove (p : Pattern) (pin : PlaceIn) (pl : Plan) (set : List Copy) (may : Nat → Bool) : Option (Nat × Plan) :=
  let src := (set.head?.map (·.needle)).getD 0
  let tryAll (mayChange : Bool) : Option (List Nat × Nat × Plan) :=
    (pin.byRank.filter (fun n => n != src && may n && (!mayChange || n / 8 != src / 8))).foldl (fun best n =>
      match pl.migrateTo p pin set n mayChange with
      | none => best
      | some q => better best (some (q.vector p pin ⟨pl.copies.filter (fun c => !set.contains c), [], []⟩ n (pl.spools.length * spoolBps p.rate), n, q))) none
  match tryAll false with
  | some (_, n, q) => some (n, q)
  | none => (tryAll true).map (fun e => e.2)

/-- The bobbin-bound set of a copy: the copies on its needle that share bobbins with it, step by step (R143). -/
def boundSet (on : List Copy) : Nat → List Copy → List Copy
  | 0, l => l
  | f + 1, l =>
    let bobs := (l.flatMap (·.regions)).map (·.bobbin)
    let more := on.filter (fun c => l.contains c || c.regions.any (fun r => bobs.contains r.bobbin))
    boundSet on f more

/-- The migrations a set may make, its members in placement order (R127, R143). -/
def setOf (p : Pattern) (on : List Copy) (c : Copy) : List Copy :=
  let members := boundSet on on.length [c]
  (copyOrder p).filterMap (fun e => members.find? (fun m => m.piece == e.1 && m.second == e.2))

/-- Begin the migration of a set to a target (R140, step 1): slots are reserved, and its pleat is woken. -/
def State.beginMig (s : State) (set : List Copy) (n reason : Nat) (q : Plan) : State :=
  let src := (set.head?.map (·.needle)).getD 0
  let targets := q.copies.filter (fun c => c.needle == n && set.any (fun m => m.piece == c.piece && m.second == c.second))
  let m : Mig := ⟨targets.map (fun c => { c with live := false }), src, reason, s.stitch + 1, false, 0, false, none, none, q.fwd, false, false⟩
  let s1 : State := { s with last := { s.last with migs := s.last.migs ++ [m] } }
  let s2 := set.foldl (fun s c =>
    if (s.pieceSt c.piece).state = 1 then s.setPieceSt c.piece { s.pieceSt c.piece with state := 2 } else s) s1
  s2.adjustPower.showPlacement

/-- A set's own interval had passed since each member's latest switch when the request arrived at a time (R124, R138). -/
def State.intervalOver (s : State) (p : Pattern) (set : List Copy) (asked : Nat) : Bool :=
  set.all (fun c =>
    let ms := ((p.cons.find? (fun k => k.kind == 4 && k.a == c.piece)).map (·.value)).getD (s.nat Obj.migInterval)
    match (s.pieceSt c.piece).movedAt with
    | none => true
    | some t => decide (t + ms * msPs ≤ asked))

/-- This copy is on its way to a target, or not yet gone from its source (R140); the other copy of a TWIN piece migrates
independently (R145). -/
def State.copyMoves (s : State) (c : Copy) : Bool :=
  s.last.migs.any (fun m => m.copies.any (fun e => e.piece == c.piece && e.second == c.second))

/-- Try to move one set for a reason asked at a time; the needles in `out` are no targets. Answers whether it moves. The
Last's decision that a pinned piece stays on its frayed needle is logged (R138, R139, R143, R144, R147). -/
def State.moveSet (s : State) (p : Pattern) (set : List Copy) (reason asked : Nat) (out : Nat → Bool) : Bool × State :=
  let src := (set.head?.map (·.needle)).getD 0xFF
  let first := (set.head?.map (·.piece)).getD 0
  let pinned := set.any (fun c => (p.pieces[c.piece]?).any (·.pinned))
  let noTarget (c : Copy) : Nat := if reason = Rsn.frayed && (p.pieces[c.piece]?).any (·.pinned) then 0x2A else 0x23
  if set.isEmpty || set.any (fun c => s.copyMoves c) then (false, s)
  else if limited reason && (s.bit Obj.lastFreeze 0 0 || !s.intervalOver p set asked) then
    (false, s.lastEvent 0x24 first src 0xFF reason)
  else
    match (if pinned then none else s.plan.bestMove p s.placeIn set (fun n => !out n)) with
    | none => (false, set.foldl (fun s c => s.lastEvent (noTarget c) c.piece src 0xFF reason) s)
    | some (n, q) => (true, s.beginMig set n reason q)

/-- The sets of a list of copies, each once. -/
def setsOf (p : Pattern) (on : List Copy) : List Copy → List (List Copy) → List (List Copy)
  | [], seen => seen
  | c :: t, seen => if seen.any (fun l => l.contains c) then setsOf p on t seen else setsOf p on t (seen ++ [setOf p on c])

/-- The copies placed on a needle; a shed piece stays placed (R90). -/
def State.placedOn (s : State) (n : Nat) : List Copy := s.last.copies.filter (fun c => c.needle == n)

/-- Move every piece of a needle (R138). -/
def State.moveNeedle (s : State) (p : Pattern) (n reason asked : Nat) (out : Nat → Bool) : State :=
  (setsOf p (s.placedOn n) (s.placedOn n) []).foldl (fun s l => (s.moveSet p l reason asked out).2) s

/-- Copies by descending share of the budget. -/
def State.byShare (s : State) (p : Pattern) (l : List Copy) : List Copy :=
  let pl := s.plan
  sortBy (fun c => [100000 - pl.share p c, c.piece]) l

/-- The summed budget of a pleat's needles without the copies that are leaving. -/
def State.pleatSum (s : State) (p : Pattern) (pleat : Nat) : Nat :=
  let moving := ((s.last.migs.filter (fun m => !m.switched)).flatMap (·.copies)).map (fun c => (c.piece, c.second))
  let pl : Plan := { s.plan with copies := s.last.copies.filter (fun c => !moving.contains (c.piece, c.second)) }
  ((pl.budgets p pleat).map (·.2)).sum

/-- Pieces of a hot pleat move in descending budget until its summed budget has halved or no target remains (R138). -/
def State.cool (s : State) (p : Pattern) (pleat start asked : Nat) : List Copy → State
  | [] => s
  | c :: t =>
    if 2 * s.pleatSum p pleat ≤ start then s
    else
      (s.moveSet p (setOf p (s.placedOn c.needle) c) Rsn.temperature asked (fun n => n / 8 == pleat)).2.cool p pleat start asked t

/-- One request of the Last, asked at a time, is decided (R138, R139). -/
def State.decideRequest (s : State) (p : Pattern) (reason arg asked : Nat) : State :=
  if reason = Rsn.lowMargin then
    match s.byShare p (s.placedOn arg) with
    | [] => s
    | c :: _ => (s.moveSet p (setOf p (s.placedOn arg) c) reason asked (fun n => n / 8 == arg / 8)).2
  else if reason = Rsn.frayed then s.moveNeedle p arg reason asked (fun n => n == arg)
  else if reason = Rsn.storm then
    let frozen := s.bit Obj.lastFreeze 0 0
    let s1 : State := if frozen then s else { s with last := { s.last with barred := s.last.barred ++ [arg / 8] } }
    s1.moveNeedle p arg reason asked (fun n => n / 8 == arg / 8)
  else if reason = Rsn.temperature then
    s.cool p arg (s.pleatSum p arg) asked (s.byShare p (s.last.copies.filter (fun c => c.needle / 8 == arg)))
  else if reason = Rsn.power then
    if arg < 128 then s.moveNeedle p arg reason asked (fun n => !s.mapBit Obj.resourceMap n)
    else (distinct ((s.last.copies.filter (fun c => c.regions.any (fun r => r.bobbin + 128 == arg))).map (·.piece))).foldl
      (fun s i => s.lastEvent 0x23 i (s.needleOf i) 0xFF reason) s
  else s

/-- A MOVE is decided (R131): the piece, or its bobbin-bound set, goes to the needle named; the command has ended then, before
the switch (DESIGN CHOICE, assumption 121). Of a TWIN piece the first copy moves (DESIGN CHOICE, assumption 191). -/
def State.decideMove (s : State) (p : Pattern) (i n : Nat) : State :=
  match s.last.copies.find? (fun c => c.piece == i && !c.second) with
  | none => s.placeEnd ⟨14, 0, i, 0⟩
  | some c =>
    if (s.pieceSt i).state ≠ 1 then s.placeEnd ⟨14, 0, i, 0⟩
    else if c.needle = n then s.placeEnd ⟨0, 0, i, 0⟩
    else
    let set := setOf p (s.placedOn c.needle) c
    let no := (set.foldl (fun s m => s.lastEvent 0x23 m.piece c.needle 0xFF Rsn.host) s).placeEnd ⟨13, 0, i, 0⟩
    if set.any (fun m => (p.pieces[m.piece]?).any (·.pinned) || s.copyMoves m)
        || !s.usableNeedles.contains n then no
    else
      match s.plan.bestMove p s.placeIn set (fun m => m == n) with
      | none => no
      | some (_, q) => (s.beginMig set n Rsn.host q).placeEnd ⟨0, 0, i, 0⟩

/-- Objectives 2–5 of a plan (R126). -/
def Plan.goals (p : Pattern) (pin : PlaceIn) (pl : Plan) : List Nat :=
  [pl.latency p, pl.excess p pin, pl.spools.length * spoolBps p.rate,
   (distinct ((pl.copies.filter (·.live)).map (fun c => c.needle / 8))).length]

/-- REBALANCE (R131): every unpinned piece, in placement order, moves where that improves objectives 2–5. -/
def State.rebalance (s : State) (p : Pattern) : State :=
  (copyOrder p).foldl (fun s e =>
    match s.last.copies.find? (fun c => c.piece == e.1 && c.second == e.2 && c.live) with
    | none => s
    | some c =>
      let set := setOf p (s.placedOn c.needle) c
      if set.any (fun m => (p.pieces[m.piece]?).any (·.pinned) || s.copyMoves m) then s
      else
        match s.plan.bestMove p s.placeIn set (fun _ => true) with
        | none => s
        | some (n, q) => if lexLt (q.goals p s.placeIn) (s.plan.goals p s.placeIn) then s.beginMig set n Rsn.host q else s) s

/-- The Last decides the request that has waited longest (DESIGN CHOICE, assumption 179); with no pattern placed an edit ends
with PIECE (R130). A frozen Last acts on FRAYED alone, and what asks for other moves waits for
the freeze's end (R138, R139, R140 step 1; DESIGN CHOICE, assumption 123). -/
def State.migrationDecision (s : State) : State :=
  let frozen := s.bit Obj.lastFreeze 0 0
  match s.last.pat with
  | none =>
    let s1 : State := { s with last := { s.last with requests := [], moves := [] } }
    match s.last.moves with
    | [] => s1
    | (i, n) :: _ => s1.placeEnd ⟨14, 0, if n = 128 then 0 else i, 0⟩
  | some p =>
    match s.last.requests.find? (fun r => !(frozen && r.1 == Rsn.power)), s.last.moves with
    | some q, _ => State.decideRequest { s with last := { s.last with requests := s.last.requests.erase q } } p q.1 q.2.1 q.2.2
    | none, (i, n) :: t =>
      if frozen then s
      else
      let s1 : State := { s with last := { s.last with moves := t } }
      if n = 128 then (s1.rebalance p).placeEnd ⟨0, 0, 0, 0⟩ else s1.decideMove p i n
    | none, [] => s

/-! ## Copying and capture (R140, R141) -/

/-- Every word of a piece's ranges in X and Y: private words and pages. -/
def ownWords (d : PieceDesc) (c : Copy) : List (Bool × Nat × Nat) :=
  [(false, c.xBase, d.xWords), (true, c.yBase, d.yWords)] ++ c.blocks.flatMap (fun b => [(b.y, b.a, b.size), (b.y, b.b, b.size)])

/-- The persistent registers of a piece, written unchanged into another needle (R120, R140 step 4). -/
def carryKeeps (d : PieceDesc) (src nd : Needle) : Needle :=
  { nd with
    d := Vector.ofFn (fun i : Fin 16 => if d.keepD.testBit i.val then src.d[i] else nd.d[i]),
    acc := Vector.ofFn (fun i : Fin 4 => if d.keepA.testBit i.val then src.acc[i] else nd.acc[i]),
    p := Vector.ofFn (fun i : Fin 7 => if d.keepP.testBit i.val then src.p[i] else nd.p[i]),
    m := Vector.ofFn (fun i : Fin 8 => if d.keepM.testBit i.val then src.m[i] else nd.m[i]),
    xp := Vector.ofFn (fun i : Fin 4 => if d.keepPtr.testBit i.val then src.xp[i] else nd.xp[i]),
    yp := Vector.ofFn (fun i : Fin 4 => if d.keepPtr.testBit (4 + i.val) then src.yp[i] else nd.yp[i]) }

/-- One member's memories go to its target: X and Y words, pages with their golden twins, images, and the table entries of
its blocks with their select bits (R140 step 2). -/
def State.copyMember (s : State) (p : Pattern) (old new : Copy) : State :=
  match p.pieces[old.piece]? with
  | none => s
  | some d =>
    let a := s.needle old.needle
    let stores := (a.stateWords.filter (fun r => r.piece == old.piece))
    let entries := (a.blocks.filter (fun b => b.piece == old.piece)).map (fun b => { b with blk := b.blk - old.blkBase + new.blkBase })
    s.modNeedle new.needle (fun nd =>
      let nd1 := (ownWords d old).foldl (fun nd r =>
        { nd with
          x := if r.1 then nd.x else copyRange a.x nd.x r.2.1 r.2.1 r.2.2,
          y := if r.1 then copyRange a.y nd.y r.2.1 r.2.1 r.2.2 else nd.y,
          golden := copyRange a.golden nd.golden (memKey r.1 r.2.1) (memKey r.1 r.2.1) r.2.2,
          image := copyRange a.image nd.image (memKey r.1 r.2.1) (memKey r.1 r.2.1) r.2.2 }) nd
      { nd1 with
        blocks := nd1.blocks.filter (fun b => b.piece != old.piece) ++ entries,
        stateWords := nd1.stateWords.filter (fun r => r.piece != old.piece) ++ stores })

/-- The copies a migration moves, as they stand at its source. -/
def State.sourceOf (s : State) (m : Mig) : List (Copy × Copy) :=
  m.copies.filterMap (fun c => (s.last.copies.find? (fun o => o.piece == c.piece && o.second == c.second)).map (fun o => (o, c)))

/-- The copier finishes the copy of a piece's set: it is ready to switch (R140 step 3). -/
def State.migCopyDone (s : State) (i : Nat) : State :=
  match s.last.pat with
  | none => s
  | some p =>
    (s.last.migs.filter (fun m => m.mirror && !m.ready && !m.switched && m.copies.any (fun c => c.piece == i))).foldl (fun s m =>
      let s1 := (s.sourceOf m).foldl (fun s e => s.copyMember p e.1 e.2) s
      { s1 with last := { s1.last with migs := s1.last.migs.map (fun x => if x = m then { x with ready := true } else x) } }) s

/-- One member is captured: registers, outlet and seam words, and the seam words last published go to its target (R140
step 4). -/
def State.captureCopy (s : State) (p : Pattern) (old new : Copy) : State :=
  match p.pieces[old.piece]? with
  | none => s
  | some d =>
    let a := s.needle old.needle
    s.modNeedle new.needle (fun nd1 =>
      { carryKeeps d a nd1 with
        outlet := copyRange a.outlet nd1.outlet old.outBase new.outBase d.outlets,
        seam := copyRange a.seam nd1.seam old.seamBase new.seamBase d.seams,
        pub := copyRange a.pub nd1.pub old.seamBase new.seamBase d.seams,
        prev := copyRange a.prev nd1.prev old.seamBase new.seamBase d.seams,
        seamBad := nd1.seamBad.filter (fun m => decide (m.j < new.seamBase) || decide (new.seamBase + d.seams ≤ m.j)) ++
          (a.seamBad.filter (fun m => decide (old.seamBase ≤ m.j) && decide (m.j < old.seamBase + d.seams))).map
            (fun m => ⟨m.bank, m.j - old.seamBase + new.seamBase⟩),
        seamWrit := nd1.seamWrit.filter (fun j => decide (j < new.seamBase) || decide (new.seamBase + d.seams ≤ j)) ++
          (a.seamWrit.filter (fun j => decide (old.seamBase ≤ j) && decide (j < old.seamBase + d.seams))).map
            (fun j => j - old.seamBase + new.seamBase),
        pubAt := if nd1.pubAt.isNone then a.pubAt else nd1.pubAt })

/-- A migration is captured at the end of the source's run of stitch j; its inlet routes deliver to the target from then
on, and it switches at the next strobe (R140 steps 4 and 5, R141). After a run that was late the piece's further runs at
the source never execute (R141). -/
def State.captureMig (s : State) (p : Pattern) (j : Nat) (late : Bool) (m : Mig) : State :=
  let s1 := (s.sourceOf m).foldl (fun s e => s.captureCopy p e.1 e.2) s
  let mine (r : Route) : Bool := m.copies.any (fun c => c.piece == r.piece && c.second == r.second)
  { s1 with
    fab := { s1.fab with
      routesIn := s1.fab.routesIn.filter (fun r => !mine r) ++ m.copies.flatMap (fun c => routesOf p c true) },
    last := { s1.last with
      copies := s1.last.copies.map (fun c =>
        if late && m.copies.any (fun e => e.piece == c.piece && e.second == c.second) then { c with live := false } else c),
      migs := s1.last.migs.map (fun x =>
      if x = m then { x with capturedRun := some j, switchAt := some (s.stitch + 1) } else x) } }

/-- What the end of needle n's run of stitch j does to its migrations: one that is ready is captured where the run ended
by its deadline, or where its switch is forced (R140, R141). -/
def State.migsAfterRun (s : State) (n j : Nat) (onTime : Bool) : State :=
  match s.last.pat with
  | none => s
  | some p =>
    (s.last.migs.filter (fun m => m.src == n && m.ready && m.capturedRun.isNone && (m.forcing || onTime))).foldl
      (fun s m => s.captureMig p j (!onTime) m) s

/-- Each deadline at which the source's run has not completed postpones a ready migration by one stitch (R141). -/
def State.postpone (s : State) (late : List Nat) : State :=
  { s with last := { s.last with migs := s.last.migs.map (fun m =>
    if m.ready && m.capturedRun.isNone && late.contains m.src then { m with postponed := m.postponed + 1 } else m) } }

/-- A migration whose MIG_WAIT-th postponed stitch has come is forced (R141). -/
def State.forceMig (s : State) (i : Nat) : State :=
  { s with last := { s.last with migs := s.last.migs.map (fun m =>
    if m.copies.any (fun c => c.piece == i) && m.ready && m.capturedRun.isNone && decide (s.nat Obj.migWait ≤ m.postponed)
    then { m with forcing := true } else m) } }

/-! ## The switch (R140 steps 6–9, R141, R142) -/

/-- Rewrite the slots of needle n for a switch: those of the copies that switch, and those that are or become forward reads;
the other slots keep what they hold until the strobe after (R140 steps 7 and 8). -/
def State.rewriteSlots (s : State) (p : Pattern) (n : Nat) (moved : Copy → Bool) : State :=
  let isF (w : BitVec 64) : Bool := w.toNat / 2 ^ 56 == 0xA6
  s.modNeedle n (fun nd => { nd.program ((ownedProgram p s.written s.last.gone n).zipIdx.map (fun e =>
      let old := look (fun _ => 0) nd.prog e.2
      if moved e.1.1 || isF e.1.2 || isF old then e.1.2 else old)) with
    release := releasesOf p s.written n })

/-- The path latencies that a switch changes, as path, new and old. -/
def changedPaths (p : Pattern) (before after : Plan) : List (Nat × Nat × Nat) :=
  (p.paths.map (fun x => (x, after.pathLatency p x, before.pathLatency p x))).filter (fun e => e.2.1 != e.2.2)

/-- One migration switches at the strobe of stitch k (R140 steps 6 and 7, R141, R147). -/
def State.switchMig (s : State) (p : Pattern) (k : Nat) (m : Mig) : State :=
  let pairs := s.sourceOf m
  let before : Plan := ⟨s.last.copies, s.last.fwd, s.last.spools⟩
  let copies := s.last.copies.filter (fun c => !pairs.any (fun e => e.1 = c)) ++ m.copies.map (fun c => { c with live := (s.pieceSt c.piece).state != 3 })
  let leaving := pairs.map (fun e => { e.1 with live := false })
  let pieces := m.copies.map (·.piece)
  let keepF := s.last.fwd.filter (fun x => !pieces.any (fun i => p.touches i x))
  let fwd := keepF ++ m.fwd.filter (fun x => pieces.any (fun i => p.touches i x))
  let mine (r : Route) : Bool := m.copies.any (fun c => c.piece == r.piece && c.second == r.second)
  let s1 : State := { s with
    last := { s.last with
      copies := copies, fwd := fwd, migs := s.last.migs.map (fun x => if x = m then { x with switched := true, copies := leaving } else x) },
    fab := { s.fab with
      routesOut := s.fab.routesOut.filter (fun r => !mine r) ++ m.copies.flatMap (fun c => routesOf p c false) } }
  let s2 := (m.copies.flatMap (fun c => c.regions.map (fun r => (r.bobbin, c.needle)))).foldl
    (fun s e => s.handAtStrobe e.1 e.2) s1
  let s4 := s2.usedNeedles.foldl (fun s n => s.rewriteSlots p n (fun c =>
    m.copies.any (fun e => e.piece == c.piece && e.second == c.second && e.needle == c.needle))) s2
  let lost := match m.capturedRun with
    | some j => if m.forcing then k - 1 - j else 0
    | none => 0
  let s5 := (s4.bump Obj.migrateHem).bump Obj.migLostHem 0 lost
  let s6 := pairs.foldl (fun s e =>
    let st := s.pieceSt e.1.piece
    let s := (s.setPieceSt e.1.piece { st with
      lastMove := some k, movedAt := some s.now, forced := st.forced || m.forcing }).settle e.1.piece
    let s := s.logAt 0x21 m.reason k e.1.piece (moveArg e.1.needle e.2.needle) 0
    if m.forcing then s.logAt 0x22 m.reason k e.1.piece (moveArg e.1.needle e.2.needle) ((m.capturedRun.getD 0) % 2 ^ 32) else s) s5
  let s7 := (changedPaths p before ⟨copies, fwd, s.last.spools⟩).foldl
    (fun s e => s.logAt 0x2B m.reason k (pieces.headD 0) e.1 (e.2.1 + 65536 * e.2.2)) s6
  s7.showPlacement

/-- Mirroring starts at the strobe of stitch k for every migration whose target's pleat is ready: its slots are written
there, gated; a needle that held no program starts with it (R27, R140 step 2, R352). -/
def State.startMirrors (s : State) (k : Nat) : State :=
  let begins (m : Mig) : Bool := !m.mirror && !m.switched && decide (m.startAt ≤ k) && m.copies.all (fun c => s.pleatOn (c.needle / 8))
  let targets := distinct (((s.last.migs.filter begins).flatMap (·.copies)).map (·.needle))
  let s1 := (targets.filter (fun n => !s.holdsProgram n)).foldl (fun s n => s.modNeedle n Needle.startRegs) s
  let s2 : State := { s1 with last := { s1.last with migs := s1.last.migs.map (fun m => if begins m then { m with mirror := true } else m) } }
  if targets.isEmpty then s else (s2.reprogramAll targets).showAll

/-- Step 2 of R16: mirroring starts; the migrations due at stitch k switch; those of a stitch before rewrite the SIN slots of
their consumers; those of two stitches before leave their source (R140). -/
def State.switchMigs (s : State) (k : Nat) : State :=
  match s.last.pat with
  | none => s
  | some p =>
    let s0 := s.startMirrors k
    let s1 := (s0.last.migs.filter (fun m => m.switchAt == some k && !m.switched)).foldl (fun s m => s.switchMig p k m) s0
    let s2 := if s1.last.migs.any (fun m => m.switched && m.switchAt == some (k - 1)) then
      s1.usedNeedles.foldl (fun s n => s.rewriteSlots p n (fun _ => true)) s1 else s1
    let finished := s2.last.migs.filter (fun m => m.switched && m.switchAt.any (fun t => decide (t + 2 ≤ k)))
    if finished.isEmpty then s2
    else
      let s3 : State := { s2 with last := { s2.last with
        migs := s2.last.migs.filter (fun m => !finished.contains m) } }
      let s4 := finished.foldl (fun s m => s.modNeedle m.src (fun nd => { nd with
        blocks := nd.blocks.filter (fun b => !m.copies.any (fun c => c.piece == b.piece)),
        stateWords := nd.stateWords.filter (fun r => !m.copies.any (fun c => c.piece == r.piece)) })) s3
      ((s4.reprogramAll (finished.map (·.src))).adjustPower).showPlacement

end Sys2Proof.Machine
end

