-- ==== Sys2Proof/Machine/Arbiter.lean ====
section
/-!
DEFINITION. Bobbin owners and the control cores' bobbin window (R19, R150–R156), the cores' accesses to package memory (R18,
R159), and the package-memory arbiter of each channel with its link checks (R158–R167).
-/

namespace Sys2Proof.Machine

/-! ## Owners (R151) -/

/-- The check of a write to BOBBIN_OWNER (R151). -/
def State.ownerCheck (s : State) (b code : Nat) : Nat :=
  if s.mapBit Obj.bobbinMap b then St.bobbinMapped
  else if decide (137 ≤ code) && decide (code ≤ 254) then St.bobbinCode
  else if s.mapBit Obj.handoverBusy b then St.bobbinBusy
  else St.ok

/-- What a BOBBIN_MAP write does with one bobbin (R138, R151). -/
def State.mapBobbin (s : State) (b : Nat) (was is : Bool) : State :=
  if !was && is then s.handOver b b
  else if was && !is then (if s.bobHeld b then s.request Rsn.power (128 + b) else s.handOver b 255)
  else s

/-- What a written element of BOBBIN_MAP does: a bobbin mapped to a needle of a pleat without power loses its contents (R348). -/
def State.bobbinMapEffect (s : State) (e old new : Nat) : State :=
  ((List.range 32).foldl (fun s i => s.mapBobbin (32 * e + i) (old.testBit i) (new.testBit i)) s).dropBobbins

/-- What a written element of RESOURCE_MAP does: needles removed raise POWER migrations (R138). -/
def State.resourceMapEffect (s : State) (e old new : Nat) : State :=
  (List.range 32).foldl (fun s i =>
    if old.testBit i && !new.testBit i && !(s.piecesOn (32 * e + i)).isEmpty then s.request Rsn.power (32 * e + i) else s) s

/-! ## The bobbin window (R18, R19, R360) -/

/-- The bytes a core's load gets: a word that it reads with bad parity is delivered as 0 (R148, R360). -/
def State.windowRead (s : State) (b off n : Nat) : Nat :=
  let word (k : Nat) : Nat :=
    let lo := off / 4 * 4 + 4 * k
    if (List.range 4).any (fun i => decide (off ≤ lo + i) && decide (lo + i < off + n) && s.bobBadAt b (lo + i)) then 0
    else leNat (s.bobBytes b lo 4)
  ((word 0 + (if n = 8 then word 1 * 2 ^ 32 else 0)) / 2 ^ (8 * (off % 4))) % 2 ^ (8 * n)

/-- One access of a control core to a bobbin it owns; any other is refused, counted, and faults in the core (R19,
R154). Port 1 carries debug accesses alone, whose meetings nobody counts (R149, R155, R156). -/
def State.windowAccess (s : State) (a : BobWait) (meets : List BobMeet) : State :=
  if s.bobOwner a.bobbin ≠ 131 + a.core then (s.denied (131 + a.core)).emit (.core a.core .accessFault)
  else
    match a.store with
    | some v => ((s.setBobBytes a.bobbin a.off (leBytes a.size v)).meets (131 + a.core) meets).emit (.core a.core .stored)
    | none =>
      let s1 := s.meets (131 + a.core) meets
      (s1.bobParity a.bobbin (s1.badReads a.bobbin a.off a.size)).emit (.core a.core (.value (s1.windowRead a.bobbin a.off a.size)))

/-- An access to the bobbin window (R18–R20, R152). A misaligned or atomic access faults by its form, whoever owns the bobbin,
and is not counted as refused (DESIGN CHOICE, assumption 111: the spec does not say whether R18's form or R19's owner comes
first); one that meets the hand-over to its own core waits for the end of it. -/
def State.bobWindow (s : State) (a : BobWait) (atomic : Bool) (bad : BitVec 8) (meets : List BobMeet) : State :=
  let mine := s.bobOwner a.bobbin == 131 + a.core
  let s1 := if !mine then s else s.markBad a.bobbin (laneBytes a.off (bad.setWidth 4) ++ laneBytes (a.off + 4) ((bad >>> 4).setWidth 4))
  if atomic || a.off % a.size != 0 then s.emit (.core a.core .accessFault)
  else if s.mapBit Obj.handoverBusy a.bobbin && mine then { s1 with bobWaits := s1.bobWaits ++ [a] }
  else s1.windowAccess a meets

/-- BOBBIN_WINDOW_ACCESS (R18–R20, R152). -/
def execBobbinWindowAccess (dt : Nat) (core : Fin 4) (b : Fin 128) (off : BitVec 19) (size : Fin 4)
    (store : Option (BitVec 64)) (bad : BitVec 8) (meets : List BobMeet) (atomic : Bool) (s : State) :
    Host.Outcome State Fault Refusal :=
  whenRunning dt s (fun s =>
    s.bobWindow ⟨core.val, b.val, off.toNat, 2 ^ size.val, store.map (·.toNat)⟩ atomic bad meets)

/-- The end of a hand-over: the accesses of the new owner that wait proceed: a core's, a needle's slot, a descriptor fetch of
the DMA engine (R152). -/
def State.handoverDone (s : State) (b : Nat) : State :=
  let s1 := s.setMapBit Obj.handoverBusy b false
  let s2 : State := { s1 with bobWaits := s1.bobWaits.filter (fun a => a.bobbin != b) }
  let s3 := (s1.bobWaits.filter (fun a => a.bobbin == b)).foldl (fun s a => s.windowAccess a []) s2
  let s4 := (List.range 128).foldl (fun s n =>
    if (s.needle n).wait = .bob b then s.modNeedle n (fun nd => { nd with wait := .none }) else s) s3
  (List.range 16).foldl (fun s c =>
    match s.dmaRun c with
    | some r => (match r.fetch with
      | some a => if r.stop then s.dmaError c 6 a else s.dmaFetch c a
      | none => s)
    | none => s) s4

/-! ## The arbiter (R162–R167) -/

/-- The channel of an offset: bit 12 (R158). -/
def pmChannel (o : Nat) : Nat := o / 4096 % 2
/-- The address of an offset within its channel (R158). -/
def pmInChannel (o : Nat) : Nat := o / 8192 * 4096 + o % 4096

/-- The arbiter of a channel. -/
def State.arbOf (s : State) (ch : Nat) : Arb := s.arb.getD ch Arb.start

/-- Change a channel's arbiter. -/
def State.setArb (s : State) (ch : Nat) (a : Arb) : State := { s with arb := setAt s.arb ch a }

/-- A requester's class in the window in progress. -/
def Arb.classOf (a : Arb) (r : Nat) : Nat := a.cls.getD r 3

/-- A class-0 requester that has won its quota is masked (R164). -/
def Arb.masked (a : Arb) (r : Nat) : Bool := a.classOf r == 0 && decide (a.quota ≤ a.won.getD r 0)

/-- A window ends: the wins clear, and the classes and quota written since take effect (R162, R164). -/
def Arb.newWindow (s : State) (a : Arb) : Arb :=
  { a with
    won := List.replicate 11 0, grants := 0, quota := s.nat Obj.arbQuota,
    cls := (List.range 11).map (fun r => s.nat Obj.arbClass r) }

/-- When every requester that is up is masked, the holder among them, the window ends at once (R164). -/
def Arb.unmask (s : State) (a : Arb) : Arb := if !a.up.isEmpty && a.up.all a.masked then a.newWindow s else a

/-- The choice of R165 among the requests up, but for the holder: the lowest class, and in it round robin after its last
winner. -/
def Arb.choose (a : Arb) : Option Nat :=
  let up := a.up.filter (fun r => a.holder != some r && !a.masked r)
  let c := (up.map a.classOf).min?
  match c with
  | none => none
  | some c =>
    let last := a.last.getD c 0
    let order := (List.range 11).map (fun i => (last + 1 + i) % 11)
    order.find? (fun r => up.contains r && a.classOf r == c)

/-- Among requests that arrive together the lowest class wins, and within it the lowest number (R165). -/
def Arb.firstOf (a : Arb) (l : List Nat) : Option Nat :=
  let l := l.filter (fun r => !a.masked r)
  match (l.map a.classOf).min? with
  | none => none
  | some c => (l.filter (fun r => a.classOf r == c)).min?

/-- Grant the channel to a requester (R162–R165, R167): its HOLD_LIMIT is taken, and the successor is chosen one grant
ahead. -/
def Arb.grantTo (s : State) (a : Arb) (r : Nat) : Arb :=
  let b : Arb := { a with
    holder := some r, ended := false, succ := none, bursts := 0, limit := s.nat Obj.arbHoldLimit r,
    last := setAt a.last (a.classOf r) r, won := modAt a.won r (· + 1), grants := a.grants + 1 }
  let c := (if s.nat Obj.arbWindow ≤ b.grants then b.newWindow s else b).unmask s
  { c with succ := c.choose }

/-- The grant counter object of a channel. -/
def grantsObj (ch : Nat) : Nat := if ch = 0 then Obj.arbGrantsAHem else Obj.arbGrantsBHem

/-- Grant, and count the grant (R167). -/
def State.grant (s : State) (ch r : Nat) : State :=
  (s.setArb ch (Arb.grantTo s (s.arbOf ch) r)).bump (grantsObj ch) r

/-- Requests arrive together at a channel (R165): an idle arbiter grants at once; where no request was up at the choice, the
first to arrive is the successor. -/
def State.arrive (s : State) (ch : Nat) (l : List Nat) : State :=
  let a := s.arbOf ch
  let new := (distinct l).filter (fun r => !a.up.contains r)
  if new.isEmpty then s
  else
    let b := Arb.unmask s { a with up := a.up ++ new }
    let idle := b.holder.isNone && !b.ended
    if idle then
      match b.firstOf new with
      | some r => (s.setArb ch b).grant ch r
      | none => s.setArb ch b
    else s.setArb ch (if b.succ.isNone then { b with succ := b.firstOf new } else b)

/-- The spool engine wants a block of 2 048 bytes moved, which lies in one channel (R132, R163). -/
def State.spoolAsk (s : State) (o : Nat) : State :=
  let ch := pmChannel o
  let a := s.arbOf ch
  (s.setArb ch { a with blocks := a.blocks + 1 }).arrive ch [3]

/-- A requester has dropped its request. -/
def Arb.drop (a : Arb) (r : Nat) : Arb := { a with up := a.up.filter (fun x => x != r) }

/-- The holder's grant ends (R163). It stays the latest holder until the next grant: no choice made meanwhile takes it (R165). -/
def Arb.endGrant (a : Arb) : Arb := { a with ended := true }

/-- The requester whose grant is in progress. -/
def Arb.serving (a : Arb) : Option Nat := if a.ended then none else a.holder

/-- The stored content of a burst whose write failed twice is not defined (R160): free values. -/
def State.undefBurst (s : State) (off : Nat) : State :=
  (List.range 64).foldl (fun s i => let (v, t) := s.fresh; t.setPmBytes (off / 64 * 64 + i) [BitVec.ofNat 8 v]) s

/-- The link's report on a burst (R160): a retry, and a second failure. -/
def State.linkReport (s : State) (r : Nat) (wr : Bool) (off : Nat) (bad1 bad2 : Bool) : State :=
  let s1 := s.bump Obj.arbBurstsHem r
  if !bad1 then s1
  else
    let s2 := (s1.bump Obj.arbBurstsHem r).bump Obj.pmLinkRetryHem
    if !bad2 then s2
    else
      ((s2.bump Obj.pmLinkErrHem).bumpLife Obj.pmLinkErrLife).log 0x30 (off % 2 ^ 32) (off / 2 ^ 32) (if wr then 1 else 0)

/-! ## Accesses of the control cores to package memory (R18, R159, R163, R322, R364) -/

/-- A control core may reach a byte of package memory (R18, R159): no byte of the dictionary regions; of the device region
the staging area, which it does not execute, and the boot image copy, which it does not write. -/
def State.coreMay (s : State) (kind : CoreKind) (o : Nat) : Bool :=
  if s.pmSize ≤ o then false
  else if o < s.regionBase 3 then true
  else if o < s.deviceBase then false
  else if s.bootCopyBase ≤ o && decide (o < s.stageBase) then kind == .load || kind == .fetch
  else if s.stageBase ≤ o && decide (o < s.stageBase + stageSize) then kind != .fetch
  else false

/-- The access waits for no chunk: it lies outside the boot image copy, or in a chunk that is verified (R322). -/
def State.chunkReady (s : State) (o n : Nat) : Bool :=
  decide (o < s.bootCopyBase) || decide (s.stageBase ≤ o) || decide ((o + n - 1 - s.bootCopyBase) / 65536 < s.nat Obj.chunksVerified)

/-- The access is made: a load and a fetch answer the bytes, a store writes them, an atomic operation does both. -/
def State.coreAccess (s : State) (a : CoreWait) : State :=
  let old := leNat (s.pmBytes a.off a.size)
  match a.kind with
  | .load => s.emit (.core a.core (.value old))
  | .fetch => s.emit (.core a.core (.value old))
  | .store => (s.setPmBytes a.off (leBytes a.size a.v)).emit (.core a.core .stored)
  | .atomic => (s.setPmBytes a.off (leBytes a.size a.v)).emit (.core a.core (.value old))

/-- A core's transfer on a channel is done: its oldest access there is made, or, for a read burst delivered bad, a load or a
fetch faults (R163, R364). -/
def State.coreMoved (s : State) (core ch : Nat) (bad : Bool) : State :=
  match s.coreWaits.find? (fun a => a.core == core && pmChannel a.off == ch && s.chunkReady a.off a.size) with
  | none => s
  | some a =>
    let s1 : State := { s with coreWaits := s.coreWaits.erase a }
    if bad && a.kind != .store then s1.emit (.core core .accessFault) else s1.coreAccess a

/-- The cores with an access that waits for a channel: its chunk, if any, has been verified (R322). -/
def State.coresFor (s : State) (ch : Nat) : List Nat :=
  (s.coreWaits.filter (fun a => s.chunkReady a.off a.size && pmChannel a.off == ch)).map (fun a => 6 + a.core)

/-- Those cores ask for their channels. -/
def State.coresAsk (s : State) : State := [0, 1].foldl (fun s ch => s.arrive ch (s.coresFor ch)) s

/-- An access of a control core to an offset of package memory (R18, R159, R322). -/
def State.corePm (s : State) (a : CoreWait) (hit : Bool) : State :=
  if !s.coreMay a.kind a.off || !s.coreMay a.kind (a.off + a.size - 1) then s.emit (.core a.core .accessFault)
  else if hit && s.chunkReady a.off a.size then s.coreAccess a
  else { s with coreWaits := s.coreWaits ++ [a] }

/-! ## Bursts and grants -/

/-- The holder r of a channel has moved a burst: whether it drops its request on its own terms (R163), and the arbiter with
the spool engine's block advanced. -/
def Arb.moves (a : Arb) (r : Nat) (done : Bool) : Bool × Arb :=
  if r = 3 then
    (if a.moved + 1 = 32 then (true, { a with moved := 0, blocks := a.blocks - 1 }) else (false, { a with moved := a.moved + 1 }))
  else (done, a)

/-- BURST_DONE (R158, R160, R163): the burst counts, and the grant ends when the holder drops its request or has issued
HOLD_LIMIT bursts. The spool engine drops after each block of 32 bursts, and asks again while blocks wait; the DMA engine at
the end of its piece (R307). A core's access is made with its last burst; what a failed write leaves is then not defined. -/
def execBurstDone (dt : Nat) (done wr : Bool) (off : BitVec 34) (bad1 bad2 : Bool) (s : State) :
    Host.Outcome State Fault Refusal :=
  whenRunning dt s (fun s =>
    let ch := pmChannel off.toNat
    match (s.arbOf ch).serving with
    | none => s
    | some r =>
      let s1 := s.linkReport r wr off.toNat bad1 bad2
      let own := r == 2 && s.dmaNeeds.contains ch
      let (drops, a) := Arb.moves { s.arbOf ch with bursts := (s.arbOf ch).bursts + 1 } r (done && !own)
      let s2 :=
        if drops then
          let s2 := s1.setArb ch ((a.drop r).endGrant.unmask s1)
          if r = 3 && decide (0 < a.blocks) then s2.arrive ch [3] else s2
        else if a.limit ≠ 0 && decide (a.limit ≤ a.bursts) then
          (((s1.setBit Obj.arbHoldCut 0 r true).bump Obj.holdCutHem r)).setArb ch a.endGrant
        else s1.setArb ch a
      let s3 := if done && decide (6 ≤ r) && decide (r ≤ 9) then (s2.coreMoved (r - 6) ch (bad1 && bad2 && !wr)).coresAsk else s2
      if wr && bad1 && bad2 then s3.undefBurst off.toNat else s3)

/-- The DMA engine's piece is done: its request drops on the piece's channels, and its grants end (R163, R307). -/
def State.dmaDrop (s : State) (l : List Nat) : State :=
  l.foldl (fun s ch => s.setArb ch (Arb.unmask s ((s.arbOf ch).drop 2).endGrant)) s

/-- DMA_PIECE_DONE (R304–R309): a piece is one grant of requester 2, on each channel of package memory that it reads or writes
(R307). -/
def execDmaPieceDone (dt : Nat) (bad : Bool) (badBytes : List (BitVec 19)) (meets : List BobMeet) (s : State) :
    Host.Outcome State Fault Refusal :=
  whenRunning dt s (fun s =>
    match s.dmaTurn with
    | none => s
    | some c =>
      let l := s.dmaNeeds
      if l.all (fun ch => (s.arbOf ch).serving == some 2) then
        (State.dmaPieceDone { s with dmaLast := c } c bad (badBytes.map (·.toNat)) meets).dmaDrop l
      else s)

/-- GRANT_END (R165): the successor is granted if its request is still up; else a new choice is made, which leaves out the
requester whose grant has ended unless no other request is up. -/
def execGrantEnd (dt : Nat) (ch : Fin 2) (drops : List (Fin 11)) (s : State) : Host.Outcome State Fault Refusal :=
  whenRunning dt s (fun s =>
    let a := s.arbOf ch.val
    if !a.ended then s
    else
      let b := Arb.unmask s { a with ended := false, up := a.up.filter (fun r => !drops.any (fun d => d.val == r)) }
      let again := b.choose.orElse (fun _ => Arb.choose { b with holder := none })
      let next := match a.succ with
        | some r => if b.up.contains r then some r else again
        | none => again
      match next with
      | some r => (s.setArb ch.val b).grant ch.val r
      | none => s.setArb ch.val { b with holder := none, succ := none })

/-- The refresh interval of a channel in ps: 3.904 µs, or half of it (R161). -/
def State.refreshEvery (s : State) (ch : Nat) : Nat := if s.nat Obj.pmRefreshX2 ch = 1 then 1952000 else 3904000

/-- A channel's refresh is due (R161). -/
def State.refreshDue (s : State) (ch : Nat) : Bool := decide ((s.arbOf ch).refreshAt + s.refreshEvery ch ≤ s.now)

/-- REFRESH (R161, R166): at its interval, counted as one preemption and one burst. -/
def execRefresh (dt : Nat) (ch : Fin 2) (s : State) : Host.Outcome State Fault Refusal :=
  whenRunning dt s (fun s =>
    if !s.refreshDue ch.val then s
    else
      ((s.setArb ch.val { s.arbOf ch.val with refreshAt := s.now }).bump (grantsObj ch.val) 12).bump Obj.arbBurstsHem 12)

end Sys2Proof.Machine
end

