-- ==== Sys2Proof/Machine/Spool.lean ====
section
/-!
DEFINITION. The spool engine (R132–R137): its fetches, drains, late blocks and taps.
-/

namespace Sys2Proof.Machine

/-- The spool of a memory record and copy. -/
def State.spool? (s : State) (rec_ : Nat) (second : Bool) : Option Spool :=
  s.last.spools.find? (fun q => q.rec_ == rec_ && q.second == second)

/-- Change the spool of a memory record and copy. -/
def State.modSpool (s : State) (rec_ : Nat) (second : Bool) (f : Spool → Spool) : State :=
  { s with last := { s.last with
    spools := s.last.spools.map (fun q => if q.rec_ = rec_ && q.second == second then f q else q) } }

/-- The word of a spool that holds the sample of stitch t: stitch t mod the spool's words (DESIGN CHOICE: the spec gives
the spool's size and no order within it). -/
def Spool.wordOf (q : Spool) (t : Int) : Nat := (t % (Int.ofNat q.words)).toNat

/-- The package-memory offset of that word. -/
def State.spoolAddr (s : State) (q : Spool) (t : Int) : Nat := s.regionBase 2 + q.base + 4 * q.wordOf t

/-- The stitches of the lost spans cover stitch t. -/
def Spool.isLost (q : Spool) (t : Int) : Bool := q.lost.any (fun b => decide (Int.ofNat b ≤ t) && decide (t < Int.ofNat b + 512))

/-- Write one word of a spool's read half. -/
def State.setReadWord (s : State) (q : Spool) (k : Nat) (bytes : List Byte) : State :=
  s.setBobBytes q.bobbin (q.off + 8192 + 4 * (k % 2048)) bytes

/-- Fill the read block of stitches b to b + 511 with the samples of tap stitches before; a block that would read a lost
span is zero, and so are the words of a burst delivered bad (R133, R135, R364). -/
def State.fillRead (s : State) (q : Spool) (b : Nat) (bad : List (Fin 32)) : State :=
  let first := Int.ofNat b - Int.ofNat q.tap
  let zero := q.isLost first || q.isLost (first + 511) || q.lost.any (fun l => decide (first ≤ Int.ofNat l) && decide (Int.ofNat l ≤ first + 511))
  (List.range 512).foldl (fun s k =>
    let bytes := if zero || bad.any (fun e => e.val == k / 16) then [0, 0, 0, 0] else s.pmBytes (s.spoolAddr q (first + Int.ofNat k)) 4
    s.setReadWord q (b + k) bytes) s

/-- Zero the read block of stitches b to b + 511 (R135). -/
def State.zeroRead (s : State) (q : Spool) (b : Nat) : State :=
  (List.range 512).foldl (fun s k => s.setReadWord q (b + k) [0, 0, 0, 0]) s

/-- Move the write block of stitches b to b + 511 to package memory; a word read with bad parity is carried on as 0 (R133,
R360). -/
def State.drainBlock (s : State) (q : Spool) (b : Nat) : State :=
  (List.range 512).foldl (fun s k =>
    let x := q.off + 4 * ((b + k) % 2048)
    let bad := s.badReads q.bobbin x 4
    (s.setPmBytes (s.spoolAddr q (Int.ofNat (b + k))) (if bad = 0 then s.bobBytes q.bobbin x 4 else [0, 0, 0, 0])).bobParity
      q.bobbin bad) s

/-- The offset of a block in package memory, for its channel: that of its first stitch (R132, R158). -/
def State.blockAddr (s : State) (q : Spool) (first : Int) : Nat := s.spoolAddr q first

/-- Count and log a late block of a spool (R135). -/
def State.spoolLate (s : State) (q : Spool) : State :=
  (s.bump Obj.spoolLateHem).log 0x28 q.piece (moveArg (s.needleOf q.piece) 0xFF)

/-- A fetch starts: a block's own lead has begun, and it has not been fetched (R134); the engine asks for the channel
(R163). -/
def State.spoolFetch (s : State) (rec_ : Nat) (second : Bool) (b : Nat) : State :=
  match s.spool? rec_ second with
  | none => s
  | some q =>
    if b % 512 = 0 && decide (b ≤ s.stitch + 1024) && decide (s.stitch < b + 512) && !q.fetching.contains b && !q.fetched.contains b then
      (s.spoolAsk (s.blockAddr q (Int.ofNat b - Int.ofNat q.tap))).modSpool rec_ second (fun q => { q with fetching := b :: q.fetching })
    else s

/-- A fetch completes in time: the block is filled; its conflicts with the needle count for the engine (R133, R135, R155). -/
def State.spoolFetchDone (s : State) (rec_ : Nat) (second : Bool) (b : Nat) (bad : List (Fin 32)) (meets : List BobMeet) :
    State :=
  match s.spool? rec_ second with
  | none => s
  | some q =>
    if q.fetching.contains b && decide (s.stitch + 64 < b) then
      ((s.meets 136 meets).fillRead q b bad).modSpool rec_ second (fun q => { q with
        fetching := q.fetching.filter (fun x => x != b), fetched := b :: q.fetched })
    else s

/-- A fetch is not complete 64 stitches before its block: it is abandoned, and the block reads zero (R135); the
spool engine's request for it stays up until its bursts have moved (R163; DESIGN CHOICE, assumption 194). -/
def State.spoolAbandon (s : State) (rec_ : Nat) (second : Bool) (b : Nat) : State :=
  match s.spool? rec_ second with
  | none => s
  | some q =>
    if b % 512 = 0 && decide (b ≤ s.stitch + 64) && decide (s.stitch < b + 512) && !q.fetched.contains b then
      ((s.zeroRead q b).spoolLate q).modSpool rec_ second (fun q => { q with
        fetching := q.fetching.filter (fun x => x != b), fetched := b :: q.fetched })
    else s

/-- A drain starts once the block's stitches have passed (R133); the engine asks for the channel (R163). -/
def State.spoolDrain (s : State) (rec_ : Nat) (second : Bool) (b : Nat) : State :=
  match s.spool? rec_ second with
  | none => s
  | some q =>
    if b % 512 = 0 && decide (b + 512 ≤ s.stitch) && !q.draining.contains b && !q.drained.contains b && !q.lost.contains b then
      (s.spoolAsk (s.blockAddr q (Int.ofNat b))).modSpool rec_ second (fun q => { q with draining := b :: q.draining })
    else s

/-- A drain completes: the spool holds the block, and a lost span of its place is lost no more (R134, R135). -/
def State.spoolDrainDone (s : State) (rec_ : Nat) (second : Bool) (b : Nat) (badBytes : List Nat) (meets : List BobMeet) :
    State :=
  match s.spool? rec_ second with
  | none => s
  | some q =>
    if q.draining.contains b then
      (((s.markBad q.bobbin (badBytes.map (q.off + ·))).meets 136 meets).drainBlock q b).modSpool rec_ second (fun q => { q with
        draining := q.draining.filter (fun x => x != b), drained := b :: q.drained,
        lost := q.lost.filter (fun x => x % q.words != b % q.words) })
    else s

/-- The strobe of stitch k for one spool: a write block the needle reaches again undrained is a lost span (R135). -/
def State.spoolReach (s : State) (k : Nat) (q : Spool) : State :=
  let b := k - 2048
  let start := ((s.last.pieceStart.find? (fun e => e.1 == q.piece)).map (·.2)).getD 0
  let s1 := s.modSpool q.rec_ q.second (fun q => { q with
    fetched := q.fetched.filter (fun x => decide (k < x + 512)), drained := q.drained.filter (fun x => decide (k < x + 4096)) })
  if k % 512 = 0 && decide (2048 ≤ k) && decide (start < b + 512) && s.pieceLive q.piece && !q.drained.contains b && !q.lost.contains b then
    (s1.spoolLate q).modSpool q.rec_ q.second (fun q => { q with
      lost := b :: q.lost, draining := q.draining.filter (fun x => x != b) })
  else s1

/-- Every spool at the strobe of stitch k. -/
def State.spoolsReach (s : State) (k : Nat) : State := s.last.spools.foldl (fun s q => s.spoolReach k q) s

/-! ## Taps (R137) -/

/-- The memory record of a SET_TAP's spool index: spools counted in memory-record order (R147); the two spools of a TWIN piece's record
share one index (DESIGN CHOICE, assumption 192). -/
def State.tapRec (s : State) (i : Nat) : Option Nat :=
  (sortBy (fun r => [r]) (distinct (s.last.spools.map (·.rec_))))[i]?

/-- The largest delay of a memory record's line. -/
def State.lineWords (s : State) (rec_ : Nat) : Nat := ((s.last.pat.bind (fun p => p.mems[rec_]?)).map (·.words)).getD 0

/-- SET_TAP is accepted: the new tap comes at the next strobe (R131, R137; DESIGN CHOICE, assumption
188). -/
def State.startTap (s : State) (i d : Nat) : State :=
  match s.tapRec i with
  | none => s.placeEnd ⟨14, 0, i, 0⟩
  | some _ => (({ s with
      last := { s.last with stage := 5 },
      fab := { s.fab with due := s.fab.due ++ [.tap i d] } } : State)).placeBusy

/-- The strobe of a SET_TAP: read positions follow the new tap, in the blocks already fetched too (R137). -/
def State.tapAt (s : State) (k i d : Nat) : State :=
  match s.tapRec i with
  | none => s.placeEnd ⟨14, 0, i, 0⟩
  | some r =>
    let piece := ((s.last.spools.find? (fun q => q.rec_ == r)).map (·.piece)).getD 0
    let s1 := (s.last.spools.filter (fun q => q.rec_ == r)).foldl (fun s q =>
      let s := s.modSpool r q.second (fun q => { q with tap := d })
      (q.fetched.filter (fun b => decide (k < b + 512))).foldl (fun s b => s.fillRead { q with tap := d } b []) s) s
    s1.placeEnd ⟨0, 0, piece, 0⟩

/-! ## Meanings -/

/-- SPOOL_FETCH (R134). -/
def execSpoolFetch (dt rec_ : Nat) (second : Bool) (b : Nat) (s : State) : Host.Outcome State Fault Refusal :=
  whenRunning dt s (fun s => s.spoolFetch rec_ second b)

/-- SPOOL_FETCH_DONE (R133, R364). -/
def execSpoolFetchDone (dt rec_ : Nat) (second : Bool) (b : Nat) (bad : List (Fin 32)) (meets : List BobMeet) (s : State) :
    Host.Outcome State Fault Refusal :=
  whenRunning dt s (fun s => s.spoolFetchDone rec_ second b bad meets)

/-- SPOOL_LATE (R135). -/
def execSpoolLate (dt rec_ : Nat) (second : Bool) (b : Nat) (s : State) : Host.Outcome State Fault Refusal :=
  whenRunning dt s (fun s => s.spoolAbandon rec_ second b)

/-- SPOOL_DRAIN (R133). -/
def execSpoolDrain (dt rec_ : Nat) (second : Bool) (b : Nat) (s : State) : Host.Outcome State Fault Refusal :=
  whenRunning dt s (fun s => s.spoolDrain rec_ second b)

/-- SPOOL_DRAIN_DONE (R134). -/
def execSpoolDrainDone (dt rec_ : Nat) (second : Bool) (b : Nat) (badBytes : List (BitVec 14)) (meets : List BobMeet)
    (s : State) : Host.Outcome State Fault Refusal :=
  whenRunning dt s (fun s => s.spoolDrainDone rec_ second b (badBytes.map (·.toNat)) meets)

end Sys2Proof.Machine
end

