-- ==== Sys2Proof/Machine/LastCmds.lean ====
section
/-!
DEFINITION. The objects of the Last and of bobbins and package memory as they are written (R117, R131, R138, R139, R147,
R151, R159, R164, R168, R395), and the meanings of the Last's own events.
-/

namespace Sys2Proof.Machine

/-! ## PLACE_CMD (R131, R395) -/

/-- Fields of PLACE_CMD. -/
def placeKind (v : Nat) : Nat := bits v 3 0
/-- PIECE of PLACE_CMD. -/
def placePiece (v : Nat) : Nat := bits v 15 4

/-- The check of a PLACE_CMD write (R395), and after it the range of SET_TAP's delay (R137; DESIGN CHOICE, assumption 160). -/
def State.placeCmdCheck (s : State) (v : Nat) : Nat :=
  let kind := placeKind v
  if kind = 0 || decide (7 ≤ kind) || decide (0x800000 ≤ v) then St.format
  else if kind = 1 && s.nat Obj.imageVerified = 0 then St.notVerified
  else if s.pw.hush then St.pwrState
  else if s.level = 2 then St.service
  else if s.bit Obj.lastFreeze 0 0 && kind != 2 then St.frozen
  else if s.bit Obj.placeStatus 0 31 then St.busy
  else if kind = 5 && (s.tapRec (placePiece v)).any (fun r =>
      decide (s.nat Obj.placeArg < 4096) || decide (s.lineWords r < s.nat Obj.placeArg)) then St.range
  else St.ok

/-- REMOVE (R131): the piece stops at the next strobe. -/
def State.startRemove (s : State) (i : Nat) : State :=
  let st := (s.pieceSt i).state
  if st = 0 || st = 4 then s.placeEnd ⟨14, 0, i, 0⟩
  else (({ s with
    last := { s.last with stage := 5 },
    fab := { s.fab with due := s.fab.due ++ [.remove i] } } : State)).placeBusy

/-- An accepted PLACE_CMD write (R129, R131). -/
def State.placeCmd (s : State) (v : Nat) : State :=
  let i := placePiece v
  match placeKind v with
  | 1 => s.placeFull
  | 2 => s.startRemove i
  | 3 => s.restorePiece i
  | 4 => (({ s with last := { s.last with stage := 5, moves := s.last.moves ++ [(i, bits v 22 16)] } } : State)).placeBusy
  | 5 => s.startTap i (s.nat Obj.placeArg)
  | 6 => (({ s with last := { s.last with stage := 5, moves := s.last.moves ++ [(0, 128)] } } : State)).placeBusy
  | _ => s

/-- A staged blob is written at PAT_STAGE_OFFSET, which advances (R117). -/
def State.stageBlob (s : State) (l : List Byte) : State :=
  let o := s.nat Obj.patStageOffset
  (s.setPmBytes (s.stageBase + o) l).setNat Obj.patStageOffset 0 (o + l.length)

/-! ## Checks and effects by object -/

/-- RANGE, then the Last's own checks, of a value written to element i of one of its objects (R117, R132, R139, R141,
R147). -/
def State.lastCheck (s : State) (num : Nat) (_i : Nat) (v : Int) (bytes : List Byte) : Nat :=
  let n := v.toNat
  let in_ (lo hi : Nat) : Nat := if decide (n < lo) || decide (hi < n) then St.range else St.ok
  let free : Nat := if s.bit Obj.lastFreeze 0 0 then St.frozen else St.ok
  if num = Obj.placeCmd then s.placeCmdCheck n
  else if num = Obj.spoolThreshold then in_ 4096 131072
  else if num = Obj.spoolBwLimit then in_ 1 60000
  else if num = Obj.migWait then in_ 1 1024
  else if num = Obj.parityStormLimit then in_ 1 65535
  else if num = Obj.tempMigrate then (if (if s.e16 then 105 else 85) < v then St.range else St.ok)
  else if num = Obj.patStageOffset then in_ 0 stageSize
  else if num = Obj.patStageData then (if stageSize < s.nat Obj.patStageOffset + bytes.length then St.range else St.ok)
  else if num = Obj.resourceMap || num = Obj.bobbinMap || num = Obj.placeSeed then free
  else St.ok

/-- What an accepted write of the Last's objects does beside the value. -/
def State.lastEffect (s : State) (num i : Nat) (old v : Int) (bytes : List Byte) : State :=
  if num = Obj.placeCmd then s.placeCmd v.toNat
  else if num = Obj.patStageData then s.stageBlob bytes
  else if num = Obj.resourceMap then s.resourceMapEffect i old.toNat v.toNat
  else if num = Obj.bobbinMap then s.bobbinMapEffect i old.toNat v.toNat
  else s

/-- The three region sizes as they would stand after a write are allowed (R159). -/
def State.regionsOk (s : State) (fw spill spool : Nat) : Bool :=
  fw % 2 == 0 && spill % 2 == 0 && spool % 2 == 0 && decide (64 ≤ fw) &&
    fw + spill + spool == (if s.e16 then 14080 else 5888)

/-- The checks of the objects of bobbins, package memory and the arbiter (R151, R159, R162, R164, R168). The sizes of
R159 are checked as the write as a whole would leave them: `after` reads an object's element so. -/
def State.memCheck (s : State) (num i : Nat) (v : Int) (after : Nat → Nat → Nat) : Nat :=
  let n := v.toNat
  if num = Obj.bobbinOwner then s.ownerCheck i n
  else if num = Obj.pmFwMib || num = Obj.pmSpillMib || num = Obj.pmSpoolMib then
    (if s.regionsOk (after Obj.pmFwMib 0) (after Obj.pmSpillMib 0) (after Obj.pmSpoolMib 0) then St.ok else St.range)
  else if num = Obj.arbClass then (if n < 4 then St.ok else St.range)
  else if num = Obj.arbQuota then (if decide (1 ≤ n) && decide (n ≤ after Obj.arbWindow 0) then St.ok else St.range)
  else if num = Obj.arbWindow then
    (if decide (1 ≤ n) && decide (n ≤ 256) && decide (after Obj.arbQuota 0 ≤ n) then St.ok else St.range)
  else St.ok

/-- What an accepted write of those objects does beside the value (R152). -/
def State.memEffect (s : State) (num i : Nat) (old v : Int) : State :=
  if num = Obj.bobbinOwner then s.handing i old.toNat v.toNat else s

/-! ## Events of the Last -/

/-- PLACEMENT_DECIDED (R129 step 2, R396). -/
def execPlacementDecided (dt : Nat) (s : State) : Host.Outcome State Fault Refusal :=
  whenRunning dt s (fun s => s.placementDecided)

/-- PLACEMENT_LOADED (R129 step 4). -/
def execPlacementLoaded (dt : Nat) (s : State) : Host.Outcome State Fault Refusal :=
  whenRunning dt s State.placementLoaded

/-- MIGRATION_DECISION (R138–R140): nothing is decided in HUSH or TEST (R349, R354). -/
def execMigrationDecision (dt : Nat) (s : State) : Host.Outcome State Fault Refusal :=
  whenRunning dt s (fun s => if s.pw.hush || s.level = 2 || s.pw.reload then s else s.migrationDecision)

/-- MIGRATION_COPY_DONE (R140). -/
def execMigrationCopyDone (dt : Nat) (piece : Fin 4096) (s : State) : Host.Outcome State Fault Refusal :=
  whenRunning dt s (fun s => s.migCopyDone piece.val)

/-- MIG_FORCED (R141). -/
def execMigForced (dt : Nat) (piece : Fin 4096) (s : State) : Host.Outcome State Fault Refusal :=
  whenRunning dt s (fun s => s.forceMig piece.val)

/-- SHED (R90): the pieces the emergency names leave together at the next strobe. -/
def execShed (dt : Nat) (s : State) : Host.Outcome State Fault Refusal :=
  whenRunning dt s (fun s =>
    let asked := s.fab.due.any (fun d => match d with
      | .shed _ => true
      | _ => false)
    if s.fab.shedPending && !asked then { s with fab := { s.fab with due := s.fab.due ++ [.shed s.shedPieces] } } else s)

/-! ## Events of the stitch that move work too -/

/-- INLET_DISTRIBUTION (R13, R15, R83): once a bank, from its cutoff on. -/
def execInletDistribution (dt : Nat) (s : State) : Host.Outcome State Fault Refusal :=
  whenRunning dt s (fun s => if !s.fab.inWr.isOpen && s.within 160 then s.inletDistribution else s)

/-- WINDOW_FILL_DONE (R83). -/
def execWindowFillDone (dt : Nat) (n : Fin 128) (s : State) : Host.Outcome State Fault Refusal :=
  whenRunning dt s (fun s => s.fillDone n.val)

/-- RUN_COMPLETE (R66, R79–R86, R93, R140, R141). -/
def execRunComplete (dt : Nat) (n : Fin 128) (t : Nat) (s : State) : Host.Outcome State Fault Refusal :=
  whenRunning dt s (fun s =>
    match (s.needle n.val).run with
    | none => s
    | some r => if !(s.needle n.val).ranOut then s else (s.runComplete n.val t).migsAfterRun n.val r.stitch (r.stitch == s.stitch && s.deadlineOf != some r.stitch))

/-- FITTING_END (R82, R88). -/
def execFittingEnd (dt : Nat) (s : State) : Host.Outcome State Fault Refusal := whenRunning dt s State.fittingEnd

/-! ## Basting events -/

/-- PAGE_COPY_DONE (R104). -/
def execPageCopyDone (dt g : Nat) (s : State) : Host.Outcome State Fault Refusal := whenRunning dt s (fun s => s.copyDone g)

/-- GROUP0_COMMIT (R99, R101). -/
def execGroup0Commit (dt : Nat) (s : State) : Host.Outcome State Fault Refusal := whenRunning dt s State.commitGroup0

end Sys2Proof.Machine
end

