-- ==== Sys2Proof/Machine/SafeMatrix.lean ====
section
/-!
DEFINITION. The safety routing table (R314, R315) and the arithmetic of the safety matrix (R398).
-/

namespace Sys2Proof.Machine

/-! ## The table (R314) -/

/-- Byte o of the table in use. -/
def State.safeByte (s : State) (o : Nat) : Nat := (look (fun _ => (0 : Byte)) s.safe.table o).toNat
/-- A little-endian number of n bytes at offset o of the table in use. -/
def State.safeLe (s : State) (o n : Nat) : Nat := leNat (lookAll (fun _ => (0 : Byte)) s.safe.table o n)

/-- Bytes of a routing table copy. -/
def safeSize : Nat := 16384

/-- The reserved ranges of a table, as offset and length (R314). -/
def safeReserved : List (Nat × Nat) :=
  [(0x6, 2), (0x27, 1), (0x78, 8), (0x509, 247), (0x2600, 6652)]

/-- A copy is valid: MAGIC, FORMAT, reserved bytes and CRC hold (R315). -/
def safeCopyOk (m : List Byte) : Bool :=
  let at_ (o n : Nat) : List Byte := (m.drop o).take n
  m.length == safeSize && at_ 0 4 == [0x53, 0x41, 0x46, 0x45] && leNat (at_ 4 2) == 1
    && safeReserved.all (fun r => (at_ r.1 r.2).all (· == 0))
    && leNat (at_ 0x3FFC 4) == crc32 (at_ 0 0x3FFC)

/-- SEQ of a copy. -/
def safeSeq (m : List Byte) : Nat := leNat ((m.drop 8).take 4)

/-- a is later than b in serial-number arithmetic (R315). -/
def serialLater (a b : Nat) : Bool :=
  let d := (a + 2 ^ 32 - b % 2 ^ 32) % 2 ^ 32
  decide (1 ≤ d) && decide (d < 2 ^ 31)

/-- The copy R315 chooses: its number and bytes. -/
def chooseSafe (c0 c1 : List Byte) : Option (Nat × List Byte) :=
  match safeCopyOk c0, safeCopyOk c1 with
  | true, true => if serialLater (safeSeq c1) (safeSeq c0) then some (1, c1) else some (0, c0)
  | true, false => some (0, c0)
  | false, true => some (1, c1)
  | false, false => none

/-! ## Exact powers of ten (R398) -/

/-- Bisection for the greatest m below 2 ^ bits with m ^ q · 10 ^ k ≤ 2 ^ (32 q). -/
def rootBits (q k : Nat) : Nat → Nat → Nat
  | 0, m => m
  | b + 1, m => rootBits q k b (if (m + 2 ^ b) ^ q * 10 ^ k ≤ 2 ^ (32 * q) then m + 2 ^ b else m)

/-- round(2³¹ · 10 ^ (−k / q)), half away from zero; 10 ^ 0 is 1. -/
def tenPow (q k : Nat) : Nat := if k = 0 then 2 ^ 31 else (rootBits q k 33 0 + 1) / 2

/-- A gain clamped below 2³¹ (R398). -/
def gainWord (v : Nat) : Word := BitVec.ofNat 32 (min v (2 ^ 31 - 1))

/-- The crosspoint gain of a code; none for code 0 (R398). -/
def crosspoint (c : Nat) : Option Word := if c = 0 then none else some (gainWord (tenPow 40 (240 - c)))

/-- |x| with |0x8000_0000| taken as 0x7FFF_FFFF (R398). -/
def absWord (w : Word) : Nat := min w.toInt.natAbs 0x7FFFFFFF

/-! ## One stitch of the matrix (R398) -/

/-- The matrix inputs of the stitch from its inlet bank. -/
def State.matrixIn (s : State) : List Word :=
  (List.range 64).map (fun i =>
    let ch := s.safeLe (0x80 + 2 * i) 2
    if !s.safe.valid || ch = 0xFFFF then 0 else s.fab.inRd.word ch)

/-- Paging inputs in priority order, highest first. -/
def State.pageIn (s : State) : List Nat := (lookAll (fun _ => (0 : Byte)) s.safe.table 0x500 4).map (·.toNat) |>.filter (fun i => decide (i < 64))

/-- The peak of input i over the latest 480 stitches. -/
def peakOf (past : List (List Word)) (i : Nat) : Nat := (past.map (fun l => absWord (l.getD i 0))).foldl max 0

/-- The paging inputs active in the stitch, in priority order. -/
def State.activePaging (s : State) (past : List (List Word)) : List Nat :=
  let t := tenPow 40 (s.safeByte 0x505)
  s.pageIn.filter (fun i => decide (t < peakOf past i))

/-- A paging input of higher rank than input i is active. -/
def outranked (order active : List Nat) (i : Nat) : Bool :=
  match order.idxOf? i with
  | none => !active.isEmpty
  | some r => active.any (fun a => (order.idxOf? a).any (fun x => decide (x < r)))

/-- Ceiling division. -/
def ceilDiv (a b : Nat) : Nat := if b = 0 then 0 else (a + b - 1) / b

/-- One stitch of an attenuation toward its target. -/
def stepAtten (a target up down : Nat) : Nat :=
  if a < target then min target (a + up) else if target < a then max target (a - down) else a

/-- Product of two words taken into a cleared accumulator and written back with saturation, under NARROW (R31–R33,
R398). -/
def mulNarrow (x g : Word) : Word := (writeback (product x g).1 true false).1

/-- The outputs from the ducked inputs. -/
def matrixOut (xp : Nat → Nat → Option Word) (y : List Word) : List Word :=
  (List.range 64).map (fun o =>
    (writeback ((y.zipIdx.map (fun e => match xp o e.2 with
      | some g => (product e.1 g).1
      | none => 0)).sum) true false).1)

/-- The matrix computes its stitch: peaks, targets and attenuations, duck gains, outputs (R398). -/
def State.runMatrix (s : State) : State :=
  let x := s.matrixIn
  let past := (x :: s.safe.past).take 480
  let order := s.pageIn
  let active := s.activePaging past
  let depth := s.safeByte 0x504 * 128
  let up := ceilDiv depth 240
  let down := ceilDiv depth (48 * s.safeLe 0x506 2)
  let atten := s.safe.atten.zipIdx.map (fun e => stepAtten e.1 (if outranked order active e.2 then depth else 0) up down)
  let y := (x.zip atten).map (fun e => mulNarrow e.1 (gainWord (tenPow 5120 e.2)))
  let out := if s.safe.valid then matrixOut (fun o i => crosspoint (s.safeByte (0x600 + 64 * o + i))) y else List.replicate 64 0
  { s with safe := { s.safe with past := past, atten := atten, out := out } }

/-- The outlet channel of a matrix output's word in the bank (R314): output o on channel 8 192 + o. A needle whose run is
not complete holds its outputs (R84); needle n forms outputs 8n to 8n + 7 (DESIGN CHOICE). -/
def State.matrixBank (s : State) (k : Nat) : List (Nat × Word) :=
  s.safe.out.zipIdx.map (fun e =>
    let ch := 8192 + e.2
    (ch, if (s.needle (e.2 / 8)).doneFor = some k then e.1 else ((s.fab.outBanks.head?).map (fun b => b.word ch)).getD 0))

/-- The deadline of a stitch (R14, R15, R84, R313, R314): in TRIM the outlet bank holds the matrix's outputs and zeros. -/
def State.deadlineAll (s : State) : State :=
  let late := s.placedNeedles.filter (fun n => (s.needle n).doneFor != some s.stitch)
  if s.pw.hush || s.level = 2 || s.pw.reload then
    let s1 := s.deadline
    { s1 with fab := { s1.fab with outBanks := match s1.fab.outBanks with
        | b :: t => { b with words := [], held := [] } :: t
        | [] => [] } }
  else if s.level ≠ 1 then s.deadline.postpone late
  else
    let s1 := if s.last.safety then s.runMatrix else s
    let words := if s.last.safety then s1.matrixBank s1.stitch else []
    let held := (words.map (·.1)).filter (fun ch => (s1.needle ((ch - 8192) / 8)).doneFor != some s1.stitch)
    let s2 := s1.deadline.postpone late
    { s2 with fab := { s2.fab with outBanks := match s2.fab.outBanks with
        | b :: t => { b with words := words, held := held } :: t
        | [] => [] } }

/-- DEADLINE (R14, R15, R67, R84, R86, R141, R145, R398): once a stitch, 320 ns before the next strobe (R74). -/
def execDeadline (dt : Nat) (s : State) : Host.Outcome State Fault Refusal :=
  whenRunning dt s (fun s => if s.within 320 && s.deadlineOf != some s.stitch then s.deadlineAll else s)

end Sys2Proof.Machine
end

