-- ==== Sys2Proof/Machine/Merge.lean ====
section
/-!
DEFINITION. Competing writers (R243–R245, R278, R280): merge policies of the venue slots, contributions and their
sources, tacks as they overlay the policies, and the end of a source and of a tack (R244, R270, R272, R273).
-/

namespace Sys2Proof.Machine

/-! ## Policies and tacks -/

/-- An object number is a venue slot (R234). -/
def isSlot (num : Nat) : Bool := decide (slotBase ≤ num) && decide (num < 0x2000000)
/-- The universe of a slot. -/
def univOf (num : Nat) : Nat := (num - slotBase) / 512
/-- Slot object k (0–511) of universe u (R234). -/
def slotNum (u k : Nat) : Nat := slotBase + 512 * u + k

/-- UNIV_CFG of universe index u (R276). -/
def State.univCfg (s : State) (u : Nat) : Nat := s.nat (Obj.univCfg0 + u / 1024) (u % 1024)
/-- POLICY of a universe: 0 LAST, 1 PRIORITY, 2 HTP, 3 LTP, 4 TACKED. -/
def State.univPolicy (s : State) (u : Nat) : Nat := bits (s.univCfg u) 4 2
/-- The merge policy of an object: every object but a venue slot has LAST (R243). -/
def State.policy (s : State) (num : Nat) : Nat := if isSlot num then s.univPolicy (univOf num) else 0

/-- The tack that covers a number. -/
def State.tackOn (s : State) (num : Nat) : Option Tack :=
  s.dict.tacks.find? (fun t => decide (t.lo ≤ num) && decide (num ≤ t.hi))
/-- A tack of source w covers the number. -/
def State.holdsTack (s : State) (src : Src) (num : Nat) : Bool := (s.tackOn num).any (fun t => t.src == src)

/-! ## Contributions -/

/-- Change the dictionary engine's state. -/
def State.modDict (s : State) (f : Dict → Dict) : State := { s with dict := f s.dict }

/-- Subscriptions held: those of sessions and cores, and the OSC mapping entries that send (R254, R294). -/
def State.subsUsed (s : State) : Nat :=
  s.dict.subs.length + (s.ven.map.filter (fun e => decide (2 ≤ ((e.2.getD 4 0).toNat)))).length

/-- Bring DICT_SUB_USED up to date. -/
def State.showSubs (s : State) : State := s.setNat Obj.dictSubUsed 0 s.subsUsed

/-- The contributions to an object. -/
def State.contribsOf (s : State) (num : Nat) : List Contrib := look (fun _ => []) s.dict.contribs num
/-- Give an object its contributions. -/
def State.setContribs (s : State) (num : Nat) (l : List Contrib) : State :=
  s.modDict (fun d => { d with contribs := put (fun _ => []) d.contribs num l })

/-- HOLDER_PRIO and the holder under PRIORITY (R235, R243). -/
def State.holderOf (s : State) (num : Nat) : Option (Src × Nat) := look (fun _ => none) s.dict.holders num
/-- Give an object its holder. -/
def State.setHolder (s : State) (num : Nat) (h : Option (Src × Nat)) : State :=
  s.modDict (fun d => { d with holders := put (fun _ => none) d.holders num h })
/-- HOLDER_PRIO. -/
def State.holderPrio (s : State) (num : Nat) : Nat := ((s.holderOf num).map (·.2)).getD 0

/-- The highest priority among the live sACN sources of a universe (R278). -/
def State.topPrio (s : State) (u : Nat) : Nat :=
  ((s.ven.srcs.filter (fun x => x.univ == u)).map (·.prio)).foldl max 0

/-- A contribution counts: of sACN sources only those at the highest packet priority do (R278). -/
def State.counts (s : State) (u : Nat) (c : Contrib) : Bool :=
  match c.src with
  | .sacn cid => s.ven.srcs.any (fun x => x.univ == u && x.cid == cid && x.prio == s.topPrio u)
  | _ => true

/-- The contribution changed latest. -/
def latest : List Contrib → Option Contrib
  | [] => none
  | c :: t =>
    match latest t with
    | none => some c
    | some d => if d.at_ < c.at_ then some c else some d

/-- The value the policy gives a slot from the contributions of live sources (R243). -/
def State.mergedVal (s : State) (num : Nat) : Int :=
  let l := (s.contribsOf num).filter (s.counts (univOf num))
  if s.policy num = 2 then (l.map (·.v)).foldl max 0
  else if s.policy num = 3 then ((latest l).map (·.v)).getD (s.obj num)
  else s.obj num

/-- Recompute an HTP or LTP value, unless a tack covers the object: then it stays until the tack ends (R243, R244). -/
def State.remerge (s : State) (num : Nat) : State :=
  if (s.tackOn num).isSome then s else s.setObj num 0 (s.mergedVal num)

/-- The numbers of a universe's slots that hold contributions. -/
def State.contribNums (s : State) (lo hi : Nat) : List Nat :=
  (s.dict.contribs.filter (fun e => decide (lo ≤ e.1) && decide (e.1 ≤ hi))).map (·.1)

/-- Distinct members of a list of sources. -/
def distinctSrc : List Src → List Src
  | [] => []
  | a :: t => if t.contains a then distinctSrc t else a :: distinctSrc t

/-- The sources of a universe: those with a contribution recorded, and the live sACN sources (R280). -/
def State.univSources (s : State) (u : Nat) : List Src :=
  distinctSrc ((s.contribNums (slotNum u 0) (slotNum u 511)).flatMap (fun n => (s.contribsOf n).map (·.src))
    ++ (s.ven.srcs.filter (fun x => x.univ == u)).map (fun x => Src.sacn x.cid))

/-- The universes with a source. -/
def State.sourceUnivs (s : State) : List Nat :=
  distinct (s.dict.contribs.map (fun e => univOf e.1) ++ s.ven.srcs.map (·.univ))

/-- Source and universe pairs in all, as SLOT_SRC_USED reports (R280). -/
def State.pairsUsed (s : State) : Nat := (s.sourceUnivs.map (fun u => (s.univSources u).length)).sum

/-- Bring SLOT_SRC_USED up to date. -/
def State.showPairs (s : State) : State := s.setNat Obj.slotSrcUsed 0 s.pairsUsed

/-- Another source fits a universe (R280). -/
def State.pairFits (s : State) (u : Nat) (src : Src) : Bool :=
  let l := s.univSources u
  l.contains src || (decide (l.length < 8) && decide (s.pairsUsed < 65536))

/-! ## Writing a slot or any other object (R240 steps 6–8, R243, R244) -/

/-- TACKED, PRIORITY_LOW or MERGE_FULL, where a write by a source meets them. -/
def State.mergeCheck (s : State) (src : Src) (prio num : Nat) : Nat :=
  match s.tackOn num with
  | some t =>
    if t.src != src then St.tacked
    else if (s.policy num = 2 || s.policy num = 3) && !s.pairFits (univOf num) src then St.mergeFull else St.ok
  | none =>
    if s.policy num = 4 then St.tacked
    else if s.policy num = 1 && decide (prio < s.holderPrio num) then St.priorityLow
    else if (s.policy num = 2 || s.policy num = 3) && !s.pairFits (univOf num) src then St.mergeFull
    else St.ok

/-- Record a source's contribution; `always` makes it the latest change even where the value is the same. -/
def State.contribute (s : State) (src : Src) (num : Nat) (v : Int) (always : Bool) : State :=
  let old := s.contribsOf num
  let k := s.dict.order + 1
  let same := old.any (fun c => c.src == src && c.v == v)
  let s1 := s.modDict (fun d => { d with order := k })
  if same && !always then s
  else s1.setContribs num (old.filter (fun c => c.src != src) ++ [⟨src, v, k⟩])

/-- An accepted write of a slot (R243, R244). -/
def State.slotWrite (s : State) (src : Src) (prio num : Nat) (v : Int) : State :=
  let mine := s.holdsTack src num
  match s.policy num with
  | 1 => (s.setObj num 0 v).setHolder num (some (src, prio))
  | 2 => if mine then (s.contribute src num v true).setObj num 0 v else (s.contribute src num v false).remerge num
  | 3 => if mine then (s.contribute src num v true).setObj num 0 v else (s.contribute src num v false).remerge num
  | _ => s.setObj num 0 v

/-! ## The end of a source (R243) -/

/-- Remove a source's contributions among the numbers lo to hi, and its hold under PRIORITY there; values recomputed. -/
def State.dropSource (s : State) (src : Src) (lo hi : Nat) : State :=
  let nums := (s.contribNums lo hi).filter (fun n => (s.contribsOf n).any (fun c => c.src == src))
  let held := (s.dict.holders.filter (fun e => decide (lo ≤ e.1) && decide (e.1 ≤ hi) && e.2.any (fun h => h.1 == src))).map (·.1)
  let s1 := nums.foldl (fun s n => s.setContribs n ((s.contribsOf n).filter (fun c => c.src != src))) s
  let s2 := held.foldl (fun s n => s.setHolder n none) s1
  nums.foldl State.remerge s2

/-- SOURCE_END: a session's, a core's, an OSC peer's or a DMX input's contributions leave every object (R243). -/
def State.endSource (s : State) (src : Src) : State := (s.dropSource src slotBase 0x1FFFFFF).showPairs

/-- An sACN source ends on its universe; the sources that remain are judged again by priority (R278). -/
def State.endSacn (s : State) (cid u : Nat) : State :=
  let s1 : State := { s with ven := { s.ven with srcs := s.ven.srcs.filter (fun x => !(x.cid == cid && x.univ == u)) } }
  let s2 := s1.dropSource (.sacn cid) (slotNum u 0) (slotNum u 511)
  ((s2.contribNums (slotNum u 0) (slotNum u 511)).foldl State.remerge s2).showPairs

/-! ## The end of a tack (R244, R272, R273) -/

/-- The numbers from lo to hi whose value an ending tack may have held: those with contributions, and those whose value
is not its default. -/
def State.heldNums (s : State) (lo hi : Nat) : List Nat :=
  distinct (s.contribNums lo hi ++
    ((s.regs.filter (fun e => decide (lo ≤ e.1 / 2048) && decide (e.1 / 2048 ≤ hi) && isSlot (e.1 / 2048))).map (fun e => e.1 / 2048)))

/-- A tack is no longer held: each covered object returns to its policy (R244). -/
def State.dropTack (s : State) (t : Tack) : State :=
  let s1 := s.modDict (fun d => { d with tacks := d.tacks.filter (fun x => x.id != t.id) })
  let s2 := (s1.heldNums t.lo t.hi).foldl State.remerge s1
  s2.setNat Obj.tackUsed 0 s2.dict.tacks.length

/-- The core of a source and the session id a record and the log give it (R273, R366). -/
def holderIds (src : Src) : Nat × Nat × Nat :=
  match src with
  | .session id => (255, id, id)
  | .core n => (n, 0, 0xFFFFFF00 + n)
  | _ => (255, 0, 0)

/-- A tack is broken: its objects return to their policies, the break is counted, logged, recorded, and every covered
object counts as changed (R273). At most 256 records are kept, the oldest deleted first. -/
def State.breakTack (s : State) (t : Tack) (reason : Nat) : State :=
  let s1 := s.dropTack t
  let (core, holder, arg) := holderIds t.src
  let seq := s1.chgSeq + 1
  let r : TackRec := ⟨t.lo, t.hi, reason, core, holder, s1.stitch, s1.now⟩
  let s2 : State := { s1 with
    chgSeq := seq
    dict := { s1.dict with
      broken := s1.dict.broken ++ [(t.lo, t.hi, seq)]
      records := (s1.dict.records ++ [r]).drop (s1.dict.records.length + 1 - 256) } }
  (s2.bump Obj.tackBrokenHem).log 0x60 t.lo t.hi arg reason

/-- Every tack of a source is broken. -/
def State.breakTacks (s : State) (src : Src) (reason : Nat) : State :=
  (s.dict.tacks.filter (fun t => t.src == src)).foldl (fun s t => s.breakTack t reason) s

/-- A universe's policy changes: its contributions go and every slot keeps its value (R276). -/
def State.changePolicy (s : State) (u : Nat) : State :=
  let nums := s.contribNums (slotNum u 0) (slotNum u 511)
  let held := (s.dict.holders.filter (fun e => isSlot e.1 && univOf e.1 == u)).map (·.1)
  ((held.foldl (fun s n => s.setHolder n none) (nums.foldl (fun s n => s.setContribs n []) s))).showPairs

/-! ## Events -/

/-- TACK_EXPIRE (R272, R273): a lease that has run out is broken with reason 4, LEASE. -/
def execTackExpire (dt id : Nat) (s : State) : Host.Outcome State Fault Refusal :=
  whenRunning dt s (fun s =>
    match s.dict.tacks.find? (fun t => t.id == id && decide (t.expiry ≤ s.now)) with
    | some t => s.breakTack t 4
    | none => s)

/-- TACK_RECORD_EXPIRE (R273): records older than 60 s are deleted. -/
def execTackRecordExpire (dt : Nat) (s : State) : Host.Outcome State Fault Refusal :=
  whenRunning dt s (fun s => s.modDict (fun d => { d with records := d.records.filter (fun r => decide (s.now < r.at_ + 60000 * msPs)) }))

end Sys2Proof.Machine
end

