-- ==== Sys2Proof/Machine/Serial.lean ====
section
/-!
DEFINITION. The serial port (R274, R297–R302, R310) and the boot flash on it (R311, R312).
-/

namespace Sys2Proof.Machine

/-! ## The boot flash (R311, R312) -/

/-- Bytes of the flash the 9640 lays out (R311). -/
def flashSize : Nat := 0x8000000
/-- Byte o of the boot flash; an erased byte reads 0xFF. -/
def State.flashByte (s : State) (o : Nat) : Byte := look (fun _ => 0xFF) s.flash o
/-- The n bytes from offset o. -/
def State.flashBytes (s : State) (o n : Nat) : List Byte := lookAll (fun _ => 0xFF) s.flash o n
/-- Write bytes from offset o (a program after the erase that precedes it). -/
def State.setFlash (s : State) (o : Nat) (l : List Byte) : State := { s with flash := putAll (fun _ => 0xFF) s.flash o l }
/-- Erase n bytes from offset o. -/
def State.eraseFlash (s : State) (o n : Nat) : State :=
  { s with flash := s.flash.filter (fun e => decide (e.1 < o) || decide (o + n ≤ e.1)) }

/-- Offsets of the slot record sectors, safety tables, journal areas and image slots (R311). -/
def flashRecord (i : Nat) : Nat := 0x1000 * i
/-- The safety routing table's copies. -/
def flashSafe (i : Nat) : Nat := 0x4000 + 0x4000 * i
/-- The journal areas. -/
def flashJournal (i : Nat) : Nat := 0x10000 + 0x100000 * i
/-- The image slots. -/
def flashSlot (i : Nat) : Nat := 0x2000000 + 0x2000000 * i

/-- The protected areas (R311). -/
def flashProtected (o : Nat) : Bool :=
  decide (o < 0x210000) || (decide (0x2000000 ≤ o) && decide (o < 0x6000000))

/-- A program clears bits only, inside the page of 256 bytes that holds its address. -/
def State.programFlash (s : State) (o : Nat) (l : List Byte) : State :=
  l.zipIdx.foldl (fun s e =>
    let a := o / 256 * 256 + (o + e.2) % 256
    s.setFlash a [s.flashByte a &&& e.1]) s

/-- The 32-bit address of a flash command: its three address bytes and the extended register (R312). -/
def State.flashAddr (s : State) (cmd : List Byte) : Nat := (s.ser.bank * 2 ^ 24 + beNat ((cmd.drop 1).take 3)) % flashSize

/-- Change the serial port's inner state. -/
def State.modSer (s : State) (f : Serial → Serial) : State := { s with ser := f s.ser }

/-- What a firmware transaction on SEL_OA does to the flash at the address it names (R312). -/
def State.flashCmd (s : State) (cmd : List Byte) (a : Nat) : State :=
  let done (s : State) : State := s.modSer (fun p => { p with wel := false })
  match (cmd.getD 0 0).toNat with
  | 0x06 => s.modSer (fun p => { p with wel := true })
  | 0xC5 => s.modSer (fun p => { p with bank := (cmd.getD 1 0).toNat })
  | 0x02 => if s.ser.wel then done (s.programFlash a (cmd.drop 4)) else s
  | 0x20 => if s.ser.wel then done (s.eraseFlash (a / 0x1000 * 0x1000) 0x1000) else s
  | 0xD8 => if s.ser.wel then done (s.eraseFlash (a / 0x10000 * 0x10000) 0x10000) else s
  | _ => s

/-! ## Messages that wait for read answers (R274) -/

/-- A reply or NOTIFY joins the 64 messages of its session: a full queue loses its oldest NOTIFY, never a reply. -/
def State.serialPush (s : State) (isNotify : Bool) (r : Reply) : State :=
  let mine (e : Bool × Reply) : Bool := e.2.session == r.session
  let q := s.ursin.serialq
  let full := decide (64 ≤ (q.filter mine).length)
  let old := q.find? (fun e => mine e && e.1)
  let q1 := if full then (match old with
    | some e => q.erase e
    | none => q) else q
  if full && isNotify && old.isNone then s
  else { s with ursin := { s.ursin with serialq := q1 ++ [(isNotify, r)] } }

/-! ## Roles (R298) -/

/-- SER_STATUS shows the role. -/
def State.showSer (s : State) : State :=
  (s.setBit Obj.serStatus 0 1 (s.ser.role == 2)).setBit Obj.serStatus 0 2 (s.ser.role == 1)

/-- SEL_IN_DEASSERT (R298): the port may master 1 µs later. -/
def execSelInDeassert (dt : Nat) (s : State) : Host.Outcome State Fault Refusal :=
  whenRunning dt s (fun s =>
    (s.modSer (fun p => { p with role := if p.role = 2 then 0 else p.role, selIn := false, freeAt := s.now + 1000000 })).showSer)

/-- The port may become master: idle, with SEL_IN deasserted for 1 µs (R298). -/
def State.mayMaster (s : State) : Bool := s.ser.role == 0 && !s.ser.selIn && decide (s.ser.freeAt ≤ s.now)

/-! ## The 9640's own accesses to the flash (R298, R312) -/

/-- The boot chain or the journal has an access to the flash to make (R252, R313, R322, R330). -/
def State.flashWork (s : State) : Bool :=
  decide (s.nat Obj.bootState < 3) || s.boot.validating.isSome || !(s.dict.journal.dirty.isEmpty || s.dict.journal.fault)

/-- An own access ends: the port returns to idle. -/
def State.ownDone (s : State) : State :=
  if s.ser.own then (s.modSer (fun p => { p with own := false, role := 0 })).showSer else s

/-- What the 9640 does with an own access, once the port is or may become master for it (R298); until then it waits. -/
def State.onFlash (s : State) (f : State → State) : State :=
  if s.mayMaster || s.ser.own then (f s).ownDone else s

/-- The bank of 16 MiB that holds an offset is selected (R312). -/
def State.selectBank (s : State) (o : Nat) : State := s.modSer (fun p => { p with bank := o / 2 ^ 24 })

/-- An own erase: it ends the write enable. -/
def State.ownErase (s : State) (o n : Nat) : State :=
  ((s.eraseFlash o n).selectBank o).modSer (fun p => { p with wel := false })

/-- n free bytes. -/
def State.freshBytes (s : State) : Nat → List Byte × State
  | 0 => ([], s)
  | n + 1 =>
    let (v, s1) := s.fresh
    let (l, s2) := s1.freshBytes n
    (BitVec.ofNat 8 v :: l, s2)

/-- An own program; bytes that no longer program are left free (assumption 169). -/
def State.ownProgram (s : State) (o : Nat) (l : List Byte) : State :=
  let t := if s.worn.any (fun a => decide (o ≤ a) && decide (a < o + l.length)) then
      (let (f, t) := s.freshBytes l.length; t.setFlash o f)
    else s.setFlash o l
  (t.selectBank (o + l.length - 1)).modSer (fun p => { p with wel := false })

/-! ## Master transactions (R299, R300) -/

/-- A transaction record of R300. -/
structure SerRec where
  sel : Nat
  ta : Nat
  cmdLen : Nat
  rxLen : Nat
  tx : Nat
  rx : Nat
  deriving DecidableEq, Repr

/-- The record at a package-memory offset. -/
def State.serRec (s : State) (o : Nat) : SerRec :=
  let f (k n : Nat) : Nat := leNat (s.pmBytes (o + k) n)
  ⟨f 0 1, f 1 1, f 2 2, f 4 4, f 8 8, f 16 8⟩

/-- The bytes a record drives. -/
def State.serCmd (s : State) (r : SerRec) : List Byte := s.pmBytes r.tx r.cmdLen

/-- Core n's transaction by the record at an offset, as it stands now. -/
def State.serTx (s : State) (n o : Nat) : SerTx :=
  let r := s.serRec o
  let cmd := s.serCmd r
  ⟨n, r.sel, r.ta, r.rxLen, r.rx, cmd, s.flashAddr cmd⟩

/-- A program or erase command. -/
def flashWrites (cmd : List Byte) : Bool := let op := (cmd.getD 0 0).toNat; op == 0x02 || op == 0x20 || op == 0xD8

/-- A record is refused: a field outside its range, a buffer outside the firmware region, or a program or erase of a
protected area in a lifecycle state that does not permit it (R300, R311). -/
def State.serRefused (s : State) (o : Nat) : Bool :=
  let r := s.serRec o
  let cmd := s.serCmd r
  !s.inFirmware o 24 || decide (2 < r.sel) || decide (8 < r.ta) || r.cmdLen == 0 || decide (4096 < r.cmdLen)
    || decide (16777216 < r.rxLen) || !s.inFirmware r.tx r.cmdLen || (r.rxLen != 0 && !s.inFirmware r.rx r.rxLen)
    || (r.sel == 0 && flashWrites cmd && flashProtected (s.flashAddr cmd) && decide (2 ≤ s.nat Obj.lifecycle))

/-- A core's transaction ends: its status, and its interrupt until the status is read (R300). -/
def State.serEnd (s : State) (n status : Nat) : State :=
  (s.setNat Obj.serMStatus n status).modSer (fun p => { p with irq := n :: p.irq.filter (· != n) })

/-- The port masters for a transaction: a select is asserted and the command bytes go out. -/
def State.serStart (s : State) (x : SerTx) : State :=
  (((s.modSer (fun p => { p with running := some x, again := none, role := 1 })).showSer).setNat Obj.serMStatus x.core 2).emit
    (.spi x.sel x.cmd x.ta x.rxLen)

/-- A transaction cut short by a mode fault is repeated; a program or erase has its write enable again before it (R298). -/
def State.serRepeat (s : State) (x : SerTx) : State :=
  if x.sel = 0 && flashWrites x.cmd then ((s.modSer (fun p => { p with wel := true })).emit (.spi 0 [6] 0 0)).serStart x
  else s.serStart x

/-- SERIAL_MASTER_START (R298–R300): a port that may master repeats the transaction that was cut short, else starts the oldest
request, else an access of the 9640's own (DESIGN CHOICE, assumption 204). -/
def execSerialMasterStart (dt : Nat) (s : State) : Host.Outcome State Fault Refusal :=
  whenRunning dt s (fun s =>
    if !s.mayMaster then s
    else
      match s.ser.again, s.ser.queue with
      | some x, _ => s.serRepeat x
      | none, (n, o) :: t =>
        let s1 := s.modSer (fun p => { p with queue := t })
        if s.serRefused o then s1.serEnd n 4 else s1.serStart (s.serTx n o)
      | none, [] => if s.flashWork then (s.modSer (fun p => { p with own := true, role := 1 })).showSer else s)

/-- Bytes read with t idle cycles before them, of a device that drives from the release of SIO on: its first t bits are lost
(R299). -/
def lateBits (t : Nat) (l : List Byte) : List Byte :=
  (l.zip (l.drop 1)).map (fun e => BitVec.ofNat 8 ((256 * e.1.toNat + e.2.toNat) / 2 ^ (8 - t)))

/-- The bytes a transaction reads: from the boot flash by command 0x03, else what the device answered (R299). -/
def State.serRead (s : State) (x : SerTx) (rx : List Byte) : List Byte :=
  if x.sel = 0 && (x.cmd.getD 0 0).toNat == 3 && decide (4 ≤ x.cmd.length) then
    lateBits x.ta (s.flashBytes (x.addr + (x.cmd.length - 4)) (x.rxLen + 1))
  else (List.range x.rxLen).map (fun i => rx.getD i 0xFF)

/-- SERIAL_MASTER_DONE (R299, R300). -/
def execSerialMasterDone (dt : Nat) (rx : List Byte) (s : State) : Host.Outcome State Fault Refusal :=
  whenRunning dt s (fun s =>
    match s.ser.running with
    | none => s
    | some x =>
      let s1 := if x.rxLen = 0 then s else s.setPmBytes x.rx (s.serRead x rx)
      let s2 := if x.sel = 0 then s1.flashCmd x.cmd x.addr else s1
      ((s2.modSer (fun p => { p with running := none, role := 0 })).showSer).serEnd x.core 3)

/-- SER_M_GOn is written (R300). -/
def State.serGo (s : State) (n o : Nat) : State :=
  (s.setNat Obj.serMStatus n 1).modSer (fun p => { p with queue := p.queue ++ [(n, o)] })

/-- The checks of this chapter's serial objects (R299, R300). -/
def State.serCheck (s : State) (num i : Nat) (v : Int) : Nat :=
  let n := v.toNat
  if num = Obj.serMDiv then (if decide (n < 2) || decide (255 < n) then St.range else St.ok)
  else if num = Obj.serMGo then
    (if s.nat Obj.serMStatus i = 1 || s.nat Obj.serMStatus i = 2 then St.serBusy else St.ok)
  else St.ok

/-- A core is reset: its queued transactions are dropped and its status reads IDLE (R356). -/
def State.serDrop (s : State) (n : Nat) : State :=
  (s.setNat Obj.serMStatus n 0).modSer (fun p => { p with
    queue := p.queue.filter (fun q => q.1 != n), again := p.again.filter (fun x => x.core != n), irq := p.irq.filter (· != n) })

/-! ## Slave frames (R274, R301, R302) -/

/-- The bytes of a frame that carries a message: its length, little-endian, the message, and the CRC-16 over both, high byte
first (R274, R301). -/
def serialFrame (l : List Byte) : List Byte :=
  let body := leBytes 2 l.length ++ l
  body ++ beBytes 2 (crc16 body)

/-- A read answer: the message's frame, or LEN 0 alone when nothing is pending (R274). -/
def serialAnswer : Option Reply → List Byte
  | none => [0, 0]
  | some r => serialFrame r.raw

/-- The ready phase: 0xA5 for each byte time the port is not ready, a free number of them, then 0x3C (R301; DESIGN
CHOICE, assumption 203). -/
def State.readyPhase (s : State) : List Byte × State :=
  let (v, t) := s.fresh
  (List.replicate v 0xA5 ++ [0x3C], t)

/-- The frame of this assertion of SEL_IN is over: nothing more is taken or driven until SEL_IN is deasserted (R301, R302). -/
def State.frameOver (s : State) : State := s.modSer (fun p => { p with used := true })

/-- A write frame whose ready phase has been sent: one that holds waits in the receive buffer for the dictionary engine, which takes
it as the message's own command; bytes clocked past the frame are ignored (R274, R302). -/
def State.takeFrame (s : State) (bytes : List Byte) : State :=
  let len := leNat (bytes.take 2)
  let msg := (bytes.drop 2).take len
  if bytes.length < 2 then s.bump Obj.serAbortHem
  else if len < 24 || 8192 < len then s.bump Obj.serFrameErrHem
  else if bytes.length < len + 4 then s.bump Obj.serAbortHem
  else if bytes.take (len + 4) ≠ serialFrame msg then s.bump Obj.ursinDropHem
  else s.modSer (fun p => { p with frames := p.frames ++ [msg] })

/-- SERIAL_READ_REQUEST (R274, R301, R302): the oldest message goes out after the ready phase, with 0xFF for each byte clocked past
it; cut short, a reply goes back to the head. -/
def execSerialReadRequest (dt : Nat) (whole : Bool) (extra : BitVec 16) (s : State) : Host.Outcome State Fault Refusal :=
  whenRunning dt s (fun s =>
    if s.ser.role ≠ 2 || s.ser.used then s
    else
      let (ready, t) := s.readyPhase
      let drop : State := { t with ursin := { t.ursin with serialq := t.ursin.serialq.drop 1 } }
      let send (u : State) (r : Option Reply) : State := u.emit (.serial (ready ++ serialAnswer r ++ List.replicate extra.toNat 0xFF))
      State.frameOver (match s.ursin.serialq with
      | [] => if whole then send t none else s.bump Obj.serAbortHem
      | (isNotify, r) :: _ =>
        if whole then send drop (some r)
        else if isNotify then State.bump { s with ursin := { s.ursin with serialq := s.ursin.serialq.drop 1 } } Obj.serAbortHem
        else s.bump Obj.serAbortHem))

end Sys2Proof.Machine
end

