-- ==== Sys2Proof/Machine/System.lean ====
section
/-!
DEFINITION. Resets and what survives them (R334, R351, R355–R356, R376, R377), measurements (R326) and the interrupt
lines (R388).
-/

namespace Sys2Proof.Machine

/-! ## Time of the standby island (R351) -/

/-- The RTC in ps now: with the rails up it runs; in STANDBY only while RTC_EN is set. -/
def State.rtcPs (s : State) : Nat :=
  if s.phase = .standby && !s.bit Obj.wakeCfg 0 9 then s.island.rtc else s.island.rtc + (s.now - s.island.at_)
/-- RTC_NOW. -/
def State.rtcNow (s : State) : Nat := s.rtcPs / 1000000000000 % 2 ^ 32
/-- Settle the RTC at the present moment. -/
def State.settleRtc (s : State) : State := { s with island := ⟨s.rtcPs, s.now⟩ }

/-! ## Device resets (R355) -/

/-- The objects that outlive a device reset: the fuses' (R334) and the standby island's (R351). -/
def lastingObjects : List (Nat × Nat) :=
  [(Obj.lifecycle, 1), (Obj.rollbackCount, 1), (Obj.keyRevoked, 2), (Obj.rtcAlarm, 1), (Obj.wakeCfg, 1), (Obj.wakeSource, 1)]

/-- The debug level after reset (R340). -/
def State.levelAtReset (s : State) : State :=
  s.setNat Obj.debugLevel 0 (if s.nat Obj.lifecycle = 0 || s.nat Obj.lifecycle = 3 then 2 else 0)

/-- What RESET_CAUSE reads after a reset of a cause: of two sources at one instant the lower code (R355). -/
def State.causeOf (s : State) (cause : Nat) : Nat :=
  if s.phase = .inReset && s.now == 0 then min cause (s.nat Obj.resetCause) else cause

/-- A device reset with its cause (R355): everything starts over but the fuses, the flash and the standby island; the
contents of memory are lost. -/
def State.deviceReset (s : State) (cause : Nat) : State :=
  let r := State.reset
  let s1 : State := { r with
    pending := s.pending, e16 := s.e16, phase := .inReset, flash := s.flash, worn := s.worn, keyKill := s.keyKill
    island := ⟨s.rtcPs, 0⟩, out := s.out, free := s.free
    regs := (List.range 8).map (fun n => (objKey (ndlObj n 0) 0, (1 : Int))) }
  let s2 := lastingObjects.foldl (fun a e =>
    (List.range e.2).foldl (fun a i => a.setNat e.1 i (s.nat e.1 i)) a) s1
  let s3 := (s2.setBlob Obj.ownerKeyHash (s.blob Obj.ownerKeyHash)).setNat Obj.resetCause 0 (s.causeOf cause)
  { s3.levelAtReset with chg := [], chgSeq := 0 }

/-! ## Measurements (R326) -/

/-- Extend MEAS_i by a digest. -/
def State.measExtend (s : State) (i : Nat) (h : List Byte) : State :=
  s.setBlob (Obj.meas0 + i) (sha384 (s.blob (Obj.meas0 + i) ++ h))

/-- Extend MEAS_i by a digest the spec does not give: the ROM's, and that of the fuse words. -/
def State.measFree (s : State) (i : Nat) : State :=
  let (h, s1) := s.freshBytes 48
  s1.measExtend i h

/-! ## Release (R313, R337, R376, R377) -/

/-- The start in RETURNED: KEY_KILL is blown if it is not, slot 0 gets a fresh random key, and the certificate chain
reads empty (R337). -/
def State.startReturned (s : State) : State :=
  let (k, s1) := s.freshBytes 48
  (({ s1 with keyKill := true, misc := { s1.misc with keys := setAt s1.misc.keys 0 k } } : State).setNat Obj.keySlotState 0 1).setBlob
    Obj.devCertChain []

/-- Internal reset is released: time since reset and the timebase start at 0 with the strobe of stitch 0 (R73, R94, R313), the
straps are sampled, the ROM starts (R376). -/
def State.release (s : State) (straps : Nat) : State :=
  let s1 : State := { s with phase := .running, clk := State.reset.clk, island := ⟨s.rtcPs, 0⟩ }
  let s2 := (s1.setNat Obj.strapState 0 straps).setNat Obj.serMDiv 0 ([2, 4, 8, 8].getD (straps % 4) 2)
  if s2.nat Obj.lifecycle = 3 then s2.startReturned else s2

/-- RESET_RELEASE (R313, R337, R353, R376, R377): STRAP5 high holds the part in reset. -/
def execResetRelease (dt : Nat) (straps : BitVec 6) (s : State) : Host.Outcome State Fault Refusal :=
  let s1 := tick dt s
  .next (if s1.phase = .inReset && !straps.getLsbD 5 then s1.release straps.toNat else s1)

/-- RESET_N (R355, R378): ignored while RAIL_EN is low. -/
def execResetN (dt : Nat) (s : State) : Host.Outcome State Fault Refusal :=
  let s1 := tick dt s
  .next (if s1.phase = .running || s1.phase = .inReset then s1.deviceReset 1 else s1)

/-- PGOOD_LOSS (R350, R355, R378). -/
def execPgoodLoss (dt : Nat) (s : State) : Host.Outcome State Fault Refusal :=
  let s1 := tick dt s
  .next (if s1.phase = .running || s1.phase = .inReset then s1.deviceReset 3 else s1)

/-- POWER_ON (R351, R355, R377): VKEEP is applied; the rails rise, the RTC starts from 0, and the part waits in reset. -/
def execPowerOn (dt : Nat) (s : State) : Host.Outcome State Fault Refusal :=
  let s1 := tick dt s
  .next (if s1.phase = .off then (State.deviceReset { s1 with island := ⟨0, s1.now⟩ } 0).emit (.railEn true) else s1)

/-- VKEEP_LOSS (R351, R355): OFF; the standby island keeps nothing. -/
def execVkeepLoss (dt : Nat) (s : State) : Host.Outcome State Fault Refusal :=
  let s1 := tick dt s
  let s2 := (((s1.setNat Obj.rtcAlarm 0 0).setNat Obj.wakeCfg 0 0).setNat Obj.wakeSource 0 0).deviceReset 0
  .next { s2 with phase := .off, island := ⟨0, 0⟩ }

/-- DELAYED_RESET (R330, R332, R336): the reset of an accepted TRIAL_RESET, RECOVERY_CLOSE or LC_ADVANCE, 100 ms after
it. -/
def execDelayedReset (dt : Nat) (s : State) : Host.Outcome State Fault Refusal :=
  whenRunning dt s (fun s =>
    match s.boot.due with
    | some (t, cause) => if t ≤ s.now then s.deviceReset cause else s
    | none => s)

/-! ## Waking (R350, R351) -/

/-- The wake sources present and enabled, by the pins' levels: pins at the active level POL gives them, and the RTC once it has
reached the alarm (R351, R357). -/
def State.wakeSources (s : State) (pins : Nat) : Nat :=
  ((pins ^^^ s.field Obj.wakeCfg 0 7 4 ^^^ 15) &&& s.field Obj.wakeCfg 0 3 0) + (if s.bit Obj.wakeCfg 0 8 && decide (s.nat Obj.rtcAlarm ≤ s.rtcNow) then 16 else 0)

/-- WAKE (R350, R351): in STANDBY the rails rise and the part starts as from power-on; during the entry to STANDBY it
stops the entry and resets. -/
def execWake (dt : Nat) (pins : BitVec 4) (s : State) : Host.Outcome State Fault Refusal :=
  let s1 := tick dt s
  let src := s1.wakeSources pins.toNat
  .next (
    if src = 0 then s1
    else if s1.phase = .standby then ((s1.deviceReset 2).setNat Obj.wakeSource 0 src).emit (.railEn true)
    else if s1.phase = .running && s1.pw.standby then (s1.deviceReset 2).setNat Obj.wakeSource 0 src
    else s1)

/-! ## Resetting control cores (R324, R356) -/

/-- A core starts at its CORE_ENTRY element (R323, R356). -/
def State.startCore (s : State) (n : Nat) : State := s.emit (.start n (s.nat Obj.coreEntry n) none)

/-- A core's state outside it ends: its tacks break with CORE_RESET, its contributions, DMA channels, queued serial
transactions, subscriptions and key operation go (R273, R309, R356). -/
def State.resetCore (s : State) (n : Nat) : State :=
  let s1 := (s.endSource (.core n)).breakTacks (.core n) 7
  let s2 := ((s1.dmaStopCore n).serDrop n).modDict (fun d => { d with subs := d.subs.filter (fun x => x.src != .core n) })
  let s3 := s2.showSubs.setNat (Obj.thmStatus0 + n) 0 0
  { s3 with
    bobWaits := s3.bobWaits.filter (fun a => a.core != n)
    coreWaits := s3.coreWaits.filter (fun a => a.core != n)
    misc := { s3.misc with thm := setAt s3.misc.thm n none }
    dbg := { s3.dbg with halted := s3.dbg.halted.filter (· != n) } }

/-! ## Interrupt lines (R255, R300, R309, R388) -/

/-- IRQ_STATUS (R388): every bit follows its source. -/
def State.irqStatus (s : State) : Nat :=
  let b (i : Nat) (on : Bool) : Nat := if on then 2 ^ i else 0
  let hot := (List.range 16).any (fun p => decide (s.obj Obj.tjWarn ≤ s.obj Obj.tjPleat p)) ||
    (List.range 2).any (fun p => decide (s.obj Obj.tjWarn ≤ s.obj Obj.tjDram p))
  b 0 (!s.ursin.serialq.isEmpty) + b 1 hot + b 2 (s.bit Obj.avsStatus 0 2) +
    b 3 (s.bit Obj.pllStatus 0 1 || s.bit Obj.pllStatus 1 1) + b 4 (s.nat Obj.bootState == 4) + b 5 (s.bit Obj.thermLatch 0 0)

/-- IRQ_N is low. -/
def State.irqLow (s : State) : Bool := (s.irqStatus &&& s.nat Obj.irqMask) != 0

/-- A frame is ready for a show: the readings of R394, together. -/
def State.showReady (s : State) : Bool :=
  s.nat Obj.serviceLevel == 0 && s.nat Obj.tbState == 2 && s.nat Obj.imageVerified == 1 && s.nat Obj.bootKind == 0 &&
    !s.bit Obj.placeStatus 0 31 && s.field Obj.placeStatus 0 7 0 == 0 && s.field Obj.avsStatus 0 1 0 == 1 &&
    s.nat Obj.historyAll == 1 && s.nat Obj.lastFreeze == 1

/-- The dictionary interrupt of core n: HEAD differs from TAIL (R255). -/
def State.dictIrq (s : State) (n : Nat) : Bool := s.nat (Obj.dictCcRingHead0 + n) != s.nat (Obj.dictCcRingTail0 + n)
/-- The DMA interrupt of core n: DONE stands in a channel of its own (R309). -/
def State.dmaIrq (s : State) (n : Nat) : Bool :=
  (List.range 16).any (fun c => s.nat Obj.dmaCore c == n && s.bit Obj.dmaState c 1)
/-- The serial interrupt of core n (R300). -/
def State.serIrq (s : State) (n : Nat) : Bool := s.ser.irq.contains n

end Sys2Proof.Machine
end

