-- ==== Sys2Proof/Machine/Shuttle.lean ====
section
/-!
DEFINITION. The Shuttle media engines (R169–R193): the network stack, streams and their checks, formats, media time,
reception and concealment, rate conversion, gains, maps, buffers, transmission, pair mode and the return-stitch audit.
-/

namespace Sys2Proof.Machine

/-! ## Objects and configuration -/

/-- The number of Shuttle sh's object whose number in Shuttle A's range is num (R193). -/
def shObj (sh num : Nat) : Nat := num + 0x2000 * sh

/-- Shuttle sh. -/
def State.shut (s : State) (sh : Nat) : Shuttle := s.sh.getD sh Shuttle.start

/-- Change Shuttle sh. -/
def State.modShut (s : State) (sh : Nat) (f : Shuttle → Shuttle) : State := { s with sh := modAt s.sh sh f }

/-- Pair mode is in force (R190). -/
def State.paired (s : State) : Bool := s.bit Obj.shPairMode 0 0

/-- The configuration of a stream: whether it runs, the fields of its FORMAT element, and its addressing. -/
structure StreamCfg where
  on : Bool
  pt : Nat
  fade : Bool
  chans : Nat
  ptime : Nat
  rate : Nat
  form : Nat
  dest : Nat
  udp : Nat
  latency : Nat
  offset : Nat
  srcs : List Nat
  deriving DecidableEq, Repr

/-- A configuration from a FORMAT word. -/
def formatCfg (v : Nat) : StreamCfg :=
  ⟨false, bits v 23 17, v.testBit 16, bits v 15 9, bits v 8 6, bits v 5 3, bits v 2 0, 0, 0, 0, 0, []⟩

/-- Receive stream 0 of Shuttle A follows the safety routing table in TRIM (R188, R314). -/
def State.safeStream (s : State) (sh i : Nat) : Bool := s.level == 1 && sh == 0 && i == 0

/-- The Shuttle whose tables configure a stream: Shuttle A's in pair mode (R190). -/
def State.cfgOf (s : State) (sh : Nat) : Nat := if s.paired then 0 else sh

/-- Shuttle A keeps the safety routing table's address (R314): until the journal has been restored, and while SH_IP is 0. -/
def State.tableAddress (s : State) : Bool := s.safe.valid && (!s.safe.journal || s.nat Obj.shIp == 0)

/-- A Shuttle's gateway: the table's beside the table's address (R314). -/
def State.gatewayOf (s : State) (sh : Nat) : Nat :=
  if sh = 0 && s.tableAddress then s.safeLe 0x14 4 else s.nat (shObj sh Obj.shGateway)

/-- Receive stream i of Shuttle sh. -/
def State.rxCfg (s : State) (sh i : Nat) : StreamCfg :=
  if s.safeStream sh i then
    { formatCfg (s.safeLe 0x1C 4) with
      on := s.safe.valid, dest := s.safeLe 0x20 4, udp := s.safeLe 0x24 2, latency := s.safeByte 0x26, offset := 0,
      srcs := ((List.range 4).map (fun k => s.safeLe (0x28 + 4 * k) 4)).filter (· != 0) }
  else
    let c := s.cfgOf sh
    { formatCfg (s.nat (shObj c Obj.shRxFormat) i) with
      on := s.bit (shObj c Obj.shRxEnable) i 0, dest := s.nat (shObj sh Obj.shRxDest) i, udp := s.nat (shObj sh Obj.shRxUdp) i,
      latency := s.nat (shObj c Obj.shRxLatency) i, offset := s.nat (shObj c Obj.shRxOffset) i,
      srcs := ((List.range 4).map (fun k => s.nat (shObj sh Obj.shRxSrc) (4 * i + k))).filter (· != 0) }

/-- Transmit stream i of Shuttle sh. -/
def State.txCfg (s : State) (sh i : Nat) : StreamCfg :=
  let c := s.cfgOf sh
  { formatCfg (s.nat (shObj c Obj.shTxFormat) i) with
    on := s.bit (shObj c Obj.shTxEnable) i 0, dest := s.nat (shObj sh Obj.shTxDest) i, udp := s.nat (shObj sh Obj.shTxUdp) i,
    offset := s.nat (shObj c Obj.shTxOffset) i }

/-- A receive stream's inner state. -/
def State.rxSt (s : State) (sh i : Nat) : RxStream := look (fun _ => RxStream.start) (s.shut sh).rx i
/-- Give a receive stream its inner state. -/
def State.setRx (s : State) (sh i : Nat) (r : RxStream) : State :=
  s.modShut sh (fun h => { h with rx := put (fun _ => RxStream.start) h.rx i r })
/-- A transmit stream's inner state. -/
def State.txSt (s : State) (sh i : Nat) : TxStream := look (fun _ => TxStream.start) (s.shut sh).tx i
/-- Give a transmit stream its inner state. -/
def State.setTx (s : State) (sh i : Nat) (r : TxStream) : State :=
  s.modShut sh (fun h => { h with tx := put (fun _ => TxStream.start) h.tx i r })

/-- The address in use: until the journal has been restored, and while SH_IP is 0, Shuttle A uses the table's (R314). -/
def State.shIp (s : State) (sh : Nat) : Nat :=
  if sh = 0 && s.tableAddress then s.safeLe 0xC 4 else s.nat (shObj sh Obj.shIp)

/-- SH_VLAN in use (R314). -/
def State.shVlanNow (s : State) (sh : Nat) : Nat :=
  if sh = 0 && s.safe.valid && (!s.safe.journal || s.nat Obj.shIp == 0) then s.safeLe 0x18 2 else s.nat (shObj sh Obj.shVlan)

/-- The VLAN tag every frame sent carries (R169). -/
def State.vlanTag (s : State) (sh : Nat) : Option Nat :=
  let v := s.shVlanNow sh
  if v.testBit 12 then some v else none

/-- The 16-bit words of a run of bytes, big-endian, the last one filled with 0. -/
def words16 : List Byte → List Nat
  | a :: b :: l => (a.toNat * 256 + b.toNat) :: words16 l
  | [a] => [a.toNat * 256]
  | [] => []

/-- The ones' complement sum of 16-bit words. -/
def onesSum (l : List Nat) : Nat := l.foldl (fun a w => (a + w) % 65536 + (a + w) / 65536) 0

/-- The UDP checksum of a packet, over its pseudo-header, header and payload; 0 is sent as 0xFFFF (R169; PRESUMED, assumption
183: the arithmetic is that of the Internet's UDP). -/
def udpChecksum (src dest sport dport : Nat) (payload : List Byte) : Nat :=
  let len := beBytes 2 (payload.length + 8)
  let c := 65535 - onesSum (words16 (beBytes 4 src ++ beBytes 4 dest ++ [0, 17] ++ len ++ beBytes 2 sport ++ beBytes 2 dport ++ len ++
    [0, 0] ++ payload))
  if c = 0 then 65535 else c

/-- What a UDP message is sent with: destination address, source and destination port, and payload. The payloads and ports that
the spec leaves to a standard are free, the groups of PTP and of sACN discovery those of their standards (PRESUMED, assumption
183). -/
def NetMsg.udp : NetMsg → Option (Nat × Nat × Nat × List Byte)
  | .rtp dest port header payload => some (dest, port, port, header ++ payload)
  | .ursin ip udp r _ => some (ip, 50616, udp, r.raw)
  | .ptp kind domain seq interval corr time req ann =>
    some (0xE0000181, Config.udpSource 0, if kind < 8 then 319 else 320,
      std 0 ([Int.ofNat kind, Int.ofNat domain, Int.ofNat seq, interval, corr, Int.ofNat time, Int.ofNat req] ++ ann.map Int.ofNat) [])
  | .sacn dest univ seq prio sync cid name term slots =>
    some (dest, Config.udpSource 1, 5568,
      std 1 ([univ, seq, prio, sync, if term then 1 else 0].map Int.ofNat) [cid, name, slots])
  | .sacnSync cid addr => some (0xEFFF0000 + addr, Config.udpSource 2, 5568, std 2 [Int.ofNat addr] [cid])
  | .sacnDiscovery cid name univs => some (0xEFFFFAD6, Config.udpSource 3, 5568, std 3 (univs.map Int.ofNat) [cid, name])
  | .osc ip port addr tag arg => some (ip, Config.udpSource 4, port, std 4 [Int.ofNat tag] [addr, arg])
  | .arp .. => none
  | .icmp .. => none
  | .igmp .. => none
where
  /-- The payload a standard gives. -/
  std (kind : Nat) (nums : List Int) (strs : List (List Byte)) : List Byte :=
    (Config.stdPayload kind nums (strs.map (·.map (·.toNat)))).map (BitVec.ofNat 8)

/-- How a frame of a class (0 media, 1 PTP, 2 otherwise; none where it is no IPv4 packet) is marked on a port (R169). -/
def State.netTag (s : State) (port : Nat) (cls : Option Nat) (m : NetMsg) : NetTag :=
  if port < 2 then
    ⟨s.vlanTag port, cls.map (fun e => s.nat (shObj port Obj.shDscp) e),
      m.udp.map (fun u => udpChecksum (s.shIp port) u.1 u.2.1 u.2.2.1 u.2.2.2)⟩
  else ⟨none, none, none⟩

/-- Send a frame on a network port. -/
def State.emitNet (s : State) (port : Nat) (cls : Option Nat) (m : NetMsg) : State := s.emit (.frame port (s.netTag port cls m) m)

/-- Send a frame that waits for a segment's line: one that meets the full queue of 64 frames is dropped and counted (R292). When
the line takes the frames of the queue is not modelled, so whether it is full is a free value (DESIGN CHOICE, assumption 184). -/
def State.queueNet (s : State) (port : Nat) (cls : Option Nat) (m : NetMsg) : State :=
  if port < 2 then s.emitNet port cls m
  else
    let (v, t) := s.fresh
    if v % 2 = 1 then t.bump Obj.t1sTxDropHem (port - 2) else t.emitNet port cls m

/-- An address off a T1S segment, to which nothing is sent (R291). -/
def State.offSegment (s : State) (via ip : Nat) : Bool :=
  (via = 2 || via = 3) &&
    (ip ^^^ s.nat Obj.t1sIp (via - 2)) &&& s.nat Obj.t1sMask (via - 2) != 0

/-- Send a reply on a network port, unless it would leave its segment (R169, R291, R292). -/
def State.replyNet (s : State) (port : Nat) (cls : Option Nat) (ip : Nat) (m : NetMsg) : State :=
  if s.offSegment port ip then s else s.queueNet port cls m

/-- The IPv4 address of a network port: a Shuttle's, or that of a segment in use; 0 is none (R169, R291). -/
def State.portIp (s : State) (port : Nat) : Nat :=
  if port < 2 then s.shIp port else if s.bit Obj.t1sCfg (port - 2) 0 then s.nat Obj.t1sIp (port - 2) else 0

/-! ## Formats and rates (R171–R173) -/

/-- Samples per channel in a packet, by packet time and rate code (R172). -/
def packetSamples (ptime rate : Nat) : Nat :=
  [6, 12, 16, 48, 192].getD ptime 6 * (if rate < 2 then 1 else if rate < 4 then 2 else 4)

/-- N of a stream. -/
def StreamCfg.n (c : StreamCfg) : Nat := packetSamples c.ptime c.rate

/-- Bytes of a sample on the wire. -/
def sampleBytes (form : Nat) : Nat := form + 2

/-- Bytes of a packet's payload (R172, R176). -/
def StreamCfg.payload (c : StreamCfg) : Nat := c.n * c.chans * sampleBytes c.form + (if c.form = 2 then 8 else 0)

/-- A field of the FORMAT element holds a reserved code (R171). -/
def StreamCfg.reserved (c : StreamCfg) : Bool :=
  decide (2 < c.form) || decide (4 < c.ptime) || decide (6 < c.rate) || c.chans == 0 || decide (64 < c.chans) ||
    decide (c.pt < 96) || decide (127 < c.pt)

/-- A rate belongs to the 44.1 kHz family. -/
def family44 (rate : Nat) : Bool := rate == 0 || rate == 2 || rate == 4

/-- The ratio between a stream's rate and the fabric's is 1, 2 or 4, in one family (R171). -/
def ratioOk (fabric rate : Nat) : Bool :=
  let a := rateHz fabric
  let b := rateHz rate
  rate != 6 && family44 fabric == family44 rate && [1, 2, 4].any (fun r => a == r * b || b == r * a)

/-- Channels one Shuttle carries in a direction (R173). -/
def channelBudget (fabric : Nat) : Nat := [4096, 4096, 2048, 2048, 1024, 1024, 512].getD fabric 4096

/-- A receive stream is an audit's (R191). -/
def State.isAudit (s : State) (sh i : Nat) : Bool :=
  (List.range 16).any (fun k =>
    let v := s.nat (shObj sh Obj.shAuditCfg) k
    v.testBit 31 && bits v 7 0 == i)

/-- Enabled streams of a direction, ascending. -/
def State.enabled (s : State) (sh : Nat) (tx : Bool) : List Nat :=
  (List.range 256).filter (fun i => if tx then (s.txCfg sh i).on else (s.rxCfg sh i).on)

/-- Channels the streams given carry, audits apart. -/
def State.chansOf (s : State) (sh : Nat) (tx : Bool) (l : List Nat) : Nat :=
  (l.map (fun i => if tx then (s.txCfg sh i).chans else if s.isAudit sh i then 0 else (s.rxCfg sh i).chans)).sum

/-- The transmit line load of a stream, in bits a second times 768 (R173). -/
def StreamCfg.load (c : StreamCfg) (vlan : Bool) : Nat :=
  (c.payload + 78 + if vlan then 4 else 0) * 8 * rateHz c.rate * (768 / c.n)

/-- The line load of the enabled transmit streams, in the same unit. -/
def State.lineLoad (s : State) (sh : Nat) (l : List Nat) : Nat :=
  (l.map (fun i => (s.txCfg sh i).load (s.vlanTag sh).isSome)).sum

/-! ## Buffers (R186) -/

/-- Bytes of a stream's buffer. -/
def StreamCfg.rxBytes (c : StreamCfg) : Nat := 4 * (c.latency + 2) * c.n * c.chans
/-- Bytes of a transmit stream's buffer. -/
def StreamCfg.txBytes (c : StreamCfg) : Nat := 4 * 2 * c.n * c.chans

/-- Every buffer of a Shuttle. -/
def State.buffers (s : State) (sh : Nat) : List Buffer :=
  (s.shut sh).rx.filterMap (fun e => e.2.store) ++ (s.shut sh).tx.filterMap (fun e => e.2.store)

/-- Bytes in use in a store. -/
def usedIn (l : List Buffer) (store : Nat) : Nat := ((l.filter (fun e => e.store == store)).map (·.bytes)).sum

/-- The lowest n bytes together that are free in a store of `size` bytes: a buffer is never split (R186; DEDUCED, assumption
131: not within its store either). -/
def roomIn (l : List Buffer) (store size n : Nat) : Option Buffer :=
  let here := l.filter (fun e => e.store == store)
  let free (o : Nat) : Bool := decide (o + n ≤ size) && here.all (fun e => decide (o + n ≤ e.off) || decide (e.off + e.bytes ≤ o))
  (((0 :: here.map (fun e => e.off + e.bytes)).filter free).min?).map (fun o => ⟨store, o, n⟩)

/-- A buffer in the first store with room: the SRAM, the Shuttle's bobbins, its part of the spill region (R186). -/
def State.findStore (s : State) (sh n : Nat) : Option Buffer :=
  let used := s.buffers sh
  let bobbins := (List.range 128).filter (fun b => s.bobOwner b == 128 + sh)
  let stores : List (Nat × Nat) := (0, 4194304) :: bobbins.map (fun b => (1 + b, 524288)) ++ [(129, s.spillHalf)]
  stores.findSome? (fun e => roomIn used e.1 e.2 n)

/-- The bobbin a buffer lies in. -/
def Buffer.bobbin (b : Buffer) : Option Nat := if 1 ≤ b.store && decide (b.store ≤ 128) then some (b.store - 1) else none

/-- The Shuttle owns the buffer's bobbin no more: its accesses are refused (R154). -/
def State.bufDenied (s : State) (sh : Nat) (b : Option Buffer) : Bool :=
  (b.bind Buffer.bobbin).any (fun n => s.bobOwner n != 128 + sh)

/-- The buffer's bobbin is being handed to the Shuttle: accesses to it wait (R152). -/
def State.bufBusy (s : State) (sh : Nat) (b : Option Buffer) : Bool :=
  (b.bind Buffer.bobbin).any (fun n => s.bobOwner n == 128 + sh && s.mapBit Obj.handoverBusy n)

/-- Write words of a buffer, by index: on port 1 of a bobbin, where each access to one that is not owned is refused and counts,
and those to one that is being handed over wait (R149, R152, R154); the SRAM's words are those of the packets themselves, and
their parity is good again (R358). -/
def State.bufWrite (s : State) (sh : Nat) (b : Option Buffer) (l : List (Nat × Word)) : State :=
  match b with
  | none => s
  | some b =>
    if s.bufDenied sh (some b) then s.bump Obj.accessDeniedHem (128 + sh) l.length
    else if s.bufBusy sh (some b) then { s with shWaits := s.shWaits ++ [.write sh b l] }
    else
      match b.bobbin with
      | some n => l.foldl (fun s e => s.setBobBytes n (b.off + 4 * e.1) (leBytes 4 e.2.toNat)) s
      | none =>
        if b.store = 129 then
          l.foldl (fun s e => s.setPmBytes (s.regionBase 1 + sh * s.spillHalf + b.off + 4 * e.1) (leBytes 4 e.2.toNat)) s
        else s.modShut sh (fun h => { h with sramBad := h.sramBad.filter (fun o => !l.any (fun e => b.off + 4 * e.1 == o)) })

/-- The word of a buffer at an index, on port 0 of a bobbin; `kept` is what the SRAM holds there. -/
def State.bufRead (s : State) (sh : Nat) (b : Option Buffer) (i : Nat) (kept : Word) : Word :=
  match b with
  | none => kept
  | some b =>
    match b.bobbin with
    | some n => BitVec.ofNat 32 (leNat (s.bobBytes n (b.off + 4 * i) 4))
    | none =>
      if b.store = 129 then BitVec.ofNat 32 (leNat (s.pmBytes (s.regionBase 1 + sh * s.spillHalf + b.off + 4 * i) 4)) else kept

/-- The word of a buffer at an index is read with bad parity: in a bobbin, a byte of it has it (R148, R360); in the SRAM, it has
been found so and not been written since (R187, R358); package memory carries no parity (R359). -/
def State.bufBad (s : State) (sh : Nat) (b : Option Buffer) (i : Nat) : Bool :=
  match b with
  | none => false
  | some b =>
    match b.bobbin with
    | some n => s.badReads n (b.off + 4 * i) 4 != 0
    | none => b.store == 0 && (s.shut sh).sramBad.contains (b.off + 4 * i)

/-- Words of a buffer are found with bad parity. -/
def State.bufMark (s : State) (sh : Nat) (b : Option Buffer) (l : List Nat) : State :=
  match b with
  | none => s
  | some b =>
    match b.bobbin with
    | some n => s.markBad n (l.map (fun i => b.off + 4 * i))
    | none =>
      if b.store = 0 then s.modShut sh (fun h => { h with sramBad := distinct (l.map (fun i => b.off + 4 * i) ++ h.sramBad) })
      else s

/-- Count the samples of a buffer read with bad parity (R187, R360). -/
def State.bufParity (s : State) (sh : Nat) (b : Option Buffer) (k : Nat) : State :=
  if k = 0 then s
  else
    let s1 := s.bump (shObj sh Obj.shParityHem) 0 k
    match b.bind Buffer.bobbin with
    | some n => s1.bobParity n k
    | none => s1

/-- SH_BUF_SRAM_USED, SH_BUF_SPILL_USED and SH_TX_LOAD are brought up to date. -/
def State.showBuffers (s : State) (sh : Nat) : State :=
  let l := s.buffers sh
  let s1 := (s.setNat (shObj sh Obj.shBufSramUsed) 0 ((l.filter (fun e => e.store != 129)).map (·.bytes)).sum).setNat
    (shObj sh Obj.shBufSpillUsed) 0 (usedIn l 129)
  s1.setNat (shObj sh Obj.shTxLoad) 0 (s1.lineLoad sh (s1.enabled sh true) / 768 / 1000)

/-- SH_TX_LOAD follows the VLAN tag and, in pair mode, is that of both Shuttles (R173, R190). -/
def State.showLoads (s : State) : State := (s.showBuffers 0).showBuffers 1

/-! ## Stream states (R170, R174, R177, R188) -/

/-- A Shuttle's media link: down while its link is, and in HUSH (R170, R349). -/
def State.mediaUp (s : State) (sh : Nat) : Bool := s.nat (shObj sh Obj.shLink) != 0 && !s.pw.hush

/-- What SH_RX_STATE of a stream reads. -/
def State.rxStateOf (s : State) (sh i : Nat) : Nat :=
  if !(s.rxCfg sh i).on then 0
  else if (s.rxSt (s.cfgOf sh) i).held then 3
  else if s.tbs.media.isNone then 2
  else if !s.mediaUp sh then 4
  else 1

/-- Media transmit is gated: before the image is verified, in TRIM and in TEST (R188). -/
def State.txGated (s : State) : Bool := s.nat Obj.imageVerified == 0 || s.level != 0

/-- What SH_TX_STATE of a stream reads. -/
def State.txStateOf (s : State) (sh i : Nat) : Nat :=
  if !(s.txCfg sh i).on then 0
  else if (s.txSt (s.cfgOf sh) i).held then 3
  else if s.tbs.media.isNone then 2
  else if s.txGated then 5
  else if !s.mediaUp sh then 4
  else 1

/-- Every stream's state object is brought up to date. -/
def State.showStreams (s : State) : State :=
  [0, 1].foldl (fun s sh => (List.range 256).foldl (fun s i =>
    (s.setNat (shObj sh Obj.shRxState) i (s.rxStateOf sh i)).setNat (shObj sh Obj.shTxState) i (s.txStateOf sh i)) s) s

/-! ## Groups (R169) -/

/-- An IPv4 multicast address. -/
def isMulticast (ip : Nat) : Bool := ip / 2 ^ 28 == 0xE

/-- The groups a Shuttle has joined, each with its allowed sources: those of enabled receive streams, for no chapter names a
control group it asks for (R169). -/
def State.joined (s : State) (sh : Nat) : List (Nat × List Nat) :=
  (s.enabled sh false).filterMap (fun i =>
    let c := s.rxCfg sh i
    if isMulticast c.dest then some (c.dest, c.srcs) else none)

/-- Report the joined groups given: by IGMPv3, or by IGMPv2 for 260 s after an IGMPv2 query (R169). -/
def State.report (s : State) (sh : Nat) (l : List (Nat × List Nat)) : State :=
  if l.isEmpty || s.shIp sh = 0 then s else s.emitNet sh (some 2) (.igmp (s.shut sh).igmpV2.isSome l)

/-! ## Enabling (R171, R173, R186, R191) -/

/-- The checks of a write of 1 to an ENABLE element (R171). -/
def State.enableCheck (s : State) (sh : Nat) (tx : Bool) (i : Nat) : Nat :=
  let c := if tx then s.txCfg sh i else s.rxCfg sh i
  let fabric := s.nat Obj.stitchRate
  let others := (s.enabled sh tx).filter (· != i)
  let audit := !tx && s.isAudit sh i
  if c.reserved then St.formatCode
  else if !audit && !ratioOk fabric c.rate then St.rateRatio
  else if decide (1440 < c.payload) then St.streamSize
  else if !audit && decide (channelBudget fabric < s.chansOf sh tx others + c.chans) then St.budget
  else if (s.findStore sh (if tx then c.txBytes else c.rxBytes)).isNone then St.buffer
  else if tx && decide (9000000000 * 768 < s.lineLoad sh (i :: others)) then St.lineLoad
  else if !tx && isMulticast c.dest && decide (8192 < (distinct (c.dest :: (s.joined sh).map (·.1))).length) then St.groups
  else St.ok

/-- The Shuttles whose ports a stream of Shuttle sh uses (R190). -/
def State.ports (s : State) (sh : Nat) : List Nat := if s.paired then [0, 1] else [sh]

/-- A stream's ENABLE has been written (R171, R178): its buffer is taken or freed, and the groups of its destinations are
joined (R169). A map staged before stays staged (R184). -/
def State.enableEffect (s : State) (sh : Nat) (tx : Bool) (i : Nat) (was on : Bool) : State :=
  if was = on || s.paired && sh = 1 then s
  else if tx then
    let c := s.txCfg sh i
    let s1 :=
      if on then
        let (v, t) := s.fresh
        t.setTx sh i { TxStream.start with
          seq := v % 65536, store := s.findStore sh c.txBytes, staged := (s.txSt sh i).staged }
      else s.setTx sh i { TxStream.start with staged := (s.txSt sh i).staged }
    s1.showLoads.showStreams
  else
    let c := s.rxCfg sh i
    let s1 := s.setRx sh i { RxStream.start with
      store := if on then s.findStore sh c.rxBytes else none, staged := (s.rxSt sh i).staged }
    let s2 := (s.ports sh).foldl (fun s h =>
      let c := s.rxCfg h i
      if on && isMulticast c.dest then s.report h [(c.dest, c.srcs)] else s) s1
    s2.showLoads.showStreams

/-! ## Rate changes and jumps (R174, R218) -/

/-- A stream restarts: its filters start from zero and its buffer is empty; it conceals, from the last samples delivered, all of
the stitches before `quiet` (R174, R181). -/
def RxStream.restart (r : RxStream) (quiet : Nat) : RxStream :=
  { r with buf := [], next := none, hist := [], missAt := none, spillAt := none, quiet := quiet }
/-- A transmit stream restarts. -/
def TxStream.restart (r : TxStream) : TxStream := { r with hist := [], acc := [], accBad := false, first := none, ready := [] }

/-- The first stitch after a stream's first L packet times (R174, R179). -/
def State.quietEnd (s : State) (sh i : Nat) : Nat :=
  let c := s.rxCfg sh i
  s.stitch + c.latency * c.n * rateHz (s.nat Obj.stitchRate) / rateHz c.rate

/-- A receive stream restarts at the strobe of the stitch in progress. -/
def State.restartRx (s : State) (sh i : Nat) (held : Bool) : State :=
  s.setRx sh i { (s.rxSt sh i).restart (s.quietEnd sh i) with held := held }

/-- One enabled stream is checked again at a strobe that changes the rate; the channels carried so far go along
(R174). -/
def State.recheckStream (s : State) (sh : Nat) (tx : Bool) (i sum : Nat) : Nat × State :=
  let c := if tx then s.txCfg sh i else s.rxCfg sh i
  let fabric := s.nat Obj.stitchRate
  let audit := !tx && s.isAudit sh i
  let held := if tx then (s.txSt sh i).held else (s.rxSt sh i).held
  let legal := !held && !c.reserved && (audit || (ratioOk fabric c.rate && decide (sum + c.chans ≤ channelBudget fabric)))
    && decide (c.payload ≤ 1440)
  if legal then
    (if audit then sum else sum + c.chans,
      if tx then s.setTx sh i (s.txSt sh i).restart else s.restartRx sh i false)
  else
    let s1 := if tx then s.setTx sh i { (s.txSt sh i).restart with held := true } else s.restartRx sh i true
    (sum, if held then s1 else s1.log 0x40 (256 * sh + i) (if tx then 1 else 0))

/-- Every enabled stream at a strobe that changes the fabric rate: ascending, receive before transmit (R174). -/
def State.recheckStreams (s : State) : State :=
  ((if s.paired then [0] else [0, 1]).foldl (fun s sh =>
    [false, true].foldl (fun s tx => ((s.enabled sh tx).foldl (fun (a : Nat × State) i => a.2.recheckStream sh tx i a.1) (0, s)).2) s) s).showStreams

/-- Every enabled stream restarts after a media jump (R218). -/
def State.restartStreams (s : State) : State :=
  [0, 1].foldl (fun s sh =>
    let s1 := (s.shut sh).rx.foldl (fun s e => s.restartRx sh e.1 e.2.held) s
    (s1.shut sh).tx.foldl (fun s e => s.setTx sh e.1 e.2.restart) s1) s

/-! ## Media time (R177, R178) -/

/-- The media count of stitch k. -/
def State.mediaOf (s : State) (k : Nat) : Option Nat :=
  s.tbs.media.map (fun m => (Int.ofNat m + Int.ofNat k - Int.ofNat s.stitch).toNat)

/-- The value nearest a present count with the low 32 bits given (R178). -/
def nearest32 (present low : Nat) : Nat :=
  let base := present / 2 ^ 32 * 2 ^ 32 + low % 2 ^ 32
  let pick (a b : Nat) : Nat := if (Int.ofNat a - Int.ofNat present).natAbs ≤ (Int.ofNat b - Int.ofNat present).natAbs then a else b
  pick base (pick (base + 2 ^ 32) (if 2 ^ 32 ≤ base then base - 2 ^ 32 else base))

/-- The stitch whose inlet bank is being written, or the next one after a cutoff. -/
def State.writeStitch (s : State) : Nat := if s.fab.inWr.isOpen then s.fab.inWr.stitch else s.fab.inWr.stitch + 1

/-! ## Conversion and gain (R175, R181–R183) -/

/-- Big-endian wire sample to word (R175). -/
def wireWord (form : Nat) (l : List Byte) : Word := BitVec.ofNat 32 (beNat l * 2 ^ (8 * (2 - form)))

/-- Word to big-endian wire sample (R175). -/
def wireBytes (form : Nat) (w : Word) : List Byte := beBytes (sampleBytes form) (w.toNat / 2 ^ (8 * (2 - form)))

/-- The samples of a payload, interleaved. -/
def wireSamples (form : Nat) : Nat → List Byte → List Word
  | 0, _ => []
  | k + 1, l => wireWord form (l.take (sampleBytes form)) :: wireSamples form k (l.drop (sampleBytes form))

/-- A clamped word and the number of clamps (R182, R183). -/
def clampWord (v : Int) : Word × Nat :=
  if 2147483647 < v then (0x7FFFFFFF, 1) else if v < -2147483648 then (0x80000000, 1) else (BitVec.ofInt 32 v, 0)

/-- Taps of the filter of a ratio (R182). -/
def srcTaps (r : Nat) : Nat := if r = 2 then 97 else 193

/-- A filter's output at time t of the higher rate, over a function that gives the input there (R182). -/
def firOut (r : Nat) (x : Int → Int) (t : Int) : Word × Nat :=
  clampWord (((List.range (srcTaps r)).map (fun i => Config.srcCoef r i * x (t - Int.ofNat i))).sum.fdiv (2 ^ 31))

/-- A channel's sample at a count, from samples newest first; none before they start. -/
def histAt (h : List (Nat × List Word)) (j : Nat) (t : Int) : Int :=
  if t < 0 then 0 else ((h.find? (fun e => e.1 == t.toNat)).map (fun e => (e.2.getD j 0).toInt)).getD 0

/-- The lower-rate sequence with zeros inserted (R182). -/
def upsampled (r : Nat) (h : List (Nat × List Word)) (j : Nat) (t : Int) : Int :=
  if t % (Int.ofNat r) = 0 then histAt h j (t / Int.ofNat r) else 0

/-- Apply a gain (R183). -/
def applyGain (w : Word) (g : Int) : Word × Nat := clampWord ((w.toInt * g).fdiv (2 ^ 29))

/-- The gain of channel j of a stream for the samples of stitch k: the bank in force for that stitch (R109, R183): before a
change, what it changed from; of the next stitch, what an outstanding commit brings at it (R105, R107), or the shadow that a
leaving member's active copy becomes then (R98). -/
def State.gainFor (s : State) (sh : Nat) (tx : Bool) (i j k : Nat) : Int :=
  let num := shObj sh (if tx then Obj.shTxGain0 else Obj.shRxGain0) + i / 16
  let e := 64 * (i % 16) + j
  let later := s.baste.prior.filter (fun p => p.1 == objKey num e && decide (k < p.2.1))
  match later.find? (fun p => later.all (fun q => decide (p.2.1 ≤ q.2.1))) with
  | some p => p.2.2
  | none =>
    match s.groupOf num e with
    | none => if s.stitch < k then s.obj num e else s.committedVal num e
    | some g =>
      match s.baste.commits.find? (fun c => c.group == g && c.copied && decide (c.stitch ≤ k) && decide (s.stitch < k)) with
      | some c => ((c.frozen.find? (fun f => f.1 == objKey num e)).map (·.2)).getD (s.committedVal num e)
      | none => s.committedVal num e

/-- Count clamps. -/
def State.clips (s : State) (sh n : Nat) : State := if n = 0 then s else s.bump (shObj sh Obj.shClipHem) 0 n

/-! ## Maps (R184) -/

/-- Entry j of a stream's map in one of the four map objects. -/
def State.mapEntry (s : State) (sh base i j : Nat) : Nat := s.nat (shObj sh base + i / 16) (64 * (i % 16) + j)

/-- A stream's shadow map. -/
def State.shadowMap (s : State) (sh base i : Nat) : List Nat := (List.range 64).map (fun j => s.mapEntry sh base i j)

/-- Receive maps of the other streams of a Shuttle, active and staged. -/
def State.otherRxEntries (s : State) (sh i : Nat) : List Nat :=
  (List.range 16384).filterMap (fun e =>
    if e / 64 = i then none
    else let v := s.mapEntry sh Obj.shRxMapActive0 (e / 64) (e % 64); if v = 0xFFFF then none else some v)
  ++ ((s.shut sh).rx.filter (fun e => e.1 != i)).flatMap (fun e => (e.2.staged.getD []).filter (· != 0xFFFF))

/-- Two entries of a list agree. -/
def hasTwins (l : List Nat) : Bool := (distinct l).length != l.length

/-- The check of a map commit (R184); only the stream's C entries take part. -/
def State.mapCheck (s : State) (sh : Nat) (tx : Bool) (i : Nat) : Nat :=
  if 255 < i then St.range
  else
    let c := (if tx then s.txCfg sh i else s.rxCfg sh i).chans
    let l := ((s.shadowMap sh (if tx then Obj.shTxMap0 else Obj.shRxMap0) i).take c).filter (· != 0xFFFF)
    if l.any (fun e => e / 4096 != sh) then St.mapRange
    else if !tx && (hasTwins l || l.any (fun e => (s.otherRxEntries sh i).contains e)) then St.mapConflict
    else St.ok

/-- An accepted map commit stages the shadow (R184): entries past C are none. -/
def State.stageMap (s : State) (sh : Nat) (tx : Bool) (i : Nat) : State :=
  let c := (if tx then s.txCfg sh i else s.rxCfg sh i).chans
  let l := (s.shadowMap sh (if tx then Obj.shTxMap0 else Obj.shRxMap0) i).zipIdx.map (fun e => if e.2 < c then e.1 else 0xFFFF)
  if tx then s.setTx sh i { s.txSt sh i with staged := some l } else s.setRx sh i { s.rxSt sh i with staged := some l }

/-- A staged map comes into force at stitch k. -/
def State.applyMap (s : State) (sh : Nat) (tx : Bool) (i k : Nat) (l : List Nat) : State :=
  let base := shObj sh (if tx then Obj.shTxMapActive0 else Obj.shRxMapActive0) + i / 16
  let s1 := l.zipIdx.foldl (fun s e => s.setNat base (64 * (i % 16) + e.2) e.1) s
  let s2 := s1.setNat (shObj sh (if tx then Obj.shTxMapStitch else Obj.shRxMapStitch)) i k
  if tx then s2.setTx sh i { s2.txSt sh i with staged := none } else s2.setRx sh i { s2.rxSt sh i with staged := none }

/-! ## Receiving (R178–R181, R187, R189–R191) -/

/-- The packet lies wholly before what the stream still needs for stitch media count mu (R179, R180): it is late. -/
def StreamCfg.isLate (c : StreamCfg) (fabric mu m : Nat) : Bool :=
  decide ((m + c.latency * c.n) * rateHz fabric < mu * rateHz c.rate)

/-- Its first sample lies more than L + 1 packet times after the stitch being written (R180). -/
def StreamCfg.isEarly (c : StreamCfg) (fabric mu m : Nat) : Bool :=
  decide (mu * rateHz c.rate + (c.latency + 1) * c.n * rateHz fabric < m * rateHz fabric)

/-- Count for a stream. -/
def State.countRx (s : State) (sh num i : Nat) : State := s.bump (shObj sh num) i

/-- The payload fits the stream: type, length and the L32 header (R176). -/
def StreamCfg.fits (c : StreamCfg) (pt : Nat) (payload : List Byte) : Bool :=
  pt == c.pt && payload.length == c.payload &&
    (c.form != 2 || ((payload.getD 0 0).toNat == 1 && beNat ((payload.drop 2).take 2) == c.chans))

/-- A stranger's address enters SH_STRANGER_LIST: the 16 most recent distinct ones (R189). -/
def State.stranger (s : State) (sh src : Nat) : State :=
  let num := shObj sh Obj.shStrangerList
  let old := (List.range 16).map (fun k => s.nat num k)
  let l := if old.contains src then src :: old.filter (· != src) else src :: old.take 15
  (l.zipIdx.foldl (fun s e => s.setNat num e.2 e.1) s).bump (shObj sh Obj.shStrangerHem)

/-- The word of a receive buffer that holds channel j of the sample of count m: its L + 2 packet times are used in turn
(R186; DESIGN CHOICE, assumption 131). -/
def StreamCfg.rxWord (c : StreamCfg) (m j : Nat) : Nat := m % ((c.latency + 2) * c.n) * c.chans + j

/-- A packet whose samples all lie before what the stream still needs for stitch media count mu (R179). -/
def StreamCfg.isPast (c : StreamCfg) (fabric mu m : Nat) : Bool :=
  decide ((m + c.n + c.latency * c.n) * rateHz fabric ≤ mu * rateHz c.rate)

/-- A packet accepted or dropped for receive stream i, which arrived on Shuttle sh (R176, R180, R190); its words are written to
the buffer. -/
def State.takePacket (s : State) (sh i : Nat) (c : StreamCfg) (pt seq ts : Nat) (payload : List Byte) : State :=
  if !c.fits pt payload then s.countRx sh Obj.shRxFmtHem i
  else
    let own := s.cfgOf sh
    let s1 := if c.form = 2 then s.setNat (shObj sh Obj.shRxPeerFlags) i ((payload.getD 1 0).toNat % 8) else s
    let st := s1.rxSt own i
    let k := s1.writeStitch
    match s1.mediaOf k, s1.mediaOf s1.stitch with
    | some mu, some now =>
      if st.held then s1
      else
        let fabric := s1.nat Obj.stitchRate
        let m := nearest32 (now * rateHz c.rate / rateHz fabric) (ts + 2 ^ 32 - c.offset % 2 ^ 32)
        if c.isLate fabric mu m then s1.countRx sh Obj.shRxLateHem i
        else if c.isEarly fabric mu m then s1.countRx sh Obj.shRxEarlyHem i
        else if st.buf.any (fun p => p.seq == seq && !c.isPast fabric mu p.first) then s1.countRx sh Obj.shRxDupHem i
        else
          let words := wireSamples c.form (c.n * c.chans) (if c.form = 2 then payload.drop 8 else payload)
          let p : RxPkt := ⟨seq, m, words⟩
          let s2 := s1.bufWrite own st.store
            (words.zipIdx.map (fun e => (c.rxWord (m + e.2 / c.chans) (e.2 % c.chans), e.1)))
          (s2.setRx own i { st with
            buf := p :: st.buf.filter (fun q => !c.isPast fabric mu q.first), grid := m % c.n }).countRx sh Obj.shRxPktHem i
    | _, _ => s1

/-- The audit configurations of Shuttle sh that take receive stream i. -/
def State.auditsOf (s : State) (sh i : Nat) : List Nat :=
  (List.range 16).filter (fun k => let v := s.nat (shObj sh Obj.shAuditCfg) k; v.testBit 31 && bits v 7 0 == i)

/-- The audit configurations, as Shuttle and element, of transmit stream i of Shuttle h (R191). -/
def State.auditUsers (s : State) (h i : Nat) : List (Nat × Nat) :=
  [0, 1].flatMap (fun a => (List.range 16).filterMap (fun k =>
    let v := s.nat (shObj a Obj.shAuditCfg) k
    if v.testBit 31 && bits v 16 16 == h && bits v 15 8 == i then some (a, k) else none))

/-- A record is lost for every configuration it has not been matched for (R191). -/
def State.auditLost (s : State) (h : Nat) (r : AuditRec) : State :=
  if r.lost then s
  else ((s.auditUsers h r.stream).filter (fun e => !r.matched.contains e)).foldl
    (fun s e => s.bump (shObj e.1 Obj.shAuditLostHem) e.2) s

/-- A returning packet is matched for audit configuration k of Shuttle sh (R191): its record stays among those of the latest
1 024 packets (DESIGN CHOICE, assumption 132: a return that comes again is compared again). -/
def State.auditReturn (s : State) (sh k seq : Nat) (payload : List Byte) : State :=
  let v := s.nat (shObj sh Obj.shAuditCfg) k
  let tsh := bits v 16 16
  let stream := bits v 15 8
  match (s.shut tsh).audit.find? (fun r => r.stream == stream && r.seq == seq) with
  | none => s.bump (shObj sh Obj.shAuditLostHem) k
  | some r =>
    let s1 := s.modShut tsh (fun h => { h with
      audit := h.audit.map (fun x => if x = r then { x with matched := (sh, k) :: x.matched } else x) })
    if crc32 payload = r.crc then
      let ns := s1.tbNs - r.at_
      let s2 := (s1.bump (shObj sh Obj.shAuditOkHem) k).setNat (shObj sh Obj.shAuditLast) k (ns % 2 ^ 32)
      let s3 := if ns < s2.nat (shObj sh Obj.shAuditMin) k then s2.setNat (shObj sh Obj.shAuditMin) k ns else s2
      s3.raise (shObj sh Obj.shAuditMax) k (ns % 2 ^ 32)
    else (s1.bump (shObj sh Obj.shAuditBadHem) k).log 0x41 (256 * tsh + stream) seq

/-- A media packet reaches the streams it matches (R189–R191). -/
def State.rtp (s : State) (sh src dest port pt seq ts : Nat) (payload : List Byte) : State :=
  if !s.mediaUp sh || s.shIp sh = 0 then s
  else
    let mine := (s.enabled sh false).filter (fun i => (s.rxCfg sh i).dest == dest && (s.rxCfg sh i).udp == port)
    let own := src == s.shIp sh
    if mine.isEmpty then (if own then s else s.bump (shObj sh Obj.shUnmatchedHem))
    else mine.foldl (fun s i =>
      let c := s.rxCfg sh i
      if !own && !c.srcs.isEmpty && !c.srcs.contains src then s.stranger sh src
      else if s.isAudit sh i then (s.auditsOf sh i).foldl (fun s k => s.auditReturn sh k seq payload) s
      else if own then s
      else s.takePacket sh i c pt seq ts payload) s

/-! ## Delivery (R179, R181, R182, R185, R187) -/

/-- The samples of a stream's next count, and whether they are missing. -/
def RxStream.sampleAt (r : RxStream) (c : StreamCfg) (m : Nat) : Option (List Word) :=
  (r.buf.find? (fun p => decide (p.first ≤ m) && decide (m < p.first + c.n))).map
    (fun p => (p.words.drop ((m - p.first) * c.chans)).take c.chans)

/-- The i-th consecutive missing sample of HOLD_FADE (R181). -/
def fadeWord (h : Word) (i : Nat) : Word := if 64 ≤ i then 0 else BitVec.ofInt 32 ((h.toInt * (64 - Int.ofNat i)).fdiv 64)

/-- The packet time of a count. -/
def RxStream.slotOf (r : RxStream) (c : StreamCfg) (m : Nat) : Nat := (m + c.n - r.grid) / c.n

/-- A stream delivers the sample of count m: as received, or concealed (R181). `hide` conceals it whatever the buffer
holds; `rd` reads a channel's word of the buffer, none where it is substituted by 0 (R187). Answers whether a packet time with
missing samples begins: samples that no accepted packet has carried (R180). -/
def RxStream.deliver (r : RxStream) (c : StreamCfg) (m : Nat) (hide : Bool) (rd : Nat → Word → Option Word) : Bool × RxStream :=
  let carried := r.sampleAt c m
  let misses := carried.isNone && r.missAt != some (r.slotOf c m)
  let r1 : RxStream := { r with next := some (m + 1), missAt := if carried.isNone then some (r.slotOf c m) else r.missAt }
  match (if hide then none else carried) with
  | some l =>
    let l := l.zipIdx.map (fun e => (rd e.2 e.1).getD 0)
    (misses, { r1 with hist := ((m, l) :: r.hist).take 200, hold := l, gap := 0 })
  | none =>
    let l := (List.range c.chans).map (fun j => if c.fade then fadeWord (r.hold.getD j 0) (r.gap + 1) else 0)
    (misses, { r1 with hist := ((m, l) :: r.hist).take 200, gap := r.gap + 1 })

/-- The counts a stream must have delivered for a stitch of media count mu: the first it would start with, and the
last. -/
def StreamCfg.due (c : StreamCfg) (fabric mu : Nat) : Option (Nat × Nat) :=
  let f := rateHz fabric
  let r := rateHz c.rate
  if r ≤ f then
    let lag := c.latency * c.n * (f / r)
    if mu < lag then none else some ((mu - lag) / (f / r), (mu - lag) / (f / r))
  else
    let q := r / f
    let lag := c.latency * c.n / q
    if mu < lag then none else some (q * (mu - lag) + 1 - q, q * (mu - lag))

/-- A stream's words for a stitch of media count mu, from what it has delivered, with the clamps met (R179, R182). -/
def RxStream.words (r : RxStream) (c : StreamCfg) (fabric mu : Nat) : List (Word × Nat) :=
  let f := rateHz fabric
  let q := rateHz c.rate
  (List.range c.chans).map (fun j =>
    if q = f then (BitVec.ofInt 32 (histAt r.hist j (Int.ofNat mu - Int.ofNat (c.latency * c.n))), 0)
    else if q < f then firOut (f / q) (upsampled (f / q) r.hist j) (Int.ofNat mu - Int.ofNat (c.latency * c.n * (f / q)))
    else firOut (q / f) (histAt r.hist j) (Int.ofNat (q / f) * (Int.ofNat mu - Int.ofNat (c.latency * c.n / (q / f)))))

/-- D_c of R182, the conversion delay in fabric stitches. -/
def StreamCfg.delay (c : StreamCfg) (fabric : Nat) : Nat :=
  let f := rateHz fabric
  let r := rateHz c.rate
  if r = f then 0 else if r < f then (if 2 * r = f then 48 else 96) else 24

/-- The first sample of a packet, of those on the grid given, enters the pool at the stitch of media count mu: the packet's
first sample lies L packet times and D_c stitches before it, and no sample of it was due at the stitch before (R179, R184). -/
def StreamCfg.begins (c : StreamCfg) (fabric mu grid : Nat) : Bool :=
  match c.due fabric (mu - c.delay fabric), c.due fabric (mu - c.delay fabric - 1) with
  | some (a, b), before =>
    (List.range (b + 1 - a)).any (fun k => (a + k) % c.n == grid && decide ((before.map (·.2)).all (fun p => decide (p < a + k))))
  | none, _ => false

/-- The counts from a to b. -/
def countsTo (a b : Nat) : List Nat := (List.range (b + 1 - a)).map (fun k => a + k)

/-- The media link of one of the ports a stream uses is up (R170, R190). -/
def State.anyUp (s : State) (sh : Nat) : Bool := (s.ports sh).any s.mediaUp

/-- One receive stream forms its words for stitch k, with the buffer faults of the read (R170, R174, R179–R187). -/
def State.deliverStream (s : State) (sh i k mu : Nat) (faults : List SampleFault) : List (Nat × Word) × State :=
  let c := s.rxCfg sh i
  let fabric := s.nat Obj.stitchRate
  let st := s.rxSt sh i
  match c.due fabric mu with
  | none => ([], s)
  | some (a, b) =>
    let from_ := match st.next with
      | some n => if n ≤ b + 1 && decide (b < n + 2048) then n else a
      | none => a
    let ms := countsTo from_ b
    let s1 := match st.staged with
      | some l => if st.next.isNone || c.begins fabric mu st.grid then s.applyMap sh false i k l else s
      | none => s
    let denied := s1.bufDenied sh st.store
    let late := faults.contains (.spillLate i)
    let hide := late || !s1.anyUp sh || decide (k < st.quiet)
    let words := ms.flatMap (fun m => (List.range c.chans).map (c.rxWord m))
    let s2 := s1.bufMark sh st.store ((words.zipIdx.filter (fun e => faults.contains (.parity i e.2))).map (·.1))
    let bad (m j : Nat) : Bool := s2.bufBad sh st.store (c.rxWord m j)
    let (misses, r) := ms.foldl (fun (a : Nat × RxStream) m =>
      let d := a.2.deliver c m hide (fun j w => if denied || bad m j then none else some (s2.bufRead sh st.store (c.rxWord m j) w))
      (a.1 + (if d.1 then 1 else 0), d.2)) (0, s2.rxSt sh i)
    let read := if hide then [] else (ms.filter (fun m => (st.sampleAt c m).isSome)).flatMap (fun m => (List.range c.chans).map (fun j => (m, j)))
    let slot := st.slotOf c from_
    let s3 := s2.setRx sh i (if late then { r with spillAt := some slot } else r)
    let s4 := if misses = 0 then s3 else s3.bump (shObj sh Obj.shRxMissHem) i misses
    let s5 := if denied && !read.isEmpty then s4.bump Obj.accessDeniedHem (128 + sh) read.length
      else s4.bufParity sh st.store (read.countP (fun e => bad e.1 e.2))
    let s6 := if late && st.spillAt != some slot then s5.bump (shObj sh Obj.shSpillLateHem) else s5
    let raw := r.words c fabric mu
    let out := raw.zipIdx.map (fun e => applyGain e.1.1 (s6.gainFor sh false i e.2 k))
    let clips := (raw.map (·.2)).sum + (out.map (·.2)).sum
    let entries := (out.zipIdx.filterMap (fun e =>
      let ch : Nat := if s6.safeStream sh i then 4096 * sh + e.2 else s6.mapEntry sh Obj.shRxMapActive0 i e.2
      if ch = 0xFFFF then none else some (ch, e.1.1)))
    (entries, s6.clips sh clips)

/-- The Shuttle's samples of stitch k: every enabled stream that has media time and is not held, Shuttle A's stream 0
first where the table names its channels (R185). -/
def State.deliverAll (s : State) (sh k : Nat) (faults : List SampleFault) : List (Nat × Word) × State :=
  match s.mediaOf k with
  | none => ([], s)
  | some mu => (s.enabled sh false).foldl (fun (a : List (Nat × Word) × State) i =>
      if s.isAudit sh i || (s.rxSt sh i).held then a
      else
        let d := a.2.deliverStream sh i k mu faults
        (a.1 ++ d.1, d.2)) ([], s)

/-- A Shuttle writes all its inlet entries of the open bank (R13, R185); Shuttle B's are zero in pair mode (R190). -/
def State.writePool (s : State) (sh : Nat) (faults : List SampleFault) : State :=
  let k := s.writeStitch
  let d := if s.paired && sh = 1 then ([], s) else s.deliverAll sh k faults
  if !s.fab.inWr.isOpen then d.2.bump (shObj sh Obj.poolLate) 0 4096
  else
    let base := 4096 * sh
    let mine := (List.range 4096).map (fun e => (base + e, ((d.1.find? (fun x => x.1 == base + e)).map (·.2)).getD 0))
    { d.2 with fab := { d.2.fab with inWr := { d.2.fab.inWr with
      words := mine ++ d.2.fab.inWr.words.filter (fun e => e.1 / 4096 != sh) } } }

/-- A Shuttle's samples of the open bank are due: they wait while the buffer of a stream is being handed over (R152). -/
def State.fillPool (s : State) (sh : Nat) (faults : List SampleFault) : State :=
  if (s.enabled sh false).any (fun i => s.bufBusy sh (s.rxSt sh i).store) then { s with shWaits := s.shWaits ++ [.pool sh faults] }
  else s.writePool sh faults

/-! ## Transmitting (R178, R182, R187, R188) -/

/-- The samples of a stream that the fabric stitch of media count mu makes, with the clamps met (R182). -/
def TxStream.makes (r : TxStream) (c : StreamCfg) (fabric mu : Nat) : List (List (Word × Nat)) :=
  let f := rateHz fabric
  let q := rateHz c.rate
  let chans := List.range c.chans
  if q = f then [chans.map (fun j => (BitVec.ofInt 32 (histAt r.hist j (Int.ofNat mu)), 0))]
  else if q < f then
    let k := f / q
    if mu % k = 0 then [chans.map (fun j => firOut k (histAt r.hist j) (Int.ofNat mu))] else []
  else
    let k := q / f
    (List.range k).map (fun e => chans.map (fun j => firOut k (upsampled k r.hist j) (Int.ofNat (k * mu + e))))

/-- The packets a run of samples completes: cut the samples at N. `bad`: one of the words they are made of was held or
substituted (R176); a word of a stitch that makes no sample counts with the next sample (DEDUCED, assumption 185). -/
def TxStream.form (r : TxStream) (c : StreamCfg) (fabric mu k : Nat) (holdover bad : Bool) (l : List (List Word)) : TxStream :=
  l.foldl (fun r w =>
    let first := if r.acc.isEmpty then some (mu, k) else r.first
    let acc := r.acc ++ [w]
    if acc.length < c.n then { r with acc := acc, accBad := r.accBad || bad, first := first }
    else
      let (m, stitch) := first.getD (mu, k)
      let ts := (m * rateHz c.rate / rateHz fabric + c.offset) % 2 ^ 32
      { r with acc := [], accBad := false, first := none, seq := (r.seq + 1) % 65536,
               ready := r.ready ++ [⟨r.seq, ts, stitch, k, holdover, r.accBad || bad, acc.flatten⟩] })
    (if l.isEmpty then { r with accBad := r.accBad || bad } else r)

/-- The words of a transmit buffer that samples fill, from where the stream stands: its two packets in turn (R186; DESIGN
CHOICE, assumption 131). -/
def TxStream.fills (r : TxStream) (c : StreamCfg) (l : List (List Word)) : List (Nat × Word) :=
  l.zipIdx.flatMap (fun e =>
    e.1.zipIdx.map (fun f => ((r.seq % 2 * c.n + r.acc.length + e.2) % (2 * c.n) * c.chans + f.2, f.1)))

/-- What a read of an outlet channel for stitch k answers (R14): the bank's word, and whether it was held; of a stitch no longer
held zero, and that counts. -/
def State.outletRead (s : State) (k ch : Nat) : Word × Bool :=
  ((s.poolRead k ch ch).1, (s.fab.outBanks.find? (fun b => b.stitch == k)).all (fun b => b.held.contains ch))

/-- The outlet bank of stitch k can be read, or is held no more; the newest one is readable from the end of its collection
(R14). -/
def State.outletOpen (s : State) (k : Nat) : Bool :=
  match s.fab.outBanks with
  | [] => false
  | b :: _ => decide (k < b.stitch) || (k == b.stitch && decide (s.fab.outAt ≤ s.now))

/-- A transmit stream reads the bank of stitch k, once (R14, R188): a packet begun before a stitch that was not read, or before
the stream was gated, is never formed. -/
def State.readOutlet (s : State) (sh i k : Nat) : State :=
  let c := s.txCfg sh i
  let st0 := s.txSt sh i
  match s.mediaOf k with
  | none => s
  | some mu =>
    if !c.on || st0.held || s.txGated || st0.lastRead.any (fun j => decide (k ≤ j)) || !s.outletOpen k then s
    else
      let fabric := s.nat Obj.stitchRate
      let st : TxStream := if st0.lastRead.any (fun j => j + 1 == k) then st0 else { st0 with acc := [], accBad := false, first := none }
      let s0 := s.setTx sh i st
      let s1 := match st.staged with
        | some l => if st.acc.isEmpty then s0.applyMap sh true i k l else s0
        | none => s0
      let chans := (List.range c.chans).map (fun j => s1.mapEntry sh Obj.shTxMapActive0 i j)
      let used := chans.filter (· != 0xFFFF)
      let words : List (Word × Nat) := chans.zipIdx.map (fun e =>
        applyGain (if e.1 = 0xFFFF then 0 else (s1.outletRead k e.1).1) (s1.gainFor sh true i e.2 k))
      let bad := used.any (fun ch => (s1.outletRead k ch).2)
      let lost := !s1.fab.outBanks.any (fun b => b.stitch == k)
      let st1 := s1.txSt sh i
      let st2 : TxStream := { st1 with hist := ((mu, words.map (fun e => e.1)) :: st1.hist).take 200, lastRead := some k }
      let made : List (List (Word × Nat)) := st2.makes c fabric mu
      let rows := made.map (fun l => l.map (fun e => e.1))
      let st3 : TxStream := st2.form c fabric mu k (s.nat Obj.tbState == 3) bad rows
      let clips := (words.map (fun e => e.2)).sum + (made.map (fun l => (l.map (fun e => e.2)).sum)).sum
      let formed := st3.ready.length - st2.ready.length
      let down := (s.ports sh).filter (fun h => !s.mediaUp h)
      let s2 := down.foldl (fun s h => if formed = 0 then s else s.bump (shObj h Obj.shTxDropHem) 0 formed) s1
      let st4 := if down.length = (s.ports sh).length then { st3 with ready := st2.ready } else st3
      let s3 := if lost then s2.bump (shObj sh Obj.poolLate) 0 used.length else s2
      ((s3.bufWrite sh st2.store (st2.fills c rows)).setTx sh i st4).clips sh clips

/-- The L32 header (R176). -/
def l32Header (holdover concealed : Bool) (chans stitch : Nat) : List Byte :=
  [1, BitVec.ofNat 8 ((if holdover then 1 else 0) + (if concealed then 2 else 0))] ++ beBytes 2 chans ++ beBytes 4 stitch

/-- The RTP header: version 2, no padding, extension, CSRC or marker; payload type, sequence number, timestamp, SSRC (R178). -/
def rtpHeader (pt seq ts ssrc : Nat) : List Byte :=
  [BitVec.ofNat 8 (2 * 64), BitVec.ofNat 8 (pt % 128)] ++ beBytes 2 seq ++ beBytes 4 ts ++ beBytes 4 ssrc

/-- One port sends a formed packet (R178, R188, R190, R191). -/
def State.sendPacket (s : State) (h i : Nat) (c : StreamCfg) (p : TxPkt) (payload : List Byte) : State :=
  if !s.mediaUp h || s.shIp h = 0 then s
  else
    let own := s.txCfg h i
    let s1 := (s.emitNet h (some 0) (.rtp own.dest own.udp
      (rtpHeader c.pt p.seq p.ts (s.nat (shObj (s.cfgOf h) Obj.shTxSsrc) i)) payload)).bump (shObj h Obj.shTxPktHem) i
    if (s.auditUsers h i).isEmpty then s1
    else
      let mine := (s1.shut h).audit.filter (fun r => r.stream == i)
      let s2 := s1.modShut h (fun x => { x with
        audit := ⟨i, p.seq, crc32 payload, s1.tbNs, [], false⟩ :: mine.take 1023 ++ x.audit.filter (fun r => r.stream != i) })
      (mine.drop 1023).foldl (fun s r => s.auditLost h r) s2

/-- Packets that become ready together leave in ascending stream index (R188). -/
def State.mayLeave (s : State) (sh i : Nat) (p : TxPkt) : Bool :=
  (s.shut sh).tx.all (fun e => decide (i ≤ e.1) || e.2.ready.all (fun q => q.formed != p.formed))

/-- The oldest packet ready leaves, with the buffer faults of the read: substituted samples are 0 (R187, R188). One whose buffer
is being handed over waits (R152). -/
def State.sendOldest (s : State) (sh i : Nat) (faults : List SampleFault) : State :=
  let c := s.txCfg sh i
  let st := s.txSt sh i
  match st.ready with
  | [] => s
  | p :: rest =>
    let s0 := s.setTx sh i { st with ready := rest }
    if !c.on || s.txGated then s0
    else if !s.mayLeave sh i p then s
    else if s.bufBusy sh st.store then { s with shWaits := s.shWaits ++ [.send sh i faults] }
    else
      let denied := s.bufDenied sh st.store
      let word (e : Nat) : Nat := p.seq % 2 * c.n * c.chans + e
      let reported (e : Nat) : Bool := faults.contains (.parity (e / c.chans) (e % c.chans))
      let spill (e : Nat) : Bool := faults.contains (.spillLate (e / c.chans))
      let idx := List.range p.words.length
      let s1 := s0.bufMark sh st.store ((idx.filter reported).map word)
      let par (e : Nat) : Bool := s1.bufBad sh st.store (word e)
      let bad (e : Nat) : Bool := denied || par e || spill e
      let words := p.words.zipIdx.map (fun e => if bad e.2 then 0 else s1.bufRead sh st.store (word e.2) e.1)
      let s2 := if denied then s1.bump Obj.accessDeniedHem (128 + sh) p.words.length else s1.bufParity sh st.store (idx.countP par)
      let s3 := if idx.any spill then s2.bump (shObj sh Obj.shSpillLateHem) else s2
      let head := if c.form = 2 then l32Header p.holdover (p.concealed || idx.any bad) c.chans (p.stitch % 2 ^ 32) else []
      let payload := head ++ words.flatMap (wireBytes c.form)
      (s.ports sh).foldl (fun s h => s.sendPacket h i c p payload) s3

/-- What waits of a Shuttle goes on, each access as it was issued (R152). -/
def State.shGo (s : State) : State :=
  s.shWaits.foldl (fun s w => match w with
    | .write sh b l => s.bufWrite sh (some b) l
    | .pool sh faults => s.fillPool sh faults
    | .send sh i faults => s.sendOldest sh i faults) { s with shWaits := [] }

/-! ## The gateway (R169) -/

/-- Ask for the gateway's MAC address, while the Shuttle has an address, a gateway and a link. -/
def State.askGateway (s : State) (sh : Nat) : State :=
  let g := s.gatewayOf sh
  if g = 0 || s.shIp sh = 0 || s.nat (shObj sh Obj.shLink) = 0 || (s.shut sh).gwMac.isSome then s
  else s.emitNet sh none (.arp false g)

/-- What was resolved is so no more: the gateway is asked for again (DESIGN CHOICE, assumption 133: when the link returns and
when SH_IP or SH_GATEWAY changes). -/
def State.forgetGateway (s : State) (sh : Nat) : State := (s.modShut sh (fun h => { h with gwMac := none })).askGateway sh

/-! ## Checks of writes (R171, R190, R193) -/

/-- The offset of a Shuttle's object in its range, and the Shuttle. -/
def shOf (num : Nat) : Option (Nat × Nat) :=
  if 0x4000 ≤ num && decide (num < 0x6000) then some (0, num)
  else if 0x6000 ≤ num && decide (num < 0x8000) then some (1, num - 0x2000)
  else none

/-- Every stream of both Shuttles is disabled. -/
def State.allDisabled (s : State) : Bool :=
  [Obj.shRxEnable, Obj.shTxEnable].all (fun n => [0, 1].all (fun sh => (s.elemsWith (shObj sh n) 1).isEmpty))

/-- RANGE, then the Shuttle's own checks, of a value written to element i (R171, R184, R190, R193). -/
def State.shCheck (s : State) (num i : Nat) (v : Int) : Nat :=
  match shOf num with
  | none => St.ok
  | some (sh, c) =>
    let n := v.toNat
    let own := s.cfgOf sh
    let busyRx (k : Nat) : Nat := if s.bit (shObj own Obj.shRxEnable) k 0 then St.shBusy else St.ok
    let busyTx (k : Nat) : Nat := if s.bit (shObj own Obj.shTxEnable) k 0 then St.shBusy else St.ok
    if c = Obj.shVlan then (if n.testBit 12 && (n % 4096 == 0 || n % 4096 == 4095) then St.range else St.ok)
    else if c = Obj.shDscp then (if 63 < n then St.range else St.ok)
    else if c = Obj.shPairMode then (if s.allDisabled then St.ok else St.shBusy)
    else if c = Obj.shRxLatency then (if n < 2 then St.range else busyRx i)
    else if c = Obj.shRxFormat || c = Obj.shRxDest || c = Obj.shRxUdp || c = Obj.shRxOffset then busyRx i
    else if c = Obj.shRxSrc then busyRx (i / 4)
    else if c = Obj.shTxFormat || c = Obj.shTxDest || c = Obj.shTxUdp || c = Obj.shTxSsrc || c = Obj.shTxOffset then busyTx i
    else if c = Obj.shRxEnable then
      (if n = 1 && !(s.bit num i 0) && !(s.paired && sh == 1) then s.enableCheck sh false i else St.ok)
    else if c = Obj.shTxEnable then
      (if n = 1 && !(s.bit num i 0) && !(s.paired && sh == 1) then s.enableCheck sh true i else St.ok)
    else if c = Obj.shRxMapCommit then s.mapCheck sh false n
    else if c = Obj.shTxMapCommit then s.mapCheck sh true n
    else St.ok

/-- What an accepted write does beside the value. -/
def State.shEffect (s : State) (num i : Nat) (old v : Int) : State :=
  match shOf num with
  | none => s
  | some (sh, c) =>
    if c = Obj.shRxEnable then s.enableEffect sh false i (old == 1) (v == 1)
    else if c = Obj.shTxEnable then s.enableEffect sh true i (old == 1) (v == 1)
    else if c = Obj.shRxMapCommit then s.stageMap sh false v.toNat
    else if c = Obj.shTxMapCommit then s.stageMap sh true v.toNat
    else if c = Obj.shPairMode then s.showLoads.showStreams
    else if c = Obj.shVlan then s.showLoads
    else if c = Obj.shIp || c = Obj.shGateway then (if old = v then s else (s.forgetGateway sh).showLoads)
    else if Obj.shRxGain0 ≤ c && decide (c < Obj.shRxGain0 + 16) || Obj.shTxGain0 ≤ c && decide (c < Obj.shTxGain0 + 16) then
      (if (s.groupOf num i).isNone && !s.leaves num i && old ≠ v then s.noteGain (s.stitch + 1) (objKey num i) old else s)
    else s

/-! ## Meanings -/

/-- The next frame of a control queue: PTP frames first, the others as they arrived (R192). -/
def Shuttle.nextCtrl (h : Shuttle) : Option (CtrlKind × Nat) :=
  match h.ctrlq.find? (fun e => e.1 == .ptp) with
  | some e => some e
  | none => h.ctrlq.head?

/-- Take the next frame of a Shuttle's control queue, with the time it arrived at in ns; nothing comes about where it is of
another kind, and nothing of IP where the Shuttle has no address (R192, R193). -/
def State.takeCtrl (s : State) (sh : Nat) (k : CtrlKind) (f : Nat → State → State) : State :=
  match (s.shut sh).nextCtrl with
  | some e =>
    if e.1 = k then
      let t := s.modShut sh (fun h => { h with ctrlq := h.ctrlq.erase e })
      if s.shIp sh = 0 && k != .arp then t else f e.2 t
    else s
  | none => s

/-- A fragment of an IPv4 datagram (R259): one to another port is dropped; at most 64 reassemblies are open, and what
finds none is dropped and counted; the last fragment completes the message, which the state then carries on. -/
def State.fragment (s : State) (id : Nat) (done ursin : Bool) (next : State → State) : State :=
  if !ursin then s
  else
    let known := s.ursin.frags.any (fun f => f.1 == id)
    if !known && decide (64 ≤ s.ursin.frags.length) then s.bump Obj.ursinDropHem
    else
      let rest := s.ursin.frags.filter (fun f => f.1 != id)
      let frags := if done then rest else if known then s.ursin.frags else rest ++ [(id, s.now)]
      let s1 : State := { s with ursin := { s.ursin with frags := frags } }
      if done then next s1 else s1

/-- A control frame waits in the queue of 2 048 (R192, R211, R259). -/
def State.queueCtrl (s : State) (h : Nat) (k : CtrlKind) : State :=
  if (s.shut h).ctrlq.length < 2048 then
    match k with
    | .ptpIgnored => s.bump Obj.ptpIgnoredHem
    | .frag id done ursin =>
      s.fragment id done ursin (fun s => s.modShut h (fun x => { x with ctrlq := x.ctrlq ++ [(.ursin, s.tbNs)] }))
    | _ => s.modShut h (fun x => { x with ctrlq := x.ctrlq ++ [(k, s.tbNs)] })
  else s.bump (shObj h Obj.shCtrlDropHem)

/-- A frame on a Shuttle (R169, R189, R192): dropped for its FCS, its VLAN tag, its UDP checksum or its addresses; a packet of
the Shuttle's own address silently, and so, of IP, a control frame where the Shuttle has no address (R193; DEDUCED, assumption
195). Media packets go on in RTP_PACKET. -/
def State.shFrame (s : State) (h : Nat) (fcsOk : Bool) (vid : Option (BitVec 12)) (csumOk : Bool) (src : Nat)
    (kind : FrameKind) : State :=
  let tag := s.shVlanNow h
  let vlanOk := if tag.testBit 12 then vid.any (fun v => v.toNat == tag % 4096) else vid.isNone
  if s.nat (shObj h Obj.shLink) = 0 then s
  else if !fcsOk then s.bump (shObj h Obj.shFcsHem)
  else if !vlanOk then s.bump (shObj h Obj.shUnmatchedHem)
  else if !csumOk then s.bump (shObj h Obj.shUdpCsumHem)
  else
    let own := src != 0 && src == s.shIp h
    match kind with
    | .media => s
    | .other => if own then s else s.bump (shObj h Obj.shUnmatchedHem)
    | .control k => if (own || s.shIp h == 0) && k != .arp then s else s.queueCtrl h k

/-- A frame on a 10BASE-T1S segment (R291, R292): its line errors count; fragments are reassembled (R259). -/
def State.t1sFrame (s : State) (g symbols : Nat) (fcsOk : Bool) (kind : FrameKind) : State :=
  if !s.bit Obj.t1sCfg g 0 then s
  else
    let s1 := if symbols = 0 then s else s.bump Obj.t1sSymbolHem g symbols
    if !fcsOk then s1.bump Obj.t1sFcsHem g
    else if s1.nat Obj.t1sIp g = 0 then s1
    else
      match kind with
      | .control (.frag id done ursin) => s1.fragment id done ursin (fun s => s)
      | _ => s1

/-- HANDOVER_DONE (R152): the accesses of the new owner that wait proceed, a Shuttle's among them. -/
def execHandoverDone (dt : Nat) (b : Fin 128) (s : State) : Host.Outcome State Fault Refusal :=
  whenRunning dt s (fun s => if !s.mapBit Obj.handoverBusy b.val then s else (s.handoverDone b.val).shGo)

/-- RX_FRAME (R169, R189, R192, R211, R259, R291, R292). -/
def execRxFrame (dt : Nat) (sh : Fin 4) (symbols : Nat) (fcsOk : Bool) (vid : Option (BitVec 12)) (csumOk : Bool)
    (src : BitVec 32) (kind : FrameKind) (s : State) : Host.Outcome State Fault Refusal :=
  whenRunning dt s (fun s =>
    if sh.val < 2 then s.shFrame sh.val fcsOk vid csumOk src.toNat kind else s.t1sFrame (sh.val - 2) symbols fcsOk kind)

/-- RTP_PACKET (R176–R180, R189–R191). A conflict counts for the Shuttle that received the packet, in pair mode too, where
Shuttle A's bobbin holds the buffer (R155; DESIGN CHOICE, assumption 196). -/
def execRtpPacket (dt : Nat) (sh : Fin 2) (src dest : BitVec 32) (port : BitVec 16) (pt : BitVec 7) (seq : BitVec 16)
    (ts : BitVec 32) (payload : List Byte) (meets : List BobMeet) (s : State) : Host.Outcome State Fault Refusal :=
  whenRunning dt s (fun s =>
    (s.meets (128 + sh.val) meets).rtp sh.val src.toNat dest.toNat port.toNat pt.toNat seq.toNat ts.toNat payload)

/-- A control frame of a kind comes to its protocol: over a Shuttle it leaves the control queue; a segment takes it while it
is in use and has an address (R291). -/
def State.arrives (s : State) (port : Nat) (k : CtrlKind) (f : State → State) : State :=
  if port < 2 then s.takeCtrl port k (fun _ => f)
  else if s.bit Obj.t1sCfg (port - 2) 0 && s.nat Obj.t1sIp (port - 2) != 0 then f s
  else s

/-- ARP_FRAME (R169, R291): a request for the port's own address is answered; on a Shuttle the gateway's reply resolves it. -/
def execArpFrame (dt : Nat) (sh : Fin 4) (reply : Bool) (src target : BitVec 32) (mac : BitVec 48) (s : State) :
    Host.Outcome State Fault Refusal :=
  whenRunning dt s (fun s => s.arrives sh.val .arp (fun s =>
    if s.portIp sh.val = 0 || target.toNat ≠ s.portIp sh.val then s
    else if !reply then s.replyNet sh.val none src.toNat (.arp true src.toNat)
    else if sh.val < 2 && src.toNat ≠ 0 && src.toNat = s.gatewayOf sh.val then
      s.modShut sh.val (fun h => { h with gwMac := some mac.toNat })
    else s))

/-- ICMP_ECHO (R169, R189, R291): a Shuttle gives at most 100 replies a second, and none to its own address. -/
def execIcmpEcho (dt : Nat) (sh : Fin 4) (src : BitVec 32) (s : State) : Host.Outcome State Fault Refusal :=
  whenRunning dt s (fun s => s.arrives sh.val .icmp (fun s1 =>
    let recent := (s1.shut sh.val).icmp.filter (fun t => decide (s1.now < t + 1000 * msPs))
    if s1.portIp sh.val = 0 || src.toNat = s1.portIp sh.val then s1
    else if 2 ≤ sh.val then s1.replyNet sh.val none src.toNat (.icmp src.toNat)
    else if recent.length < 100 then
      (s1.modShut sh.val (fun h => { h with icmp := s1.now :: recent })).emitNet sh.val (some 2) (.icmp src.toNat)
    else s1.bump (shObj sh.val Obj.shCtrlDropHem)))

/-- IGMP_QUERY (R169). -/
def execIgmpQuery (dt : Nat) (sh : Fin 2) (v2 : Bool) (s : State) : Host.Outcome State Fault Refusal :=
  whenRunning dt s (fun s => s.takeCtrl sh.val .igmp (fun _ s1 =>
    let s2 := if v2 then s1.modShut sh.val (fun h => { h with igmpV2 := some s1.now }) else s1
    s2.report sh.val (s2.joined sh.val)))

/-- IGMP_FALLBACK_END (R169): 260 s after the latest IGMPv2 query. -/
def execIgmpFallbackEnd (dt : Nat) (sh : Fin 2) (s : State) : Host.Outcome State Fault Refusal :=
  whenRunning dt s (fun s =>
    if (s.shut sh.val).igmpV2.any (fun t => decide (t + 260000 * msPs ≤ s.now)) then
      s.modShut sh.val (fun h => { h with igmpV2 := none })
    else s)

/-- INLET_POOL_WRITE (R13, R179–R187). -/
def execInletPoolWrite (dt : Nat) (sh : Fin 2) (faults : List SampleFault) (meets : List BobMeet) (s : State) :
    Host.Outcome State Fault Refusal :=
  whenRunning dt s (fun s => (s.meets (128 + sh.val) meets).fillPool sh.val faults)

/-- OUTLET_POOL_READ (R14, R182–R184, R188). -/
def execOutletPoolRead (dt : Nat) (sh : Fin 2) (i : Fin 256) (k : Nat) (meets : List BobMeet) (s : State) :
    Host.Outcome State Fault Refusal :=
  whenRunning dt s (fun s =>
    if s.paired && sh.val = 1 then s else (s.meets (128 + sh.val) meets).readOutlet sh.val i.val k)

/-- TX_PACKET (R176, R178, R187, R188, R190, R191). -/
def execTxPacket (dt : Nat) (sh : Fin 2) (i : Fin 256) (faults : List SampleFault) (meets : List BobMeet) (s : State) :
    Host.Outcome State Fault Refusal :=
  whenRunning dt s (fun s =>
    if s.paired && sh.val = 1 then s else (s.meets (128 + sh.val) meets).sendOldest sh.val i.val faults)

/-- AUDIT_RECORD_EXPIRE (R191): an unmatched record older than 1 s is lost. -/
def execAuditRecordExpire (dt : Nat) (sh : Fin 2) (i : Fin 256) (seq : BitVec 16) (s : State) :
    Host.Outcome State Fault Refusal :=
  whenRunning dt s (fun s =>
    match (s.shut sh.val).audit.find? (fun r => r.stream == i.val && r.seq == seq.toNat && decide (r.at_ + 1000000000 < s.tbNs)) with
    | none => s
    | some r =>
      (s.auditLost sh.val r).modShut sh.val (fun h => { h with
        audit := h.audit.map (fun x => if x = r then { x with lost := true } else x) }))

end Sys2Proof.Machine
end

