-- ==== Sys2Proof/Machine/Tdm.lean ====
section
/-!
DEFINITION. The local TDM audio ports (R194–R207).
-/

namespace Sys2Proof.Machine

/-- Port p. -/
def State.port (s : State) (p : Nat) : TdmPort := s.tdm.getD p TdmPort.start
/-- Change port p. -/
def State.modPort (s : State) (p : Nat) (f : TdmPort → TdmPort) : State := { s with tdm := modAt s.tdm p f }

/-- The settings in force: the safety routing table's until FULL begins, once it is in force (R205, R313, R315). -/
def State.tdmCfg (s : State) (p : Nat) : Nat :=
  if s.tdmSafe then (if s.safe.since.isSome && s.safe.valid then s.safeLe (0x38 + 4 * p) 4 else 0) else s.nat Obj.tdmCfg p

/-- Entry s of port p's receive (transmit) table in force (R203, R205). -/
def State.tdmEntry (s : State) (tx : Bool) (p slot : Nat) : Nat := s.tdmTable tx (16 * p + slot)

/-- MODE of a TDM_CFG element: 0 OFF, 1 MASTER, 2 SLAVE. -/
def tdmMode (v : Nat) : Nat := v % 4

/-- The master BCLK of a rate, in Hz (R194). -/
def masterHz (rate : Nat) : Nat := if family44 rate then 22579200 else 24576000

/-- The BCLK period of a port in ps: a master's by the rate in force (R194), a slave's as its pins have it (R198). -/
def State.tdmBclk (s : State) (p ext : Nat) : Nat :=
  if tdmMode (s.tdmCfg p) = 1 then 1000000000000 / masterHz (s.nat Obj.stitchRate) else ext

/-- t_s: two BCLK periods and 40 ns (R199). -/
def State.syncTime (s : State) (p ext : Nat) : Nat :=
  if tdmMode (s.tdmCfg p) = 1 then 2000000000000 / masterHz (s.nat Obj.stitchRate) + 40000 else 2 * ext + 40000

/-- What DOUT drives outside active transmit slots: 0, or nothing (R196). -/
def doutIdle (v : Nat) : Option Word := if v.testBit 8 then none else some 0

/-- A media PLL's VCO in Hz: 51 200 times its base rate, an exact ratio to the timebase (R223). -/
def vcoHz (pll : Nat) : Nat := if pll = 1 then 51200 * 44100 else 51200 * 48000

/-- A media PLL is locked. -/
def State.pllLocked (s : State) (pll : Nat) : Bool := s.bit Obj.pllStatus pll 0

/-- The PLL an MCK or WCK output takes: 0 PLL_48, 1 PLL_44. -/
def State.pllOf (s : State) (out : Nat) : Nat := s.field Obj.clkCfg out 30 30

/-- The condition of R197 on a master port's MCK output: the rate's family, and 1, 2, 4 or 8 times the master BCLK. -/
def State.masterOk (s : State) (cfg : Nat) : Bool :=
  let out := bits cfg 13 12
  (s.pllOf out == 1) == family44 (s.nat Obj.stitchRate) &&
    [1, 2, 4, 8].any (fun m => vcoHz (s.pllOf out) * 2 == m * masterHz (s.nat Obj.stitchRate) * s.field Obj.clkCfg out 29 16)

/-- TDM_STATE of a port (R202, R205): in TEST every port reads GATED. -/
def State.showPort (s : State) (p : Nat) : State :=
  s.setNat Obj.tdmState p (if s.level = 2 then 4 else if tdmMode (s.tdmCfg p) = 0 then 0 else (s.port p).clock)

/-- TDM_STATE of every port. -/
def State.showPorts (s : State) : State := (List.range 16).foldl State.showPort s

/-- A port's clock goes: 2 NO_CLOCK or 3 CLOCK_FAULT, logged; its frames are gone, no slip counts, and DOUT follows DOUT_IDLE
(R202). -/
def State.loseClock (s : State) (p c : Nat) : State :=
  if (s.port p).clock = c then s
  else (((s.modPort p (fun q => { q with clock := c, done := [], lastSent := none })).showPort p).log 0x42 p c).emit
    (.tdmIdle p (doutIdle (s.tdmCfg p)))

/-- A master port runs, or enters CLOCK_FAULT or NO_CLOCK (R197, R202). -/
def State.checkMaster (s : State) (p : Nat) : State :=
  let v := s.tdmCfg p
  if tdmMode v ≠ 1 then s
  else if !s.masterOk v then s.loseClock p 3
  else if !s.pllLocked (s.pllOf (bits v 13 12)) then s.loseClock p 2
  else s

/-- A port takes up its settings: one whose settings stay goes on, and a slave with no clock waits for its first complete
frame (R202). -/
def State.startPort (s : State) (p : Nat) : State :=
  let v := s.tdmCfg p
  let q := s.port p
  if tdmMode v = 0 then
    (s.modPort p (fun q => { q with clock := 0, done := [], lastSent := none, cfg := v })).showPort p
  else if q.clock ≠ 0 && q.cfg = v then (s.checkMaster p).showPort p
  else
    let c := if tdmMode v = 2 && tdmMode q.cfg = 2 && q.clock = 2 then 2 else 1
    let s1 := s.modPort p (fun q => { q with clock := c, done := [], lastSent := none, frameAt := s.now, cfg := v })
    (s1.checkMaster p).showPort p

/-- Every port takes up the settings of a service level, or of a safety table, that comes into force (R205). -/
def State.startPorts (s : State) : State := (List.range 16).foldl State.startPort s

/-- A port whose settings were written in FULL or TEST takes them up (R207). -/
def State.restartPort (s : State) (p : Nat) : State := (s.modPort p (fun q => { q with clock := 0 })).startPort p

/-- At a strobe that ends a period lengthened by a step, every running master port has held its clock: each such
lengthening counts once (R74, R197, R228). -/
def State.realignPorts (s : State) : State :=
  if !s.tbs.stepped || lengthening s.clk.strobeTb (s.nat Obj.stitchRate) s.nextRate = 0 then s
  else (List.range 16).foldl (fun s p =>
    if tdmMode (s.tdmCfg p) = 1 && (s.port p).clock = 1 then s.bump Obj.tdmRealignHem p else s) s

/-- Master ports are checked against R197 after a change of an MCK output or of the rate (R202). -/
def State.recheckPorts (s : State) : State :=
  (List.range 16).foldl (fun s p =>
    let v := s.tdmCfg p
    if tdmMode v = 1 && (s.port p).clock != 3 && !s.masterOk v then s.loseClock p 3 else s) s

/-- Master ports lose a PLL (R202, R226). -/
def State.portsLosePll (s : State) (pll : Nat) : State :=
  (List.range 16).foldl (fun s p =>
    let v := s.tdmCfg p
    if tdmMode v = 1 && (s.port p).clock == 1 && s.pllOf (bits v 13 12) == pll then s.loseClock p 2 else s) s

/-- Staged tables come into force with a frame that starts (R203); before FULL begins they wait for it (R205). -/
def State.applyTables (s : State) (p : Nat) : State :=
  match (s.port p).staged with
  | none => s
  | some (rx, tx) =>
    if s.tdmSafe then s
    else
      let s1 := rx.zipIdx.foldl (fun s e => s.setNat Obj.tdmRxMapActive (16 * p + e.2) e.1) s
      let s2 := tx.zipIdx.foldl (fun s e => s.setNat Obj.tdmTxMapActive (16 * p + e.2) e.1) s1
      s2.modPort p (fun q => { q with staged := none, newTable := true })

/-- At a strobe master ports take their clock back where it is sound again, one that leaves CLOCK_FAULT while its PLL is out of
lock going over to NO_CLOCK (R202), and staged tables apply to a port that runs no frame (R203). -/
def State.portsRegain (s : State) : State :=
  (List.range 16).foldl (fun s p =>
    let v := s.tdmCfg p
    if (s.port p).clock == 1 then s
    else
      let s1 := s.applyTables p
      if tdmMode v = 1 && decide (2 ≤ (s1.port p).clock) && s1.masterOk v then
        (if s1.pllLocked (s1.pllOf (bits v 13 12)) then (s1.modPort p (fun q => { q with clock := 1 })).showPort p
         else s1.loseClock p 2)
      else s1) s

/-- A word with WORD24's bits forced to 0 (R196). -/
def word24 (v : Nat) (w : Word) : Word := if v.testBit 7 then w &&& 0xFFFFFF00 else w

/-- FSYNC is active in a cycle (R196). -/
def fsActive (v : Nat) (c : TdmCycle) : Bool := c.fs != v.testBit 4

/-- DIN's bits from the first bit of slot 0 on: launched at the edge at which FSYNC becomes active, or at the next one, and
sampled at the opposite edge (R196). -/
def dinBits (v : Nat) (line : List TdmCycle) : List Bool :=
  ((line.dropWhile (fun c => !fsActive v c)).drop (if v.testBit 5 then 1 else 0)).map
    (fun c => if v.testBit 6 then c.fall else c.rise)

/-- The word of a slot, most significant bit first (R194). -/
def slotWord (l : List Bool) (e : Nat) : Word :=
  BitVec.ofNat 32 (((l.drop (32 * e)).take 32).foldl (fun a b => 2 * a + b.toNat) 0)

/-- Slots up to the highest active one of a port (R198). -/
def State.tdmActive (s : State) (p : Nat) : Nat :=
  (List.range s.tdmSlots).foldl (fun m e =>
    if s.tdmEntry false p e = 0xFFFF && s.tdmEntry true p e = 0xFFFF then m else e + 1) 0

/-- TDM_RX_FRAME (R199, R202): a frame with all its active slots waits for the first bank whose cutoff it meets; one that is
short of them is no complete frame (R198). -/
def execTdmRxFrame (dt : Nat) (p : Fin 16) (bclk : Nat) (line : List TdmCycle) (s : State) :
    Host.Outcome State Fault Refusal :=
  whenRunning dt s (fun s =>
    let v := s.tdmCfg p.val
    let q := s.port p.val
    let din := dinBits v line
    if tdmMode v = 0 || (tdmMode v = 1 && (q.clock != 1 || s.pw.hush)) || decide (din.length < 32 * s.tdmActive p.val) then s
    else
      let got := (List.range s.tdmSlots).filterMap (fun e =>
        let ch := s.tdmEntry false p.val e
        if ch = 0xFFFF then none else some (ch, word24 v (slotWord din e)))
      let f : TdmFrame := ⟨s.now + s.syncTime p.val bclk, got, q.newTable⟩
      (s.modPort p.val (fun q => { q with done := q.done ++ [f], newTable := false, clock := 1, frameAt := s.now })).showPort p.val)

/-- Slips of a slave port (R201); a master never slips. -/
def State.slips (s : State) (p n : Nat) : State :=
  if n = 0 || tdmMode (s.tdmCfg p) != 2 || (s.port p).clock != 1 then s else s.bump Obj.tdmSlipHem p n

/-- The words a port brings to the bank of stitch k (R195, R199, R201, R203). -/
def State.portWords (s : State) (p k : Nat) : List (Nat × Word) × State :=
  let q := s.port p
  let fit := q.done.filter (fun f => decide (f.ready ≤ s.now))
  let s1 := s.modPort p (fun q => { q with done := q.done.filter (fun f => decide (s.now < f.ready)) })
  match fit.getLast? with
  | none => ([], s1.slips p 1)
  | some f =>
    let s2 := s1.slips p (fit.length - 1)
    (f.words, if fit.any (·.newTable) then s2.setNat Obj.tdmMapStitch p k else s2)

/-- The port block writes the 256 TDM entries of the open bank; the entries of a port whose words come late are not written,
and each of its writes, past the cutoff, is refused and counts (R13, R195). -/
def State.writeTdm (s : State) (late : BitVec 16) : State :=
  if !s.fab.inWr.isOpen then s
  else
    let k := s.fab.inWr.stitch
    let (words, s0) := (List.range 16).foldl (fun (a : List (Nat × Word) × State) p =>
      let d := a.2.portWords p k
      (a.1 ++ (if late.getLsbD p then [] else d.1), d.2)) ([], s)
    let behind (ch : Nat) : Bool := late.getLsbD (s.tdmPortOf ch) &&
      (List.range s.tdmSlots).any (fun e => s.tdmEntry false (s.tdmPortOf ch) e == ch)
    let mine := ((List.range 256).filter (fun e => !behind (8192 + e))).map (fun e =>
      (8192 + e, ((words.find? (fun x => x.1 == 8192 + e)).map (·.2)).getD 0))
    let s1 := (((List.range 256).map (8192 + ·)).filter behind).foldl State.countPoolLate s0
    { s1 with fab := { s1.fab with inWr := { s1.fab.inWr with
      words := mine ++ s1.fab.inWr.words.filter (fun e => decide (e.1 < 8192)) } } }

/-- INLET_CUTOFF (R13, R195, R199): once a bank, 160 ns before the strobe of its stitch. -/
def execInletCutoff (dt : Nat) (late : BitVec 16) (s : State) : Host.Outcome State Fault Refusal :=
  whenRunning dt s (fun s => if s.fab.inWr.isOpen && s.within 160 then (s.writeTdm late).inletCutoff else s)

/-- The newest outlet bank readable t ps before now (R200). -/
def State.bankBefore (s : State) (t : Nat) : Option PoolBank :=
  if s.fab.outAt + t ≤ s.now then s.fab.outBanks.head? else s.fab.outBanks[1]?

/-- How a port's frames stand on its pins (R196, R197). -/
def State.tdmForm (s : State) (p ext : Nat) : TdmForm :=
  let v := s.tdmCfg p
  ⟨if tdmMode v = 1 then some ([1, 32, 16 * s.tdmSlots].getD (bits v 3 2) 1) else none, !v.testBit 4,
    if v.testBit 5 then 1 else 0, v.testBit 6, s.tdmBclk p ext⟩

/-- The word of a transmit slot: in TEST 0; in TRIM that of a safety-matrix output of a stitch under the table, else 0 (R205). -/
def State.txWord (s : State) (bank : Option PoolBank) (ch : Nat) : Word :=
  let mine := decide (8192 ≤ ch) && decide (ch < 8256) && bank.any (fun b => s.safe.since.any (fun k => decide (k ≤ b.stitch)))
  if s.level = 2 || (s.level = 1 && !mine) then 0 else (bank.map (fun b => b.word ch)).getD 0

/-- TDM_TX_FRAME (R200, R201, R203, R205). -/
def execTdmTxFrame (dt : Nat) (p : Fin 16) (bclk : Nat) (s : State) : Host.Outcome State Fault Refusal :=
  whenRunning dt s (fun s =>
    let v := s.tdmCfg p.val
    if tdmMode v = 0 || (s.port p.val).clock != 1 || (tdmMode v = 1 && s.pw.hush) then s
    else
      let s1 := s.applyTables p.val
      let bank := s1.bankBefore (s.syncTime p.val bclk)
      let slots := (List.range s1.tdmSlots).map (fun e =>
        let ch := s1.tdmEntry true p.val e
        if ch = 0xFFFF then doutIdle v else some (word24 v (s1.txWord bank ch)))
      let lost := match (s1.port p.val).lastSent, bank with
        | some l, some b => if b.stitch = l then 1 else b.stitch - l - 1
        | _, _ => 0
      let s2 := (s1.slips p.val lost).modPort p.val (fun q => { q with lastSent := bank.map (·.stitch) })
      s2.emit (.tdm p.val (s.tdmForm p.val bclk) slots))

/-- TDM_NO_CLOCK (R202): a slave with no frame for 4 stitch periods, or a master whose PLL is not locked. -/
def execTdmNoClock (dt : Nat) (p : Fin 16) (s : State) : Host.Outcome State Fault Refusal :=
  whenRunning dt s (fun s =>
    let v := s.tdmCfg p.val
    let q := s.port p.val
    let quiet := decide (q.frameAt * rateHz (s.nat Obj.stitchRate) + 4000000000000 ≤ s.now * rateHz (s.nat Obj.stitchRate))
    if q.clock = 1 && ((tdmMode v = 2 && quiet) || (tdmMode v = 1 && !s.pllLocked (s.pllOf (bits v 13 12)))) then s.loseClock p.val 2
    else s)

/-! ## Writes (R203, R207) -/

/-- Port p's shadow table. -/
def State.tdmShadow (s : State) (tx : Bool) (p : Nat) : List Nat :=
  (List.range 16).map (fun e => s.nat (if tx then Obj.tdmTxMap else Obj.tdmRxMap) (16 * p + e))

/-- Receive entries of the other ports, active and staged. -/
def State.otherPortEntries (s : State) (p : Nat) : List Nat :=
  (List.range 16).flatMap (fun q =>
    if q = p then []
    else (List.range 16).map (fun e => s.nat Obj.tdmRxMapActive (16 * q + e)) ++ (((s.port q).staged.map (·.1)).getD []))

/-- The checks of the port objects (R197, R203, R207). -/
def State.tdmCheck (s : State) (num i : Nat) (v : Int) : Nat :=
  let n := v.toNat
  if num = Obj.tdmMapCommit then
    if 15 < n then St.range
    else
      let rx := (s.tdmShadow false n).filter (· != 0xFFFF)
      if rx.any (fun e => decide (e < 8192) || decide (8447 < e)) || (s.tdmShadow true n).any (fun e => e != 0xFFFF && decide (8447 < e)) then
        St.mapRange
      else if hasTwins rx || rx.any (fun e => (s.otherPortEntries n).contains e) then St.mapConflict
      else St.ok
  else if num = Obj.tdmCfg then
    let old := s.nat Obj.tdmCfg i
    if n % 4 = 3 || bits n 3 2 = 3 then St.formatCode
    else if old % 4 != 0 && old / 4 != n / 4 then St.tdmBusy
    else if n % 4 = 1 && !s.masterOk n then St.tdmClock
    else St.ok
  else St.ok

/-- What an accepted write of the port objects does beside the value. -/
def State.tdmEffect (s : State) (num i : Nat) (old v : Int) : State :=
  if num = Obj.tdmMapCommit then
    s.modPort v.toNat (fun q => { q with staged := some (s.tdmShadow false v.toNat, s.tdmShadow true v.toNat) })
  else if num = Obj.tdmCfg then (if s.tdmSafe || old = v then s else s.restartPort i)
  else s

end Sys2Proof.Machine
end

