-- ==== Sys2Proof/Machine/Venue.lean ====
section
/-!
DEFINITION. Lighting and stage control (R276–R292, R295, R296): universes, sACN, cue lock, DMX512, RDM and the 10BASE-T1S
segments.
-/

namespace Sys2Proof.Machine

/-! ## Universes and cue points (R276, R282) -/

/-- Change the venue ports' inner state. -/
def State.modVen (s : State) (f : Venue → Venue) : State := { s with ven := f s.ven }
/-- DMX port p. -/
def State.dmxPort (s : State) (p : Nat) : DmxPort := s.ven.dmx.getD p DmxPort.start
/-- Change DMX port p. -/
def State.modDmx (s : State) (p : Nat) (f : DmxPort → DmxPort) : State :=
  s.modVen (fun v => { v with dmx := modAt v.dmx p f })

/-- Universe u receives over sACN. -/
def State.univRx (s : State) (u : Nat) : Bool := (s.univCfg u).testBit 0
/-- Universe u transmits over sACN. -/
def State.univTx (s : State) (u : Nat) : Bool := (s.univCfg u).testBit 1

/-- The universes with TX set, in ascending index. -/
def State.txUnivs (s : State) : List Nat :=
  (s.regs.filter (fun e => decide (Obj.univCfg0 ≤ e.1 / 2048) && decide (e.1 / 2048 < Obj.univCfg0 + 32) && e.2.toNat.testBit 1)).map
    (fun e => 1024 * (e.1 / 2048 - Obj.univCfg0) + e.1 % 2048)

/-- P of a frame rate in Hz at the stitch rate in force (R282). -/
def State.cuePeriod (s : State) (hz : Nat) : Nat := ceilDiv (rateHz (s.nat Obj.stitchRate)) hz
/-- The stitch in progress is a cue point of the frame rate. -/
def State.atCue (s : State) (hz : Nat) : Bool := s.stitch % s.cuePeriod hz == 0

/-- The slots of universe u in the bank in force (R110, R282). -/
def State.activeSlots (s : State) (u : Nat) : List Byte :=
  (List.range 512).map (fun k => BitVec.ofNat 8 (s.committedVal (slotNum u k) 0).toNat)

/-- Outputs of image content are gated: outside FULL service, and while STANDBY is being entered (R283, R295, R350). -/
def State.venueGated (s : State) : Bool := s.level != 0 || s.pw.standby

/-! ## Receiving sACN (R277–R281) -/

/-- The part's own CID as a number. -/
def State.ownCid (s : State) : Nat := beNat (s.blob Obj.sacnCid)

/-- −20 < s − last ≤ 0 as a signed 8-bit value (R277). -/
def seqOld (new last : Nat) : Bool :=
  let d := (new + 256 - last % 256) % 256
  d == 0 || decide (237 ≤ d)

/-- The live sACN source of a CID on a universe. -/
def State.sacnSrc? (s : State) (cid u : Nat) : Option SacnSrc := s.ven.srcs.find? (fun x => x.cid == cid && x.univ == u)
/-- Put a source's record in place of its earlier one. -/
def State.putSacn (s : State) (x : SacnSrc) : State :=
  s.modVen (fun v => { v with srcs := v.srcs.filter (fun y => !(y.cid == x.cid && y.univ == x.univ)) ++ [x] })

/-- Each slot of a frame is judged on its own: the state, and whether one was refused with TACKED (R278, R287). -/
def State.mergeFrame (s : State) (src : Src) (prio u : Nat) (slots : List Byte) : State × Bool :=
  (slots.take 512).zipIdx.foldl (fun (a : State × Bool) e =>
    let num := slotNum u e.2
    let c := a.1.mergeCheck src prio num
    if c = St.ok then (a.1.slotWrite src prio num (Int.ofNat e.1.toNat), a.2) else (a.1, a.2 || c == St.tacked)) (s, false)

/-- One packet merges as a step of its source (R278). -/
def State.mergeSacn (s : State) (cid u prio : Nat) (slots : List Byte) : State :=
  let s1 := match s.sacnSrc? cid u with
    | some x => s.putSacn { x with prio := prio }
    | none => s
  let s2 := (s1.contribNums (slotNum u 0) (slotNum u 511)).foldl State.remerge s1
  let (s3, refused) := s2.mergeFrame (.sacn cid) prio u slots
  let s4 := s3.showPairs
  if refused then s4.bump Obj.sacnRefusedHem else s4

/-- An accepted data packet: merged, held for its synchronization, or the last of its source; a new source that raises the highest
priority present ends what lower ones count (R277–R279). -/
def State.acceptSacn (s : State) (u : Nat) (p : SacnPkt) : State :=
  let cid := p.cid.toNat
  let s1 := s.bump Obj.sacnRxPktHem
  if p.term then s1.endSacn cid u
  else
    let old := s1.sacnSrc? cid u
    let held := if p.sync = 0 then (old.bind (·.held)) else some (p.sync.toNat, p.slots, s1.now, p.prio.toNat)
    let x : SacnSrc := ⟨cid, u, p.seq.toNat, s1.now, ((old.map (·.prio)).getD p.prio.toNat), held⟩
    let s2 := s1.putSacn x
    if p.sync = 0 then s2.mergeSacn cid u p.prio.toNat p.slots
    else ((s2.contribNums (slotNum u 0) (slotNum u 511)).foldl State.remerge s2).showPairs

/-- A data packet by the rows of R277, then the limits of R280 and R281. -/
def State.sacnData (s : State) (p : SacnPkt) (full : Bool) : State :=
  let cid := p.cid.toNat
  let base := s.ven.base
  let u := p.univ.toNat - base
  if !p.valid then s.bump Obj.sacnIgnoredHem
  else if cid = s.ownCid then s
  else if p.discovery then s
  else if p.preview || p.start != 0 then s.bump Obj.sacnIgnoredHem
  else if decide (p.univ.toNat < base) || decide (base + 32767 < p.univ.toNat) || !s.univRx u then s.bump Obj.sacnUnmatchedHem
  else if (s.sacnSrc? cid u).any (fun x => seqOld p.seq.toNat x.seq) then s.bump Obj.sacnSeqHem
  else if full then s.bump Obj.sacnRxDropHem
  else if (s.univPolicy u = 2 || s.univPolicy u = 3) && !s.pairFits u (.sacn cid) then s.bump Obj.sacnSrcFullHem
  else s.acceptSacn u p

/-- SACN_DATA_PACKET (R234, R277–R281). -/
def execSacnDataPacket (dt : Nat) (port : Fin 4) (p : SacnPkt) (full : Bool) (s : State) : Host.Outcome State Fault Refusal :=
  whenRunning dt s (fun s =>
    s.arrives port.val .sacn (fun s => s.sacnData p full))

/-- The sources of a CID that hold a packet for an address, oldest packet first. -/
def State.heldFor (s : State) (cid addr : Nat) : List (SacnSrc × List Byte × Nat × Nat) :=
  (s.ven.srcs.filterMap (fun x =>
    match x.held with
    | some h => if x.cid = cid && h.1 = addr then some (x, h.2.1, h.2.2.1, h.2.2.2) else none
    | none => none)).mergeSort (fun a b => decide (a.2.2.1 ≤ b.2.2.1))

/-- Merge a source's held packet. -/
def State.mergeHeld (s : State) (e : SacnSrc × List Byte × Nat × Nat) : State :=
  (s.putSacn { e.1 with held := none }).mergeSacn e.1.cid e.1.univ e.2.2.2 e.2.1

/-- SACN_SYNC_PACKET (R277, R279). -/
def execSacnSyncPacket (dt : Nat) (port : Fin 4) (valid : Bool) (cid : BitVec 128) (addr : BitVec 16) (seq : BitVec 8)
    (s : State) : Host.Outcome State Fault Refusal :=
  whenRunning dt s (fun s0 =>
    s0.arrives port.val .sacn (fun s =>
      let recent := s.ven.syncs.filter (fun y => decide (s.now < y.2.2.2 + 2500 * msPs))
      let mine (y : Nat × Nat × Nat × Nat) : Bool := y.1 == cid.toNat && y.2.1 == addr.toNat
      if !valid then s.bump Obj.sacnIgnoredHem
      else if cid.toNat = s.ownCid then s
      else if recent.any (fun y => mine y && seqOld seq.toNat y.2.2.1) then s.bump Obj.sacnSeqHem
      else
        let e : Nat × Nat × Nat × Nat := (cid.toNat, addr.toNat, seq.toNat, s.now)
        let s1 := (s.modVen (fun v => { v with syncs := recent.filter (fun y => !mine y) ++ [e] })).bump Obj.sacnRxPktHem
        (s1.heldFor cid.toNat addr.toNat).foldl State.mergeHeld s1))

/-- SACN_SYNC_TIMEOUT (R279): 1 s after the oldest held packet each is merged on its own, in arrival order. -/
def execSacnSyncTimeout (dt : Nat) (cid : BitVec 128) (addr : BitVec 16) (s : State) : Host.Outcome State Fault Refusal :=
  whenRunning dt s (fun s =>
    let l := s.heldFor cid.toNat addr.toNat
    if (l.head?).any (fun e => decide (e.2.2.1 + 1000 * msPs ≤ s.now)) then
      (l.foldl State.mergeHeld s).bump Obj.sacnSyncLostHem
    else s)

/-- SACN_SOURCE_EXPIRE (R278): 2.5 s without an accepted packet. -/
def execSacnSourceExpire (dt : Nat) (cid : BitVec 128) (u : Fin 32768) (s : State) : Host.Outcome State Fault Refusal :=
  whenRunning dt s (fun s =>
    if (s.sacnSrc? cid.toNat u.val).any (fun x => decide (x.at_ + 2500 * msPs ≤ s.now)) then s.endSacn cid.toNat u.val else s)

/-! ## Transmitting sACN (R283) -/

/-- The ports that can send now: a Shuttle with link and address, a segment in use with an address. -/
def State.portUp (s : State) (port : Nat) : Bool :=
  (decide (2 ≤ port) || s.nat (shObj port Obj.shLink) != 0) && s.portIp port != 0

/-- A port carries universe u's packets. -/
def State.portCarries (s : State) (port u : Nat) : Bool :=
  if port < 2 then s.bit Obj.sacnTxPorts 0 port
  else (List.range 16).any (fun j => s.nat Obj.t1sTxUniv (16 * (port - 2) + j) == u)

/-- The multicast address 239.255.hi.lo of a universe number (R283). -/
def sacnGroup (univ : Nat) : Nat := 0xEFFF0000 + univ

/-- One packet of universe u on a port. -/
def State.sendSacn (s : State) (port u seq : Nat) (term : Bool) (slots : List Byte) : State :=
  (s.emitNet port (some 2) (.sacn (sacnGroup (s.ven.base + u)) (s.ven.base + u) seq (s.nat Obj.sacnTxPrio)
    (s.nat Obj.sacnSyncAddr) (s.blob Obj.sacnCid) (s.blob Obj.sacnName) term slots)).bump Obj.sacnTxPktHem

/-- Universe u's packets of a cue point: those that meet a full segment queue drop and count; those not sent in 5 ms
wait for that; a packet sent advances the universe's number (R283, R292). -/
def State.cueUniv (s : State) (slow : List (Nat × Nat)) (full : Nat) (term : Bool) (u : Nat) : State :=
  let ports := (List.range 4).filter (fun p => s.portCarries p u)
  let dropped := ports.filter (fun p => decide (2 ≤ p) && full.testBit (p - 2))
  let late := ports.filter (fun p => !dropped.contains p && (slow.contains (p, u) || !s.portUp p))
  let sent := ports.filter (fun p => !dropped.contains p && !late.contains p)
  let seq := (look (fun _ => 0) s.ven.seqs u + 1) % 256
  let slots := s.activeSlots u
  let s1 := dropped.foldl (fun s p => s.bump Obj.t1sTxDropHem (p - 2)) s
  let s2 := s1.modVen (fun v => { v with
    slow := v.slow ++ late.map (fun p => (p, u)),
    seqs := if sent.isEmpty then v.seqs else put (fun _ => 0) v.seqs u seq,
    term := if term then put (fun _ => 0) v.term u (look (fun _ => 0) v.term u - 1) else v.term })
  sent.foldl (fun s p => s.sendSacn p u seq term slots) s2

/-- SACN_CUE_POINT (R282, R283, R295). -/
def execSacnCuePoint (dt : Nat) (slow : List (Fin 4 × Fin 32768)) (full : BitVec 2) (s : State) :
    Host.Outcome State Fault Refusal :=
  whenRunning dt s (fun s =>
    if !s.atCue (s.nat Obj.sacnTxHz) || s.ven.cueAt == some s.stitch then s
    else
      let s1 := s.modVen (fun v => { v with cueAt := some s.stitch, cueTime := s.now, slow := [] })
      let live := if s1.venueGated then [] else s1.txUnivs
      let ending := (s1.ven.term.filter (fun e => !live.contains e.1)).map (·.1)
      let slow' := slow.map (fun e => (e.1.val, e.2.val))
      let s2 := (live ++ ending).mergeSort (· ≤ ·) |>.foldl
        (fun s u => s.cueUniv slow' full.toNat (!live.contains u) u) s1
      if s2.nat Obj.sacnSyncAddr = 0 || (live.isEmpty && ending.isEmpty) then s2
      else ((List.range 4).filter (fun p => s2.portUp p && (live ++ ending).any (fun u => s2.portCarries p u))).foldl
        (fun s p => s.emitNet p (some 2) (.sacnSync (s.blob Obj.sacnCid) (s.nat Obj.sacnSyncAddr))) s2)

/-- SACN_TX_LATE (R283): 5 ms after the cue point what has not been sent is dropped and counted. -/
def execSacnTxLate (dt : Nat) (s : State) : Host.Outcome State Fault Refusal :=
  whenRunning dt s (fun s =>
    if !s.ven.slow.isEmpty && decide (s.ven.cueTime + 5 * msPs ≤ s.now) then
      (s.modVen (fun v => { v with slow := [] })).bump Obj.sacnTxLateHem 0 s.ven.slow.length
    else s)

/-- SACN_DISCOVERY (R283): every 10 s a list of the TX universes goes to each port. -/
def execSacnDiscovery (dt : Nat) (s : State) : Host.Outcome State Fault Refusal :=
  whenRunning dt s (fun s =>
    if decide (s.now < s.ven.discAt + 10000 * msPs) || s.venueGated then s
    else
      let s1 := s.modVen (fun v => { v with discAt := s.now })
      ((List.range 4).filter s1.portUp).foldl (fun s p =>
        let l := (s.txUnivs.filter (s.portCarries p)).map (· + s.ven.base)
        if l.isEmpty then s else s.emitNet p (some 2) (.sacnDiscovery (s.blob Obj.sacnCid) (s.blob Obj.sacnName) l)) s1)

/-! ## DMX512 (R284–R287) -/

/-- DMX_CFG of a port. -/
def State.dmxCfg (s : State) (p : Nat) : Nat := s.nat Obj.dmxCfg p
/-- MODE: 0 OFF, 1 OUT, 2 IN. -/
def dmxMode (v : Nat) : Nat := v % 4
/-- RDM_EN. -/
def dmxRdm (v : Nat) : Bool := v.testBit 2
/-- HZ. -/
def dmxHz (v : Nat) : Nat := bits v 9 4

/-- The port runs RDM: OUT with RDM_EN in FULL service (R288, R295). -/
def State.rdmOn (s : State) (p : Nat) : Bool :=
  dmxMode (s.dmxCfg p) == 1 && dmxRdm (s.dmxCfg p) && !s.venueGated

/-- The safety routing table has port p send its safe look (R295, R314). -/
def State.lookOn (s : State) (p : Nat) : Bool := s.safe.valid && (s.safeByte 0x508).testBit p

/-- DMX_STATE of a port (R295, R296), by the service level whose behaviour the port has taken up. -/
def State.dmxStateOf (s : State) (p : Nat) : Nat :=
  let m := dmxMode (s.dmxCfg p)
  let l := (s.dmxPort p).level
  if l = 1 then (if !s.safe.valid then 5 else if s.lookOn p then 4 else if m = 2 then 2 else 0)
  else if l = 2 then (if m = 1 then 6 else m)
  else if s.pw.standby then 0
  else if m = 1 && (s.dmxPort p).req.isSome then 3
  else m
/-- Bring DMX_STATE of a port up to date. -/
def State.showDmx (s : State) (p : Nat) : State := s.setNat Obj.dmxState p (s.dmxStateOf p)

/-- DE of a port, which enables its driver (R284, R295, R350): high while a frame is in progress; held low by a port that
neither transmits by its MODE nor sends a safe look; in TEST a transmitting port holds it high. A change of level comes at the
port's next cue point. -/
def State.dmxDe (s : State) (p : Nat) : Bool :=
  let m := dmxMode (s.dmxCfg p)
  let l := (s.dmxPort p).level
  (s.dmxPort p).sending.isSome ||
    (if l = 1 then s.lookOn p else m == 1 && (l == 2 || !s.pw.standby))

/-- How long a frame occupies the line, in µs: at least 1 204 from break to break (R285). -/
def dmxLength (brk mab mbs n : Nat) : Nat := max (brk + mab + 44 * (n + 1) + mbs * n) 1204

/-- A port's frame has ended: it counts, and the port takes up the behaviour of its mode and level (R286, R295, R350). -/
def State.settleDmx (s : State) (p : Nat) : State :=
  if (s.dmxPort p).sending.any (fun t => decide (t ≤ s.now)) then
    ((s.modDmx p (fun d => { d with sending := none })).bump Obj.dmxFrameHem p).showDmx p
  else s

/-- A frame of a port starts: break, mark after break and mark between slots in µs, and its slots. -/
def State.startDmx (s : State) (p brk mab mbs : Nat) (slots : List Byte) : State :=
  ((s.modDmx p (fun d => { d with sending := some (s.now + dmxLength brk mab mbs slots.length * 1000000) })).emit (.dmx p brk mab mbs slots)).showDmx p

/-- An OUT port at its cue point: it sends, or skips while it still sends or runs a transaction (R286, R288). -/
def State.outCue (s : State) (p : Nat) : State :=
  let d := s.dmxPort p
  let v := s.dmxCfg p
  let t := s.nat Obj.dmxTiming p
  let s1 := s.modDmx p (fun d => { d with since := if d.req.isSome then 0 else d.since + 1 })
  if d.sending.isSome || d.req.isSome then (s1.bump Obj.dmxSkipHem p).showDmx p
  else s1.startDmx p (bits t 29 20) (bits t 19 10) (bits t 6 0) ((s1.activeSlots (s1.nat Obj.dmxUniv p)).take (bits v 19 10))

/-- DMX_CUE_POINT (R282, R284–R286, R295): in TRIM the port sends its safe look at the 22 Hz cue points. -/
def execDmxCuePoint (dt : Nat) (p : Fin 8) (s : State) : Host.Outcome State Fault Refusal :=
  whenRunning dt s (fun s =>
    let i := p.val
    let hz := if s.level = 1 then 22 else dmxHz (s.dmxCfg i)
    if !s.atCue hz || (s.dmxPort i).cueAt == some s.stitch then s
    else
      let s1 := (s.settleDmx i).modDmx i (fun d => { d with cueAt := some s.stitch, level := s.level })
      if s1.level = 1 then
        (if s1.safe.since.isSome && !s1.pw.hush && s1.lookOn i && (s1.dmxPort i).sending.isNone then
          s1.startDmx i 176 12 0 (lookAll (fun _ => (0 : Byte)) s1.safe.table (0x1600 + 512 * i) 512)
        else s1.showDmx i)
      else if dmxMode (s1.dmxCfg i) = 1 && !s1.venueGated then s1.outCue i
      else s1.showDmx i)

/-- DMX_FRAME_SENT (R286, R295, R350): once its frame's length has passed the port becomes idle. -/
def execDmxFrameSent (dt : Nat) (p : Fin 8) (s : State) : Host.Outcome State Fault Refusal :=
  whenRunning dt s (fun s => s.settleDmx p.val)

/-- A received frame on an IN port (R287). -/
def State.dmxReceive (s : State) (p : Nat) (f : DmxFrame) : State :=
  let v := s.dmxCfg p
  let u := s.nat Obj.dmxUniv p
  if dmxMode v ≠ 2 then s
  else if decide (f.brk < 88000) || f.brkInSlot then s.bump Obj.dmxBreakHem p
  else if f.badStop then s.bump Obj.dmxFramingHem p
  else if decide (f.mab < 8000) || f.start != 0 then s
  else
    let s1 := (s.modDmx p (fun d => { d with inAt := some s.now })).bump Obj.dmxFrameHem p
    if (s1.univPolicy u = 2 || s1.univPolicy u = 3) && !s1.pairFits u (.dmx p) then s1
    else (s1.mergeFrame (.dmx p) (bits v 31 24) u f.slots).1.showPairs

/-- DMX_FRAME_RECEIVED (R287). -/
def execDmxFrameReceived (dt : Nat) (p : Fin 8) (f : DmxFrame) (s : State) : Host.Outcome State Fault Refusal :=
  whenRunning dt s (fun s => s.dmxReceive p.val f)

/-- DMX_SOURCE_EXPIRE (R287): 1.25 s without an accepted frame. -/
def execDmxSourceExpire (dt : Nat) (p : Fin 8) (s : State) : Host.Outcome State Fault Refusal :=
  whenRunning dt s (fun s =>
    if (s.dmxPort p.val).inAt.any (fun t => decide (t + 1250 * msPs ≤ s.now)) then
      (s.modDmx p.val (fun d => { d with inAt := none })).endSource (.dmx p.val)
    else s)

/-! ## RDM (R288–R290) -/

/-- The request a port sends next: the command pending, then what its discovery needs. -/
def DmxPort.nextReq (d : DmxPort) : Option RdmReq :=
  match d.cmd, d.disc with
  | some l, _ => some (.cmd l)
  | none, some x =>
    if 0 < x.unmutes then some .unmute
    else
      match x.muting, x.stack with
      | some uid, _ => some (.mute uid)
      | none, (lo, hi, _) :: _ => some (.branch lo hi)
      | none, [] => none
  | none, none => none

/-- Bytes of a request on the line: 24 of header and 2 of checksum round its parameter data (E1.20). -/
def RdmReq.bytes : RdmReq → Nat
  | .cmd l => 26 + (l.length - 12)
  | .unmute => 26
  | .branch _ _ => 38
  | .mute _ => 26

/-- Time to the next cue point of a port, in ps. -/
def State.toCue (s : State) (p : Nat) : Nat :=
  let P := s.cuePeriod (dmxHz (s.dmxCfg p))
  let t := s.clk.strobeUp + (P - s.stitch % P) * 1000000000000 / rateHz (s.nat Obj.stitchRate)
  t - s.now

/-- A request and its response window of 2.8 ms, in ps (R288). -/
def rdmTime (timing : Nat) (r : RdmReq) : Nat := (bits timing 29 20 + bits timing 19 10 + 44 * r.bytes + 2800) * 1000000
/-- The controller's own UID on a port (R288, R296). -/
def State.rdmUid (s : State) (p : Nat) : Nat := bits (s.nat Obj.rdmSrcUid p) 47 0

/-- RDM_TRANSACTION (R288): the request goes into a gap that holds it and its window, or gives up the next cue point when
none was given up within the last RDM_EVERY, or waits. -/
def execRdmTransaction (dt : Nat) (p : Fin 8) (s : State) : Host.Outcome State Fault Refusal :=
  whenRunning dt s (fun s0 =>
    let i := p.val
    let s := s0.settleDmx i
    let d := s.dmxPort i
    match d.nextReq with
    | none => s
    | some r =>
      let need := rdmTime (s.nat Obj.dmxTiming i) r
      let room := decide (need < s.toCue i) || decide (bits (s.dmxCfg i) 23 20 ≤ d.since)
      if s.rdmOn i && d.sending.isNone && d.req.isNone && room then
        ((s.modDmx i (fun d => { d with req := some r, reqEnd := s.now + need })).emit (.rdm i (s.rdmUid i) r)).showDmx i
      else s)

/-- The answer in RDM_RESPp. -/
def rdmAnswer (status pid : Nat) (data : List Byte) : List Byte :=
  leBytes 1 status ++ beBytes 2 pid ++ leBytes 1 data.length ++ data

/-- PID of a command. -/
def rdmPid (l : List Byte) : Nat := beNat ((l.drop 7).take 2)
/-- Destination UID of a command. -/
def rdmDest (l : List Byte) : Nat := beNat (l.take 6)
/-- A broadcast or manufacturer-broadcast destination. -/
def rdmBroadcast (l : List Byte) : Bool := rdmDest l % 2 ^ 32 == 0xFFFFFFFF

/-- The transaction on the line is over. -/
def State.endReq (s : State) (p : Nat) : State := (s.modDmx p (fun d => { d with req := none })).showDmx p

/-- The command pending is answered. -/
def State.answerCmd (s : State) (p : Nat) (a : List Byte) : State :=
  (s.modDmx p (fun d => { d with cmd := none })).setBlob (Obj.rdmResp0 + p) a

/-- Change a port's discovery; one with nothing left to send is done (R289). -/
def State.modDisc (s : State) (p : Nat) (f : Disc → Disc) : State :=
  match (s.dmxPort p).disc with
  | none => s
  | some x =>
    let y := f x
    if y.unmutes = 0 && y.muting.isNone && y.stack.isEmpty then
      (s.modDmx p (fun d => { d with disc := none })).setNat Obj.rdmDiscState p (if y.full then 3 else 2)
    else s.modDmx p (fun d => { d with disc := some y })

/-- RDM_KNOWN holds UIDs, and this is none of them (R290). -/
def State.isStranger (s : State) (uid : Nat) : Bool :=
  let l := ((List.range 1024).map (fun i => s.nat Obj.rdmKnown i)).filter (· != 0)
  !l.isEmpty && !l.contains uid

/-- RDM_STRANGERS keeps the 64 most recent, the newest first; one it no longer lists stays a stranger (R290). -/
def State.noteStranger (s : State) (p uid : Nat) : State :=
  let e := uid + p * 2 ^ 48
  let old := ((List.range 64).map (fun i => s.nat Obj.rdmStrangers i)).filter (fun x => x != 0 && x != e)
  ((e :: old).take 64).zipIdx.foldl (fun s x => s.setNat Obj.rdmStrangers x.2 x.1)
      (s.modVen (fun v => { v with strange := uid :: v.strange.filter (· != uid) }))
    |>.log 0x72 p (uid % 2 ^ 32) (uid / 2 ^ 32)

/-- A device that acknowledged its mute is listed, unless it is a stranger that stays muted or the list is full (R289,
R290). -/
def State.listUid (s : State) (p uid : Nat) : State :=
  let strange := s.isStranger uid
  let s1 := if strange then s.noteStranger p uid else s
  if strange && (s1.dmxCfg p).testBit 3 then s1
  else
    match (s1.dmxPort p).disc with
    | none => s1
    | some x =>
      if x.found < 256 then
        (s1.setNat (Obj.rdmUids0 + p) x.found uid).modDmx p (fun d => { d with disc := some { x with found := x.found + 1 } })
      else (s1.modDmx p (fun d => { d with disc := some { x with full := true } })).log 0x71 p (uid % 2 ^ 32) (uid / 2 ^ 32)

/-- A branch answered by more than one device (R289). -/
def State.collide (s : State) (p : Nat) : State :=
  let s1 := s.bump Obj.rdmCollideHem p
  match (s1.dmxPort p).disc.map (·.stack) with
  | some ((lo, hi, n) :: t) =>
    if lo = hi then
      (if 3 ≤ n + 1 then (s1.log 0x70 p (lo % 2 ^ 32) (lo / 2 ^ 32)).modDisc p (fun x => { x with stack := t })
      else s1.modDisc p (fun x => { x with stack := (lo, hi, n + 1) :: t }))
    else
      let mid := (lo + hi) / 2
      s1.modDisc p (fun x => { x with stack := (lo, mid, 0) :: (mid + 1, hi, 0) :: t })
  | _ => s1

/-- RDM_RESPONSE (R287–R290). -/
def execRdmResponse (dt : Nat) (p : Fin 8) (r : RdmAnswer) (s : State) : Host.Outcome State Fault Refusal :=
  whenRunning dt s (fun s =>
    let i := p.val
    let s1 := if r.badBrk then s.bump Obj.dmxBreakHem i else if r.badStop then s.bump Obj.dmxFramingHem i else s
    let broken := r.badBrk || r.badStop
    match (s.dmxPort i).req with
    | none => s
    | some (.cmd l) =>
      if broken || rdmBroadcast l then s1
      else if !r.csumOk then ((s1.answerCmd i (rdmAnswer 0x11 (rdmPid l) [])).bump Obj.rdmCsumHem i).endReq i
      else (s1.answerCmd i (rdmAnswer r.rtype.val r.pid.toNat r.data)).endReq i
    | some .unmute => s1
    | some (.branch _ _) =>
      if !broken && r.formOk && r.csumOk then (s1.modDisc i (fun x => { x with muting := some r.uid.toNat })).endReq i
      else (s1.collide i).endReq i
    | some (.mute uid) =>
      if broken then s1
      else
        let s2 := if r.csumOk && r.rtype == 0 then s1.listUid i uid else s1
        (s2.modDisc i (fun x => { x with muting := none })).endReq i)

/-- RDM_TIMEOUT (R288, R289): the response window has ended. -/
def execRdmTimeout (dt : Nat) (p : Fin 8) (s : State) : Host.Outcome State Fault Refusal :=
  whenRunning dt s (fun s =>
    let i := p.val
    match if (s.dmxPort i).reqEnd ≤ s.now then (s.dmxPort i).req else none with
    | none => s
    | some (.cmd l) =>
      if rdmBroadcast l then (s.answerCmd i (rdmAnswer 0x12 (rdmPid l) [])).endReq i
      else ((s.answerCmd i (rdmAnswer 0x10 (rdmPid l) [])).bump Obj.rdmTimeoutHem i).endReq i
    | some .unmute => (s.modDisc i (fun x => { x with unmutes := x.unmutes - 1 })).endReq i
    | some (.branch _ _) => (s.modDisc i (fun x => { x with stack := x.stack.drop 1 })).endReq i
    | some (.mute _) => (s.modDisc i (fun x => { x with muting := none })).endReq i)

/-- RDM stops on a port: a pending command ends with ABORTED, a discovery ends (R288). -/
def State.stopRdm (s : State) (p : Nat) : State :=
  let d := s.dmxPort p
  let s1 := match d.cmd with
    | some l => s.answerCmd p (rdmAnswer 0x13 (rdmPid l) [])
    | none => s
  let s2 := if d.disc.isSome then s1.setNat Obj.rdmDiscState p 0 else s1
  s2.modDmx p (fun d => { d with req := none, disc := none })

/-- A write of p to RDM_DISCOVER (R289). -/
def State.startDisc (s : State) (p : Nat) : State :=
  let s1 := (List.range 256).foldl (fun s i => s.setNat (Obj.rdmUids0 + p) i 0) s
  (s1.modDmx p (fun d => { d with
    disc := some ⟨2, [(0, 0xFFFFFFFFFFFE, 0)], none, 0, false⟩,
    req := match d.req with
      | some (.cmd l) => some (.cmd l)
      | _ => none })).setNat Obj.rdmDiscState p 1

/-- The check of a write to RDM_CMDp (R288, R290). -/
def State.rdmCheck (s : State) (p : Nat) (l : List Byte) : Nat :=
  let cls := (l.getD 6 0).toNat
  let pdl := (l.getD 11 0).toNat
  if decide (l.length < 12) || l.length != 12 + pdl || decide (231 < pdl) || (cls != 0x20 && cls != 0x30) then St.range
  else if !s.rdmOn p then St.rdmOff
  else if (s.dmxPort p).cmd.isSome then St.rdmBusy
  else if (s.dmxCfg p).testBit 3 && s.isStranger (rdmDest l) && s.ven.strange.contains (rdmDest l) then St.rdmStranger
  else St.ok

/-! ## 10BASE-T1S (R291, R292) -/

/-- T1S_STATE after its configuration changes. -/
def State.showT1s (s : State) (g : Nat) : State :=
  let v := s.nat Obj.t1sCfg g
  s.setNat Obj.t1sState g (if !v.testBit 0 then 0 else if v.testBit 1 then 1 else 2)

/-- A PLCA follower: PLCA_EN with a nonzero NODE_ID. -/
def State.follower (s : State) (g : Nat) : Bool :=
  let v := s.nat Obj.t1sCfg g
  v.testBit 0 && v.testBit 1 && bits v 10 6 != 0

/-- T1S_BEACON (R292). -/
def execT1sBeacon (dt : Nat) (g : Fin 2) (s : State) : Host.Outcome State Fault Refusal :=
  whenRunning dt s (fun s => if s.nat Obj.t1sState g.val = 3 then s.setNat Obj.t1sState g.val 1 else s)

/-- T1S_BEACON_LOSS (R292): 400 µs without a beacon. -/
def execT1sBeaconLoss (dt : Nat) (g : Fin 2) (s : State) : Host.Outcome State Fault Refusal :=
  whenRunning dt s (fun s =>
    if s.follower g.val && s.nat Obj.t1sState g.val == 1 then (s.setNat Obj.t1sState g.val 3).bump Obj.t1sBeaconLossHem g.val else s)

/-- T1S_COLLISION (R292): counted; a frame whose sixteenth attempt collides is dropped and counted. A transmission past the
jabber limit is stopped and counted. -/
def execT1sCollision (dt : Nat) (g : Fin 2) (what : T1sFault) (s : State) : Host.Outcome State Fault Refusal :=
  whenRunning dt s (fun s =>
    if !s.bit Obj.t1sCfg g.val 0 then s
    else
      match what with
      | .jabber => s.bump Obj.t1sJabberHem g.val
      | .collision attempt =>
        let s1 := s.bump Obj.t1sCollHem g.val
        if attempt.val = 15 then s1.bump Obj.t1sTxDropHem g.val else s1)

/-! ## Service levels (R295) and STANDBY (R350) -/

/-- Every transmitting universe has three terminated packets to send (R283). -/
def State.terminate (s : State) : State :=
  s.modVen (fun v => { v with term := s.txUnivs.foldl (fun m u => put (fun _ => 0) m u 3) v.term })

/-- The venue ports at a strobe that changes the service level. -/
def State.venueLevel (s : State) (old : Nat) : State :=
  if s.level = 0 then s.modVen (fun v => { v with term := v.term.filter (fun e => !s.univTx e.1) })
  else
    let s1 := (List.range 8).foldl State.stopRdm s
    if old = 0 then s1.terminate else s1

/-! ## Objects (R276, R284, R285, R291, R296) -/

/-- The ranges of DMX_CFG and DMX_TIMING (R285, R296), with BREAK at least 176 µs while RDM_EN is set. -/
def dmxRange (cfg timing : Nat) : Bool :=
  decide (bits cfg 31 24 ≤ 200) && decide (2 ≤ bits cfg 23 20) && decide (24 ≤ bits cfg 19 10) && decide (bits cfg 19 10 ≤ 512)
    && decide (1 ≤ bits cfg 9 4) && decide (bits cfg 9 4 ≤ 44)
    && decide ((if dmxRdm cfg then 176 else 92) ≤ bits timing 29 20) && decide (bits timing 29 20 ≤ 1000)
    && decide (12 ≤ bits timing 19 10) && decide (bits timing 19 10 ≤ 1000) && decide (bits timing 6 0 ≤ 100)

/-- Fields of T1S_CFG in range (R291, R296). -/
def t1sRange (v : Nat) : Bool :=
  decide (1 ≤ bits v 24 17) &&
    !(v.testBit 1 && bits v 10 6 == 0 && (decide (bits v 16 11 < 2) || decide (32 < bits v 16 11)))

/-- The indices whose UNIV_CFG has a bit set once the whole write is done (R276). -/
def univsWith (after : Nat → Nat → Nat) (b : Nat) : Nat :=
  ((List.range 32768).filter (fun u => (after (Obj.univCfg0 + u / 1024) (u % 1024)).testBit b)).length

/-- The checks of the venue objects. -/
def State.venueCheck (s : State) (num i : Nat) (v : Int) (bytes : List Byte) (after : Nat → Nat → Nat) : Nat :=
  let n := v.toNat
  let in_ (lo hi : Nat) : Nat := if decide (n < lo) || decide (hi < n) then St.range else St.ok
  if Obj.univCfg0 ≤ num && decide (num < Obj.univCfg0 + 32) then
    let old := s.nat num i
    if 5 ≤ bits n 4 2 then St.formatCode
    else if n.testBit 0 && !old.testBit 0 && decide (4096 ≤ s.nat Obj.sacnRxUsed) && decide (4096 < univsWith after 0) then St.univLimit
    else if n.testBit 1 && !old.testBit 1 && decide (4096 ≤ s.nat Obj.sacnTxUsed) && decide (4096 < univsWith after 1) then St.univLimit
    else St.ok
  else if num = Obj.univBase then in_ 1 31232
  else if num = Obj.sacnCid then (if bytes.length = 16 then St.ok else St.range)
  else if num = Obj.sacnTxPrio || num = Obj.oscPrio then in_ 0 200
  else if num = Obj.sacnTxHz then in_ 1 44
  else if num = Obj.sacnSyncAddr then in_ 0 63999
  else if num = Obj.dmxCfg || num = Obj.dmxTiming then
    let cfg := if num = Obj.dmxCfg then n else after Obj.dmxCfg i
    let t := if num = Obj.dmxTiming then n else after Obj.dmxTiming i
    let old := s.nat num i
    let busy := dmxMode (s.dmxCfg i) != 0 && (if num = Obj.dmxCfg then old / 4 != n / 4 else old != n)
    if !dmxRange cfg t then St.range
    else if num = Obj.dmxCfg && dmxMode n = 3 then St.formatCode
    else if busy then St.dmxBusy else St.ok
  else if num = Obj.dmxUniv then in_ 0 32767
  else if num = Obj.rdmDiscover then in_ 0 7
  else if Obj.rdmCmd0 ≤ num && decide (num < Obj.rdmCmd0 + 8) then s.rdmCheck (num - Obj.rdmCmd0) bytes
  else if num = Obj.t1sCfg then
    let old := s.nat num i
    if !t1sRange n then St.range
    else if old.testBit 0 && old / 2 != n / 2 then St.dmxBusy
    else St.ok
  else if num = Obj.t1sTxUniv then (if n = 0xFFFF then St.ok else in_ 0 32767)
  else if num = Obj.oscUdp then (if n = 5568 || n = 50616 then St.range else in_ 1024 65535)
  else if num = Obj.oscRole then in_ 1 2
  else if num = Obj.oscInterval then in_ 1 60000
  else if num = Obj.oscMapSel then in_ 0 4095
  else St.ok

/-- What an accepted write of a UNIV_CFG element does beside the value (R276, R283). -/
def State.univEffect (s : State) (u old new : Nat) : State :=
  let delta (num b : Nat) (s : State) : State :=
    if new.testBit b && !old.testBit b then s.setNat num 0 (s.nat num + 1)
    else if old.testBit b && !new.testBit b then s.setNat num 0 (s.nat num - 1)
    else s
  let s1 := delta Obj.sacnTxUsed 1 (delta Obj.sacnRxUsed 0 s)
  let s2 := if old.testBit 1 && !new.testBit 1 then s1.modVen (fun v => { v with term := put (fun _ => 0) v.term u 3 })
    else if new.testBit 1 && !old.testBit 1 then s1.modVen (fun v => { v with term := v.term.filter (fun e => e.1 != u) })
    else s1
  if bits old 4 2 != bits new 4 2 then s2.changePolicy u else s2

/-- A port's DMX_CFG changes: leaving OUT with RDM_EN stops RDM, and a new mode takes the line at once (R284, R288). -/
def State.dmxEffect (s : State) (p old new : Nat) : State :=
  if dmxMode old = dmxMode new then s
  else
    let s1 := if dmxMode old = 1 then (s.stopRdm p).modDmx p (fun d => { d with sending := none }) else s
    s1.showDmx p

/-- What an accepted write of the venue objects does beside the value. -/
def State.venueEffect (s : State) (num i : Nat) (old v : Int) (bytes : List Byte) : State :=
  if Obj.univCfg0 ≤ num && decide (num < Obj.univCfg0 + 32) then s.univEffect (1024 * (num - Obj.univCfg0) + i) old.toNat v.toNat
  else if num = Obj.dmxCfg then s.dmxEffect i old.toNat v.toNat
  else if num = Obj.rdmDiscover then s.startDisc v.toNat
  else if Obj.rdmCmd0 ≤ num && decide (num < Obj.rdmCmd0 + 8) then
    (s.modDmx (num - Obj.rdmCmd0) (fun d => { d with cmd := some bytes })).setBlob (Obj.rdmResp0 + (num - Obj.rdmCmd0)) []
  else if num = Obj.t1sCfg then (if old = v then s else s.showT1s i)
  else s

end Sys2Proof.Machine
end

