-- ==== Sys2Proof/Machine/Boot.lean ====
section
/-!
DEFINITION. The boot chain (R311–R333): the safety table's choice and start, slot records, manifests, chunks, recovery,
acceptance, key revocation and the update of a slot.
-/

namespace Sys2Proof.Machine

/-- Change the boot chain's state. -/
def State.modBoot (s : State) (f : Boot → Boot) : State := { s with boot := f s.boot }

/-! ## The safety table and the start of its matrix (R313–R316) -/

/-- Take a table into use: its bytes, SAFE_SEQ, SAFE_COPY, the ports' safe looks and DMX_STATE, and MEAS_1 (R313, R315, R326). -/
def State.takeTable (s : State) (t : Option (Nat × List Byte)) (measure : Bool) : State :=
  (List.range 8).foldl State.showDmx <| match t with
  | some (c, m) =>
    let s1 : State := { s with safe := { s.safe with table := putAll (fun _ => 0) [] 0 m, valid := true } }
    let s2 := (s1.setNat Obj.safeSeq 0 (Sys2Proof.Machine.safeSeq m)).setNat Obj.safeCopy 0 c
    let s3 := (List.range 8).foldl (fun s p => s.setBlob (Obj.dmxSafeLook0 + p) ((m.drop (0x1600 + 512 * p)).take 512)) s2
    if measure then s3.measExtend 1 (sha384 m) else s3
  | none =>
    let s1 : State := { s with safe := { s.safe with table := [], valid := false } }
    let s2 := ((s1.setNat Obj.safeCopy 0 0xFF).setNat Obj.safeState 0 2).log 0x80
    if measure then s2.measExtend 1 (sha384 (List.replicate 48 0)) else s2

/-- The two copies in the flash, and the choice of R315. -/
def State.readTables (s : State) : Option (Nat × List Byte) :=
  chooseSafe (s.flashBytes (flashSafe 0) safeSize) (s.flashBytes (flashSafe 1) safeSize)

/-- SAFETY_MATRIX_START (R313, R315, R349, R354): in TRIM service, with the matrix not running, the table is chosen and
the matrix loaded; it runs from the next strobe on. Bobbins 0–7 pass to the first eight needles (R153). The first time after a
reset the ROM has extended MEAS_0 by its own digest and that of the fuses before (R326). -/
def execSafetyMatrixStart (dt : Nat) (s : State) : Host.Outcome State Fault Refusal :=
  whenRunning dt s (fun s =>
    if s.level ≠ 1 || s.last.safety || s.safe.loaded || (s.pw.hush && !s.pw.leaving) then s
    else s.onFlash (fun s =>
      let first := s.blob (Obj.meas0 + 1) == List.replicate 48 0
      let s0 := if first then (s.measFree 0).measFree 0 else s
      let s1 := (s0.selectBank 0).takeTable s.readTables first
      let s2 : State := { s1 with safe := { s1.safe with loaded := true, past := [], atten := List.replicate 64 0 } }
      (List.range 8).foldl (fun s b => if s.bobOwner b = b then s else s.handOver b b) s2))

/-- The bytes staged for SAFE_WRITE. -/
def State.staged (s : State) : List Byte := lookAll (fun _ => (0 : Byte)) s.boot.stage 0 safeSize

/-- A word in the form of SH_RX_FORMAT (R193): payload type 96–127, 1–64 channels, and no reserved code or bit. -/
def rxFormatOk (v : Nat) : Bool :=
  decide (v < 2 ^ 24) && decide (96 ≤ bits v 23 17) && decide (1 ≤ bits v 15 9) && decide (bits v 15 9 ≤ 64) && decide (bits v 8 6 < 5)
    && decide (bits v 5 3 < 7) && decide (bits v 2 0 < 3)

/-- A word in the form of TDM_CFG (R207). -/
def tdmCfgForm (v : Nat) : Bool := decide (v < 2 ^ 14) && bits v 11 9 == 0 && v % 4 != 3 && bits v 3 2 != 3

/-- A receive table in the form of R203: each entry names an inlet of the ports, none twice, or none. -/
def tdmRxForm (l : List Nat) : Bool :=
  let named := l.filter (· != 0xFFFF)
  named.all (fun c => decide (8192 ≤ c) && decide (c ≤ 8447)) && !hasTwins named

/-- Staged bytes that fail R314 or carry a crosspoint code of 241–255 (R316). -/
def safeBad (m : List Byte) : Bool :=
  let f (o n : Nat) : Nat := leNat ((m.drop o).take n)
  let words (o n : Nat) : List Nat := (List.range n).map (fun i => f (o + 2 * i) 2)
  !safeCopyOk m || (bits (f 0x18 2) 15 13 != 0) || ((f 0x18 2).testBit 12 && (f 0x18 2 % 4096 == 0 || f 0x18 2 % 4096 == 4095))
    || decide (1 < f 0x1A 1) || decide (127 < f 0x1B 1) || !rxFormatOk (f 0x1C 4)
    || (List.range 16).any (fun p => !tdmCfgForm (f (0x38 + 4 * p) 4))
    || !tdmRxForm (words 0x100 256) || (words 0x300 256).any (fun c => c != 0xFFFF && decide (8447 < c)) || decide (f 0x26 1 < 2) || decide (f 0x506 2 < 10) || decide (10000 < f 0x506 2)
    || ((m.drop 0x600).take 4096).any (fun b => decide (240 < b.toNat))
    || (List.range 64).any (fun i =>
      let c := f (0x80 + 2 * i) 2
      c != 0xFFFF && decide (63 < c) && (decide (c < 8192) || decide (8447 < c)))
    || ((m.drop 0x500).take 4).any (fun b => b != 0xFF && decide (63 < b.toNat))

/-- SAFE_WRITE (R316): the copy R315 did not choose is written with the next SEQ and read back; in TRIM one that reads back takes
effect at once, and a matrix that ran with no table runs with it. -/
def State.safeWrite (s : State) : State :=
  let m := s.staged
  let (c, seq) := match s.readTables with
    | some (c, t) => (1 - c, Sys2Proof.Machine.safeSeq t + 1)
    | none => (0, 1)
  let body := m.take 8 ++ leBytes 4 seq ++ (m.drop 12).take (0x3FFC - 12)
  let t := body ++ leBytes 4 (crc32 body)
  let s1 := (s.ownErase (flashSafe c) safeSize).ownProgram (flashSafe c) t
  if s1.level = 1 && (s1.last.safety || s1.safe.loaded || s1.pw.hush) && s1.flashBytes (flashSafe c) safeSize == t then
    let s2 := s1.takeTable (some (c, t)) false
    if s2.last.safety then (s2.setNat Obj.safeState 0 1).startPorts else s2
  else s1

/-! ## Slot records (R317, R318) -/

/-- A slot record. -/
structure SlotRec where
  slot : Nat
  state : Nat
  seq : Nat
  wseq : Nat
  tries : Nat
  deriving DecidableEq, Repr

/-- The bytes of a record. -/
def SlotRec.bytes (r : SlotRec) : List Byte :=
  let b := [0x53, 0x4C] ++ leBytes 1 r.slot ++ leBytes 1 r.state ++ leBytes 4 r.seq ++ leBytes 4 r.wseq ++ leBytes 1 r.tries
    ++ List.replicate 15 0
  b ++ leBytes 4 (crc32 b)

/-- The record 32 bytes hold, if it is valid. -/
def slotRec (l : List Byte) : Option SlotRec :=
  let f (o n : Nat) : Nat := leNat ((l.drop o).take n)
  let r : SlotRec := ⟨f 2 1, f 3 1, f 4 4, f 8 4, f 12 1⟩
  if l.take 2 == [0x53, 0x4C] && decide (r.slot < 2) && decide (r.state < 4) && decide (r.tries ≤ 3) && f 0x1C 4 == crc32 (l.take 28)
  then some r else none

/-- A sector's 128 positions. -/
def State.recordAt (s : State) (sector i : Nat) : List Byte := s.flashBytes (flashRecord sector + 32 * i) 32

/-- The valid records with the sector each lies in. -/
def State.records (s : State) : List (Nat × SlotRec) :=
  [0, 1].flatMap (fun c => (List.range 128).filterMap (fun i => (slotRec (s.recordAt c i)).map (fun r => (c, r))))

/-- The record with the latest WSEQ among some. -/
def latestRec : List (Nat × SlotRec) → Option (Nat × SlotRec)
  | [] => none
  | e :: t =>
    match latestRec t with
    | none => some e
    | some f => if serialLater f.2.wseq e.2.wseq then some f else some e

/-- A slot's record; a slot with none is EMPTY (R317). -/
def State.slotOf (s : State) (i : Nat) : SlotRec :=
  ((latestRec (s.records.filter (fun e => e.2.slot == i))).map (·.2)).getD ⟨i, 0, 0, 0, 0⟩

/-- Write a record at the first free position among some of a sector, and while its read-back fails at the next free one (R318). -/
def State.programRecord (s : State) (sector : Nat) (b : List Byte) : List Nat → State
  | [] => s
  | k :: t =>
    if !(s.recordAt sector k).all (· == 0xFF) then s.programRecord sector b t
    else
      let u := s.ownProgram (flashRecord sector + 32 * k) b
      if u.recordAt sector k = b then u else u.programRecord sector b t

/-- A sector holds the bytes of a record. -/
def State.holdsRecord (s : State) (sector : Nat) (b : List Byte) : Bool := (List.range 128).any (fun k => s.recordAt sector k == b)

/-- The slot objects follow the records (R333). -/
def State.showSlots (s : State) : State :=
  [0, 1].foldl (fun s i =>
    let r := s.slotOf i
    ((s.setNat Obj.slotState i r.state).setNat Obj.slotSeq i r.seq).setNat Obj.slotTries i r.tries) s

/-- Write a record at the first free position, or after a compaction into the other sector (R318). -/
def State.writeSlot (s : State) (i state seq tries : Nat) : State :=
  let (sector, w) := match latestRec s.records with
    | some (c, r) => (c, (r.wseq + 1) % 2 ^ 32)
    | none => (0, 1)
  let b := SlotRec.bytes ⟨i, state, seq, w, tries⟩
  let s0 := s.programRecord sector b (List.range 128)
  let s1 := if s0.holdsRecord sector b then s0
    else
      let o := 1 - sector
      let other := s.slotOf (1 - i)
      let erased := s0.ownErase (flashRecord o) 0x1000
      let copied := if other.state = 0 && other.wseq = 0 then erased
        else erased.programRecord o (SlotRec.bytes { other with wseq := w }) (List.range 128)
      copied.programRecord o (SlotRec.bytes ⟨i, state, seq, (w + 1) % 2 ^ 32, tries⟩) (List.range 128)
  s1.showSlots

/-- Give a slot another state, its other fields as they are. -/
def State.markSlot (s : State) (i state : Nat) : State :=
  let r := s.slotOf i
  s.writeSlot i state r.seq r.tries

/-! ## Choosing a slot (R319) -/

/-- The slots in state VALID, the later SEQ first, slot A first if equal. -/
def State.validSlots (s : State) : List Nat :=
  let a := s.slotOf 0
  let b := s.slotOf 1
  match a.state == 2, b.state == 2 with
  | true, true => if serialLater b.seq a.seq then [1, 0] else [0, 1]
  | true, false => [0]
  | false, true => [1]
  | false, false => []

/-- BOOT_REJECT of a slot. -/
def State.reject (s : State) (slot code : Nat) : State := s.setNat Obj.bootReject slot code

/-- A trial watchdog reset: the trial slot goes back to WRITTEN (R319, R328). -/
def State.revertTrial (s : State) : State :=
  if s.nat Obj.resetCause ≠ 4 then s
  else
    match s.validSlots.find? (fun i => decide (0 < (s.slotOf i).tries)) with
    | some i => (s.markSlot i 1).reject i 8
    | none => s

/-- The ACTIVE slot, settled where both are (R319): the state, and the slot. -/
def State.settleActive (s : State) : State × Option Nat :=
  let a := s.slotOf 0
  let b := s.slotOf 1
  if a.state = 3 && b.state = 3 then
    let tie := a.seq == b.seq
    let p := if serialLater b.seq a.seq then 1 else 0
    let s1 := if tie then (s.setNat Obj.tie 0 1).log 0x81 a.seq else s
    (s1.markSlot (1 - p) 2, some p)
  else (s, if a.state = 3 then some 0 else if b.state = 3 then some 1 else none)

/-- The trial slot, and spent trials marked WRITTEN (R319). -/
def State.pickTrial (s : State) (p : Option Nat) : List Nat → State × Option Nat
  | [] => (s, none)
  | i :: t =>
    let r := s.slotOf i
    if p.all (fun a => serialLater r.seq (s.slotOf a).seq) then
      (if r.tries = 3 then ((s.markSlot i 1).reject i 8).pickTrial p t else (s, some i))
    else s.pickTrial p t

/-- Recovery: no slot boots (R332). -/
def State.recover (s : State) : State := s.setNat Obj.bootState 0 4

/-- The boot order (R319). -/
def State.chooseSlots (s : State) : State :=
  let s1 := s.revertTrial
  let (s2, p) := s1.settleActive
  let (s3, t) := s2.pickTrial p s2.validSlots
  let s4 := match t with
    | some i => let r := s3.slotOf i; s3.writeSlot i r.state r.seq (r.tries + 1)
    | none => s3
  let order := (t.toList.map (fun i => (i, 1))) ++ (p.toList.map (fun i => (i, 0))) ++
    ((s4.validSlots.filter (fun i => some i != t)).map (fun i => (i, 2)))
  let s5 := s4.modBoot (fun b => { b with chosen := true, order := order, headSlot := ((order.head?).map (·.1)).getD 2 })
  if order.isEmpty then s5.recover else s5.setNat Obj.bootState 0 1

/-- SLOT_CHOICE (R313, R317–R319, R332): once a start, after the safety matrix has started. -/
def execSlotChoice (dt : Nat) (s : State) : Host.Outcome State Fault Refusal :=
  whenRunning dt s (fun s =>
    if s.boot.chosen || !s.last.safety then s else s.onFlash (fun s => (s.selectBank 0).showSlots.chooseSlots))

/-! ## Manifests (R320, R321) -/

/-- The manifest of a slot as the loader reads it (R321). -/
def State.readManifest (s : State) (slot : Nat) : List Byte :=
  let n := leNat (s.flashBytes (flashSlot slot + 0x10) 2)
  s.flashBytes (flashSlot slot) (manLength (min n 256))

/-- The fused hash of a key set; empty while unfused. -/
def State.keyHash (s : State) (set_ : Nat) : List Byte := s.blob (if set_ = 0 then Obj.ownerKeyHash else Obj.vendorKeyHash)

/-- The code of R321 a manifest is refused with, 0 for none. -/
def State.manCode (s : State) (m : List Byte) : Nat :=
  let life := s.nat Obj.lifecycle
  if manBad m then 2
  else if manField m 0x12 1 ≠ s.nat Obj.siliconRev || !(manField m 0x13 1).testBit (s.nat Obj.orderCode - 1)
      || !(manField m 0x14 1).testBit life || (life == 3 && (manField m 0x15 1 == 0 || manSet m == 0)) || (life == 0 && manSet m == 0) then 3
  else if s.keyHash (manSet m) == [] || sha384 ((m.drop 0x40).take 291) != s.keyHash (manSet m)
      || (s.nat Obj.keyRevoked (manSet m)).testBit (manIndex m) then 4
  else if !manSigOk m then 5
  else if manVersion m < s.nat Obj.rollbackCount then 6
  else 0

/-- The slot in hand is refused: recorded, with its manifest in MEAS_0 where it was read; a trial goes back to WRITTEN; the
next slot of the order is tried, or recovery is entered (R319, R324, R326). No slot is booted meanwhile. -/
def State.refuseSlot (s : State) (slot kind code : Nat) (m : List Byte) : State :=
  let s0 := (((s.reject slot code).setNat Obj.bootSlot 0 0xFF).setNat Obj.bootKind 0 0xFF).setNat Obj.imageId 0 0
  let s1 := if code = 1 then s0.setNat Obj.imageSecVersion 0 0 else (s0.setNat Obj.imageSecVersion 0 0).measExtend 0 (sha384 m)
  let s2 := if kind = 1 then s1.markSlot slot 1 else s1
  let s3 := s2.modBoot (fun b => { b with order := b.order.drop 1, cur := none, manifest := [], chunk := 0, retry := false })
  if s3.boot.order.isEmpty then s3.recover else s3.setNat Obj.bootState 0 1

/-- MANIFEST_CHECK (R313, R320, R321, R326): once control traffic is admitted, the first slot of the order that is still to
try. -/
def execManifestCheck (dt : Nat) (s : State) : Host.Outcome State Fault Refusal :=
  whenRunning dt s (fun s =>
    match s.boot.cur, s.boot.order, s.boot.admitted with
    | none, (slot, kind) :: _, true => s.onFlash (fun s0 =>
      let s := s0.selectBank (flashSlot slot)
      let r := s.slotOf slot
      let m := s.readManifest slot
      let code := if r.state ≠ (if kind = 0 then 3 else 2) then 1 else s.manCode m
      if code ≠ 0 then s.refuseSlot slot kind code m
      else
        let s1 := s.modBoot (fun b => { b with cur := some (slot, kind), manifest := m, chunk := 0, retry := false })
        let s2 := ((s1.setNat Obj.bootSlot 0 slot).setNat Obj.bootKind 0 kind).setNat Obj.imageId 0 (manField m 0x1C 4)
        let s3 := s2.setNat Obj.imageSecVersion 0 (manVersion m)
        (s3.measExtend 2 (sha384 m)).measExtend 4 (sha384 r.bytes))
    | _, _, _ => s)

/-! ## Loading and verifying (R322–R325) -/

/-- Fuses are blown until ROLLBACK_COUNT equals the image's SEC_VERSION (R327). -/
def State.blowRollback (s : State) : State :=
  s.setNat Obj.rollbackCount 0 (max (s.nat Obj.rollbackCount) (manVersion s.boot.manifest))

/-- The key of a slot, from ROOT_KEY for a manifest's KEY_SET (R338): 48 bytes for the signing key of slot 0, 32 for the
others (DEDUCED, assumption 161). -/
def slotKey (set_ i : Nat) : List Byte :=
  hkdf384 (if i = 0 then 48 else 32) (beLen 32 Config.rootKey.toNat) [BitVec.ofNat 8 set_]
    [0x73, 0x6C, 0x6F, 0x74, BitVec.ofNat 8 i]

/-- The ROM derives the key slots, unless the root keys are locked or gone (R323, R337, R338). -/
def State.deriveKeys (s : State) : State :=
  if s.nat Obj.lifecycle = 3 || s.nat Obj.rootLocked = 1 then s
  else
    (List.range 8).foldl (fun s i => s.setNat Obj.keySlotState i 1)
      { s with misc := { s.misc with keys := (List.range 8).map (slotKey (manSet s.boot.manifest)) } }

/-- The image's base in the control cores' map (R18, R323). -/
def State.imageBase (s : State) : Nat := 0x400000000 + s.bootCopyBase

/-- STAGE2_START (R323, R327, R328, R338): key slots, locked root keys, CC0 at the image. -/
def State.startStage2 (s : State) (kind : Nat) : State :=
  let s1 := s.deriveKeys
  let s2 := (s1.setNat Obj.rootLocked 0 1).setNat Obj.bootState 0 2
  let s3 := s2.modBoot (fun b => { b with stage2 := true, trialAt := if kind = 1 then some s.now else none })
  (if kind = 0 then s3.blowRollback else s3).emit
    (.start 0 (s.imageBase + manField s.boot.manifest 0x18 4) (some s.imageBase))

/-- CHUNK_REFUSED (R324): what stage 2 wrote stays, CORE_RELEASE with it, and a core it had released starts again at its CORE_ENTRY
(DEDUCED, assumption 167). -/
def State.refuseChunk (s : State) (slot kind : Nat) : State :=
  let s1 := if s.boot.stage2 then (List.range 4).foldl State.resetCore s else s
  let s2 := (s1.zeroPm s1.bootCopyBase (s1.bootCopyBase + 0x1000000)).setNat Obj.chunksVerified 0 0
  let s3 := [2, 3, 4, 5, 6, 7].foldl (fun s i => s.setBlob (Obj.meas0 + i) (List.replicate 48 0)) s2
  let s4 := if s.boot.stage2 then [1, 2, 3].foldl (fun s k => if s.bit Obj.coreRelease 0 k then s.startCore k else s) s3 else s3
  (s4.modBoot (fun b => { b with stage2 := false, trialAt := none })).refuseSlot slot kind 7 s.boot.manifest

/-- A chunk has passed: its bytes reach the boot image copy, MEAS_3 is extended, and the last one verifies the image
(R322–R325). -/
def State.acceptChunk (s : State) (slot kind : Nat) : State :=
  let k := s.boot.chunk
  let m := s.boot.manifest
  let n := min 65536 (manField m 0x0C 4 - 65536 * k)
  let s1 := s.setPmBytes (s.bootCopyBase + 65536 * k) (s.flashBytes (flashSlot slot + 0x10000 + 65536 * k) n)
  let s2 := ((s1.measExtend 3 (manHash m k)).setNat Obj.chunksVerified 0 (k + 1)).modBoot
    (fun b => { b with chunk := k + 1, retry := false })
  let s3 := (if k = 0 then s2.startStage2 kind else s2).coresAsk
  if k + 1 < manChunks m then s3
  else
    let s4 := (s3.setNat Obj.imageVerified 0 1).setNat Obj.bootState 0 3
    if s4.boot.headSlot = slot then s4 else s4.bumpLife Obj.bootFallbackLife

/-- The bytes of chunk k of a slot, by its manifest (R311, R320). -/
def State.slotChunk (s : State) (slot : Nat) (m : List Byte) (k : Nat) : List Byte :=
  s.flashBytes (flashSlot slot + 0x10000 + 65536 * k) (min 65536 (manField m 0x0C 4 - 65536 * k))

/-- Chunk k of a slot has the hash its manifest gives (R320, R322). -/
def State.chunkOk (s : State) (slot : Nat) (m : List Byte) (k : Nat) : Bool := sha384 (s.slotChunk slot m k) == manHash m k

/-- CHUNK_LOADED (R322–R325): a chunk whose hash fails, by its bytes or by its reading, is read once more; a second failure
refuses the slot. -/
def execChunkLoaded (dt : Nat) (readOk : Bool) (s : State) : Host.Outcome State Fault Refusal :=
  whenRunning dt s (fun s =>
    match s.boot.cur with
    | none => s
    | some (slot, kind) =>
      if manChunks s.boot.manifest ≤ s.boot.chunk then s
      else s.onFlash (fun s0 =>
        let s := s0.selectBank (flashSlot slot + 0x10000 + 65536 * s0.boot.chunk)
        if readOk && s.chunkOk slot s.boot.manifest s.boot.chunk then s.acceptChunk slot kind
        else if s.boot.retry then s.refuseChunk slot kind
        else s.modBoot (fun b => { b with retry := true })))

/-- TRIAL_WDOG (R328). -/
def execTrialWdog (dt : Nat) (s : State) : Host.Outcome State Fault Refusal :=
  whenRunning dt s (fun s =>
    match s.boot.trialAt with
    | some t => if t + manTrial s.boot.manifest * 1000 * msPs ≤ s.now then s.deviceReset 4 else s
    | none => s)

/-- TRIAL_LEFT: whole seconds to the watchdog's expiry, rounded up (R333). -/
def State.trialLeft (s : State) : Nat :=
  match s.boot.trialAt with
  | some t => ceilDiv (t + manTrial s.boot.manifest * 1000 * msPs - s.now) (1000 * msPs)
  | none => 0

/-! ## Acceptance and revocation (R327, R329) -/

/-- ACCEPT (R327), its steps in one command (R331; DESIGN CHOICE, assumption 205). -/
def State.accept (s : State) : State :=
  match s.boot.cur with
  | none => s
  | some (slot, _) =>
    let s1 := (s.markSlot slot 3).modBoot (fun b => { b with trialAt := none })
    let s2 := if (s1.slotOf (1 - slot)).state = 3 then s1.markSlot (1 - slot) 2 else s1
    (s2.setNat Obj.bootKind 0 0).blowRollback

/-- The check of KEY_REVOKE (R329). -/
def State.revokeCheck (s : State) (v : Nat) : Nat :=
  if decide (7 < v) || v % 4 == 3 || s.nat Obj.imageVerified == 0 then St.range
  else if v / 4 = manSet s.boot.manifest && v % 4 = manIndex s.boot.manifest then St.keyInUse
  else St.ok

/-! ## Updating (R330, R332) -/

/-- UPD_STATUS's STATE. -/
def State.updState (s : State) (v : Nat) : State := s.setField Obj.updStatus 0 2 0 v

/-- The slot not being booted (R330). -/
def State.otherSlot (s : State) : Nat := if s.nat Obj.bootSlot = 0 then 1 else 0

/-- An update of a slot opens (R330 BEGIN, R332 RECOVERY_OPEN). -/
def State.openUpdate (s : State) (slot : Nat) (session : Option Nat) : State :=
  let r := s.slotOf slot
  let s1 := (s.writeSlot slot 1 r.seq 0).setNat Obj.updOffset 0 0
  (s1.updState 1).modBoot (fun b => { b with target := some slot, next := 0, session := session })

/-- UPD_STATUS reads WRITING or VALIDATING. -/
def State.updBusy (s : State) : Bool := let v := s.field Obj.updStatus 0 2 0; v == 1 || v == 2

/-- The check of a UPD_CMD write (R330). A BEGIN stays open for VALIDATE over a reset, which leaves the target's record WRITTEN (R331;
DEDUCED, assumption 201). -/
def State.updCheck (s : State) (kind : Nat) : Nat :=
  match kind with
  | 1 => if s.nat Obj.bootKind = 1 || s.updBusy then St.updState else St.ok
  | 2 => if (s.boot.target.isNone && (s.slotOf s.otherSlot).state ≠ 1) || s.boot.validating.isSome then St.updState else St.ok
  | 3 => if (s.slotOf s.otherSlot).state = 2 then St.ok else St.updState
  | _ => St.formatCode

/-- The reset of TRIAL_RESET, 100 ms after acceptance (R330). -/
def State.resetIn100ms (s : State) (cause : Nat) : State := s.modBoot (fun b => { b with due := some (b.due.getD (s.now + 100 * msPs, cause)) })

/-- What an accepted UPD_CMD does (R330). -/
def State.updCmd (s : State) (kind : Nat) : State :=
  match kind with
  | 1 => s.openUpdate s.otherSlot none
  | 2 => (s.updState 2).modBoot (fun b => { b with validating := some .none })
  | 3 => s.resetIn100ms 5
  | _ => s

/-- The check of a blob at an offset (R330, R332). -/
def State.updDataCheck (s : State) (offset len : Nat) : Nat :=
  if s.boot.target.isNone || offset != s.boot.next then St.updState
  else if 0x1100000 < offset + len then St.range
  else St.ok

/-- A blob is programmed; each 64 KiB sector is erased before its first byte (R330). -/
def State.updData (s : State) (l : List Byte) : State :=
  match s.boot.target with
  | none => s
  | some slot =>
    let o := s.boot.next
    let e := o + l.length
    let sectors := (List.range (ceilDiv e 65536)).filter (fun k => decide (o ≤ 65536 * k))
    let s1 := sectors.foldl (fun s k => if 65536 * k < e then s.ownErase (flashSlot slot + 65536 * k) 65536 else s) s
    ((s1.ownProgram (flashSlot slot + o) l).modBoot (fun b => { b with next := e })).setNat Obj.updOffset 0 e

/-- Every chunk of a slot has the hash its manifest gives. -/
def State.chunksOk (s : State) (slot : Nat) : Bool :=
  let m := s.readManifest slot
  (List.range (manChunks m)).all (s.chunkOk slot m)

/-- The target read back and checked under codes 2–7 (R330): marked VALID with the next SEQ, or the reason. -/
def State.validate (s : State) (slot : Nat) (readOk : Bool) : State × Bool :=
  let c := s.manCode (s.readManifest slot)
  let code := if c ≠ 0 then c else if readOk && s.chunksOk slot then 0 else 7
  if code = 0 then
    let a := (s.slotOf 0).seq
    let b := (s.slotOf 1).seq
    let seq := ((if serialLater b a then b else a) + 1) % 2 ^ 32
    ((((s.writeSlot slot 2 seq 0).updState 3).setField Obj.updStatus 0 15 8 0).modBoot
      (fun b => { b with target := none, session := none, validating := none }), true)
  else
    (((s.updState 4).setField Obj.updStatus 0 15 8 code).modBoot (fun b => { b with validating := none }), false)

/-! ## Objects (R326, R333) -/

/-- The checks of the boot objects. -/
def State.bootCheck (s : State) (num i : Nat) (v : Int) (bytes : List Byte) : Nat :=
  let n := v.toNat
  if num = Obj.accept then
    (if n ≠ 1 then St.range else if s.nat Obj.bootKind = 1 && s.nat Obj.imageVerified = 1 then St.ok else St.notTrial)
  else if num = Obj.keyRevoke then s.revokeCheck n
  else if num = Obj.measExtGo then (if decide (n < 5) || decide (7 < n) then St.range else St.ok)
  else if num = Obj.updCmd then s.updCheck n
  else if num = Obj.updData then s.updDataCheck (s.nat Obj.updOffset) bytes.length
  else if num = Obj.safeStageData then
    (if safeSize < s.nat Obj.safeStageOffset + bytes.length then St.range else St.ok)
  else if num = Obj.safeWrite then (if n ≠ 1 then St.range else if safeBad s.staged then St.safeBad else St.ok)
  else if num = Obj.coreEntry && i = 0 then St.noRight
  else St.ok

/-- What their accepted writes do beside the value. -/
def State.bootEffect (s : State) (num _i : Nat) (old v : Int) (bytes : List Byte) : State :=
  let n := v.toNat
  if num = Obj.accept then s.accept
  else if num = Obj.keyRevoke then s.setBit Obj.keyRevoked (n / 4) (n % 4) true
  else if num = Obj.measExtGo then
    s.measExtend n ((List.range 6).flatMap (fun k => leBytes 8 (s.nat (Obj.measExtWord0 + k))))
  else if num = Obj.updCmd then s.updCmd n
  else if num = Obj.updData then s.updData bytes
  else if num = Obj.safeStageData then
    let o := s.nat Obj.safeStageOffset
    (s.modBoot (fun b => { b with stage := putAll (fun _ => 0) b.stage o bytes })).setNat Obj.safeStageOffset 0 (o + bytes.length)
  else if num = Obj.safeWrite then s.safeWrite
  else if num = Obj.coreRelease then
    [1, 2, 3].foldl (fun s k => if n.testBit k && !old.toNat.testBit k then s.startCore k else s)
      (s.setNat num 0 (old.toNat ||| (n &&& 0xE) ||| 1))
  else s

end Sys2Proof.Machine
end

