-- ==== Sys2Proof/Machine/Integrity.lean ====
section
/-!
DEFINITION. Refetches of X, Y and program words (R115, R361, R362) and the hem boundary (R367–R369).
-/

namespace Sys2Proof.Machine

/-! ## Refetches -/

/-- A refetch counts toward its fitting's limit; reaching it asks the Last to act (R138, R361, R362). -/
def State.countRefetch (s : State) (n : Nat) : State :=
  let k := (s.needle n).refetches + 1
  let s1 := s.modNeedle n (fun nd => { nd with refetches := k })
  if k = s.nat Obj.parityStormLimit then s1.request Rsn.storm n else s1

/-- The parameter and element that a word of a block's page holds: object number and element. -/
def State.pageObject (s : State) (n : Nat) (b : ParamBlock) (off : Nat) : Option (Nat × Nat) :=
  match s.last.pat with
  | none => none
  | some p =>
    let base := (((s.last.copies ++ s.last.migs.flatMap (·.copies)).find? (fun c => c.piece == b.piece && c.needle == n)).map (·.blkBase)).getD 0
    (p.params.zipIdx.find? (fun e => e.1.piece == b.piece && base + e.1.block == b.blk
      && decide (e.1.offset ≤ off) && decide (off < e.1.offset + e.1.words))).map (fun e => (paramBase + e.2, off - e.1.offset))

/-- The block and word offset of an address in a parameter page. -/
def Needle.pageOf (nd : Needle) (y : Bool) (e : Nat) : Option (ParamBlock × Nat) :=
  nd.blocks.findSome? (fun b =>
    if b.y != y then none
    else if decide (b.baseA ≤ e) && decide (e < b.baseA + b.size) then some (b, e - b.baseA)
    else if decide (b.baseB ≤ e) && decide (e < b.baseB + b.size) then some (b, e - b.baseB) else none)

/-- A parameter-page word (R115, R361): from its golden twin; failing that from the committed value, with the twin
rebuilt; failing that 0, with PARAM_LOST. -/
def State.refetchPage (s : State) (n : Nat) (y : Bool) (e : Nat) (b : ParamBlock) (off : Nat) (twinOk recordOk : Bool) : State :=
  let store (s : State) (w : Word) : State := s.modNeedle n (fun nd => nd.setPage y e w)
  if twinOk then store s (look (fun _ => 0) (s.needle n).golden (memKey y e))
  else
    match s.pageObject n b off with
    | none => (store s 0).bump Obj.goldenRebuildHem
    | some (num, k) =>
      if recordOk then (store s (paramWord (s.committedVal num k))).bump Obj.goldenRebuildHem
      else ((store s 0).bump Obj.goldenRebuildHem).log 0x13 num

/-- XY_LOST's arguments: needle; word and memory; piece (R366). -/
def State.logXyLost (s : State) (n : Nat) (y : Bool) (e : Nat) : State :=
  let inOwn (c : Copy) : Bool := c.needle == n && (s.pieceDesc c.piece).any (fun d =>
    if y then decide (c.yBase ≤ e) && decide (e < c.yBase + d.yWords) else decide (c.xBase ≤ e) && decide (e < c.xBase + d.xWords))
  s.log 0x90 n (e + if y then 16384 else 0) (((s.last.copies.find? inOwn).map (·.piece)).getD 0)

/-- An X or Y refetch ends (R361): a page word, a state word, or a constant word. The needle's slot is issued again. -/
def State.refetchXY (s : State) (n : Nat) (y : Bool) (e : Nat) (twinOk recordOk imageOk : Bool) : State :=
  let nd := s.needle n
  let s1 := ((s.modNeedle n (fun nd => { nd with wait := .none })).bump (ndlObj n 0x30)).countRefetch n
  match nd.pageOf y e with
  | some (b, off) => s1.refetchPage n y e b off twinOk recordOk
  | none =>
    if nd.stateWords.any (fun r => r.y == y && decide (r.lo ≤ e) && decide (e < r.hi)) then
      (((s1.modNeedle n (fun nd => nd.setWord y e 0)).bump (ndlObj n 0x33)).mirror n).logXyLost n y e
    else if imageOk then s1.modNeedle n (fun nd => nd.setWord y e (look (fun _ => 0) nd.image (memKey y e)))
    else (s1.modNeedle n (fun nd => nd.setWord y e 0)).logXyLost n y e

/-- XY_REFETCH_DONE (R115, R361). -/
def execXyRefetchDone (dt : Nat) (n : Fin 128) (y : Bool) (e : BitVec 14) (twinOk recordOk imageOk : Bool) (s : State) :
    Host.Outcome State Fault Refusal :=
  whenRunning dt s (fun s =>
    if (s.needle n.val).wait = .xy y then s.refetchXY n.val y e.toNat twinOk recordOk imageOk else s)

/-- The copy whose slot comes i-th in a needle's program, and the slot's number in the copy. -/
def slotOwner : List Copy → Nat → Option (Copy × Nat)
  | [], _ => none
  | c :: t, i => if i < c.slots then some (c, i) else slotOwner t (i - c.slots)

/-- The slot that cannot be refetched retires with no operation, and its piece is removed from the next strobe
(R362). -/
def State.progLost (s : State) (n : Nat) : State :=
  let i := (((s.needle n).run).map (·.retired)).getD 0
  let s1 := (s.modNeedle n (fun nd => { nd with wait := .none })).retire n
  match slotOwner (s.written.inOrder n) i with
  | none => s1
  | some (c, k) => State.log { s1 with fab := { s1.fab with due := s1.fab.due ++ [.dropLost c.piece] } } 0x91 c.piece n k

/-- PROG_REFETCH_DONE (R362): from the image copy or a rebuild the slot is issued again; else it is lost. -/
def execProgRefetchDone (dt : Nat) (n : Fin 128) (imageOk patternOk : Bool) (s : State) : Host.Outcome State Fault Refusal :=
  whenRunning dt s (fun s =>
    if (s.needle n.val).wait ≠ .prog then s
    else
      let s1 := (s.bump (ndlObj n.val 0x31)).countRefetch n.val
      if imageOk || patternOk then s1.modNeedle n.val (fun nd => { nd with wait := .none }) else s1.progLost n.val)

/-! ## The hem boundary (R367–R369) -/

/-- The object that holds the snapshot of a hem object (R369). -/
def snapOf (num : Nat) : Nat := if num ≤ 0xFFFF then 0x10000 + num else num + 2

/-- A number whose value is a hem value (R368). -/
def isHem (num : Nat) : Bool :=
  match Obj.desc? num with
  | some d => d.cls == .hem || d.cls == .count
  | none => false

/-- A number whose value is a snapshot of a hem value (R369, R372). -/
def isSnap (num : Nat) : Bool :=
  (decide (0x10000 ≤ num) && decide (num ≤ 0x1FFFF) && isHem (num - 0x10000)) || num == 0x11013 || num == 0x11014

/-- A number that the readable snapshot bank holds (R369, R372). -/
def inBank (num : Nat) : Bool := isSnap num || num == Obj.hemSnapSeq || num == Obj.hemSnapStitch

/-- The snapshot bank that is readable. -/
def State.readableBank (s : State) : Sparse Int := s.regs.filter (fun e => inBank (e.1 / 2048))

/-- The state with a snapshot bank readable. -/
def State.withBank (s : State) (b : Sparse Int) : State :=
  { s with regs := b.foldl (fun m e => put (objRest s.e16) m e.1 e.2) (s.regs.filter (fun e => !inBank (e.1 / 2048))) }

/-- Every hem value is latched into the readable bank, and the live values restart (R368). -/
def State.latchHem (s : State) : State :=
  let hems := s.regs.filter (fun e => isHem (e.1 / 2048))
  let kept := s.regs.filter (fun e => !isHem (e.1 / 2048) && !isSnap (e.1 / 2048))
  let changed := distinct (hems.map (fun e => e.1 / 2048))
  let s1 : State := { s with
    regs := hems.foldl (fun m e => put (objRest s.e16) m (objKey (snapOf (e.1 / 2048)) (e.1 % 2048)) e.2) kept }
  changed.foldl (fun s n => s.touch n) s1

/-- The boundary (R367, R368), at the strobe that starts the stitch after the latest one: what is counted from here on
belongs to the new hem. The pleats a parity storm barred take pieces again (R138), the first TWIN mismatch of each piece
is logged anew (R145), and a written HEM_SECONDS places the boundaries from the next one on. -/
def State.hemBoundary (s : State) : State :=
  let first := s.hem.first
  let next := s.stitch + 1
  let s1 := s.latchHem
  let s2 := ((s1.setNat Obj.hemSnapSeq 0 (s1.nat Obj.hemSeq)).setNat Obj.hemSnapStitch 0 first).setNat Obj.hemSnapStitch 1 next
  let s3 := (s2.setNat Obj.hemSeq 0 ((s2.nat Obj.hemSeq + 1) % 2 ^ 32)).setNat Obj.hemStart 0 s2.tbNs
  { s3 with
    hem := { n := s3.nat Obj.hemSeconds, sec := s3.tbSec, first := next, bank := s.readableBank, swaps := s.now :: s.hem.swaps.take 1 },
    last := { s3.last with barred := [], twinSeen := [] } }

/-- A boundary has been reached: the timebase has passed a whole second that is a multiple of the hem length since the
latest strobe or boundary (R367). A forward step over several gives one, and a backward step none. -/
def State.hemReached (s : State) : Bool :=
  let n := max s.hem.n 1
  decide (s.hem.sec / n < s.tbSec / n)

/-- The strobe's part in the hem: the second it falls in. -/
def State.reachHem (s : State) : State := { s with hem := { s.hem with sec := s.tbSec } }

/-- HEM_SECONDS accepts 1 to 3 600 (R367). -/
def hemCheck (num : Nat) (v : Int) : Nat :=
  if num = Obj.hemSeconds && (decide (v < 1) || decide (3600 < v)) then St.range else St.ok

end Sys2Proof.Machine
end

