-- ==== Sys2Proof/Machine/Names.lean ====
section
/-!
DEFINITION. The names of the device objects, as the Name columns of the object tables give them: the numbers of a row, and
its name, to which a row of several numbers adds the place in the row (R235).
-/

namespace Sys2Proof.Machine

/-- Names, part 0. -/
def objNames0 : List (Nat × Nat × String) :=
  [(0x0, 0x0, "DEVICE_ID"), (0x1, 0x1, "SILICON_REV"), (0x2, 0x2, "ORDER_CODE"), (0x3, 0x3, "PKG_MEM_GIB"),
   (0x10, 0x10, "SERVICE_LEVEL"), (0x40, 0x40, "CC_WSTATUS0"), (0x41, 0x41, "CC_WSTATUS1"),
   (0x42, 0x42, "CC_WSTATUS2"), (0x43, 0x43, "CC_WSTATUS3"), (0x44, 0x47, "CC_MSG_GO"),
   (0xC020, 0xC020, "NDL_STICKY"), (0xC021, 0xC021, "NDL_SAT_HEM"), (0xC022, 0xC022, "NDL_WRAP_HEM"),
   (0xC023, 0xC023, "NDL_DOMAIN_HEM"), (0xC024, 0xC024, "NDL_SAT_LIFE"), (0xC025, 0xC025, "NDL_WRAP_LIFE"),
   (0xC026, 0xC026, "NDL_WB_MODE"), (0xC027, 0xC027, "NDL_CNT_OVF"), (0xC028, 0xC028, "NDL_SEAM_HELD_HEM"),
   (0xC029, 0xC029, "NDL_FWD_WAIT_MAX"), (0xC02A, 0xC02A, "NDL_BOB2_HEM"), (0xC02B, 0xC02B, "NDL_IO_OVF"),
   (0xC000, 0xC000, "NDL_STATE"), (0xC001, 0xC001, "NDL_TAPE_STATUS"), (0xC002, 0xC002, "NDL_LAST_DONE"),
   (0xC003, 0xC003, "NDL_MAX_DONE_HEM"), (0xC004, 0xC004, "NDL_MIN_MARGIN_HEM"),
   (0xC005, 0xC005, "NDL_OVERRUN_HEM"), (0xC006, 0xC006, "NDL_SKIP_HEM"), (0xC007, 0xC007, "NDL_LATE_HEM"),
   (0xC008, 0xC008, "NDL_OVERRUN_LIFE"), (0xC009, 0xC009, "NDL_BUDGET"), (0xC00A, 0xC00A, "NDL_SLOTS"),
   (0xC00B, 0xC00B, "NDL_TAPE_OVF"), (0x100, 0x100, "STITCH_RATE"), (0x101, 0x101, "STITCH_NOW"),
   (0x102, 0x102, "DEADLINE_CODE"), (0x103, 0x103, "FIT_STITCH"), (0x104, 0x104, "FIT_TIME"),
   (0x105, 0x105, "FIT_MARGIN"), (0x106, 0x106, "PLEAT_FIT_MARGIN"), (0x107, 0x107, "VCORE_NOW"),
   (0x108, 0x108, "VCORE_MIN"), (0x109, 0x109, "VCORE_MAX"), (0x10A, 0x10A, "VCORE_BOOT"),
   (0x10B, 0x10B, "MARGIN_TARGET"), (0x10C, 0x10C, "MARGIN_FLOOR"), (0x10D, 0x10D, "AVS_STATUS"),
   (0x10E, 0x10E, "AVS_RAISE_HEM"), (0x10F, 0x10F, "AVS_LOWER_HEM"), (0x110, 0x110, "FLOOR_HIT_HEM"),
   (0x111, 0x111, "SHED_HEM"), (0x112, 0x112, "EMERGENCY_LIFE"), (0x113, 0x113, "HISTORY_MAP"),
   (0x114, 0x114, "HISTORY_ALL"), (0x115, 0x115, "TAPE_CNT_OVF"), (0xF000, 0xF000, "COMMIT_ACCEPTED_HEM"),
   (0xF001, 0xF001, "COMMIT_APPLIED_HEM"), (0xF002, 0xF002, "COMMIT_REFUSED_HEM"),
   (0xF003, 0xF003, "COMMIT_CANCELLED_HEM")]
/-- Names, part 1. -/
def objNames1 : List (Nat × Nat × String) :=
  [(0xF004, 0xF004, "COMMIT_SLIPPED_HEM"), (0xF005, 0xF005, "GOLDEN_REBUILD_HEM"),
   (0xF006, 0xF006, "BASTE_CNT_OVF"), (0xF007, 0xF007, "COPY_RATE"), (0xF008, 0xF008, "COPY_BACKLOG"),
   (0xF009, 0xF009, "COMMIT_CANCEL"), (0xF010, 0xF013, "CC_COMMIT_STITCH"), (0xF014, 0xF017, "CC_COMMIT_GO"),
   (0xF018, 0xF01B, "CC_COMMIT_RESULT"), (0xF020, 0xF03F, "UNIV_GROUP"), (0xF040, 0xF040, "SHA_RX_GROUP"),
   (0xF041, 0xF041, "SHA_TX_GROUP"), (0xF042, 0xF042, "SHB_RX_GROUP"), (0xF043, 0xF043, "SHB_TX_GROUP"),
   (0xF050, 0xF053, "GROUP_CFG"), (0xF054, 0xF057, "GROUP_PEND"), (0xF058, 0xF05B, "GROUP_LAST"),
   (0xE000, 0xE000, "PLACE_CMD"), (0xE001, 0xE001, "PLACE_ARG"), (0xE002, 0xE002, "PLACE_SEED"),
   (0xE003, 0xE003, "PLACE_STATUS"), (0xE004, 0xE004, "PLACE_DETAIL"), (0xE005, 0xE005, "LAST_FREEZE"),
   (0xE006, 0xE006, "RESOURCE_MAP"), (0xE007, 0xE007, "BOBBIN_MAP"), (0xE008, 0xE008, "EFFECTIVE_MAP"),
   (0xE009, 0xE009, "PLACE_DIGEST"), (0xE00A, 0xE00A, "SPOOL_THRESHOLD"), (0xE00B, 0xE00B, "SPOOL_BW_LIMIT"),
   (0xE00C, 0xE00C, "SPOOL_BW_RESERVED"), (0xE00D, 0xE00D, "FREE_SPOOL_KIB"), (0xE00E, 0xE00E, "MIG_INTERVAL"),
   (0xE00F, 0xE00F, "MIG_WAIT"), (0xE010, 0xE010, "PARITY_STORM_LIMIT"), (0xE011, 0xE011, "TEMP_MIGRATE"),
   (0xE012, 0xE012, "PAT_STAGE_OFFSET"), (0xE013, 0xE013, "PAT_STAGE_DATA"), (0xE014, 0xE014, "PAT_STAGE_ADDR"),
   (0xE015, 0xE015, "PAT_ID"), (0xE016, 0xE016, "PLACE_TIME"), (0xE017, 0xE017, "MIGRATE_HEM"),
   (0xE018, 0xE018, "MIG_LOST_HEM"), (0xE019, 0xE019, "SPOOL_LATE_HEM"), (0xE01A, 0xE01A, "TWIN_MISMATCH_HEM"),
   (0xE01B, 0xE01B, "LAST_CNT_OVF"), (0xE100, 0xE13F, "PLACE_TABLE"), (0xE200, 0xE200, "PATH_LATENCY"),
   (0xE210, 0xE210, "FREE_SLOTS"), (0xE211, 0xE211, "FREE_X"), (0xE212, 0xE212, "FREE_Y"),
   (0xE213, 0xE213, "FREE_BOBBIN"), (0xB000, 0xB000, "BOBBIN_OWNER"), (0xB001, 0xB001, "HANDOVER_BUSY"),
   (0xB002, 0xB002, "ACCESS_DENIED_HEM"), (0xB003, 0xB003, "BOB_CONFLICT_HEM"),
   (0xB004, 0xB004, "BOBBIN_PARITY_HEM"), (0xB005, 0xB005, "BOB_CNT_OVF"), (0xB100, 0xB100, "PM_FW_MIB"),
   (0xB101, 0xB101, "PM_SPILL_MIB"), (0xB102, 0xB102, "PM_SPOOL_MIB")]
/-- Names, part 2. -/
def objNames2 : List (Nat × Nat × String) :=
  [(0xB103, 0xB103, "PM_REGION_BASE"), (0xB104, 0xB104, "PM_LINK_RETRY_HEM"), (0xB105, 0xB105, "PM_LINK_ERR_HEM"),
   (0xB106, 0xB106, "PM_LINK_ERR_LIFE"), (0xB107, 0xB107, "PM_REFRESH_X2"), (0xB108, 0xB108, "PM_CNT_OVF"),
   (0xB200, 0xB200, "ARB_CLASS"), (0xB201, 0xB201, "ARB_HOLD_LIMIT"), (0xB202, 0xB202, "ARB_QUOTA"),
   (0xB203, 0xB203, "ARB_WINDOW"), (0xB204, 0xB204, "ARB_HOLD_CUT"), (0xB205, 0xB205, "ARB_GRANTS_A_HEM"),
   (0xB206, 0xB206, "ARB_GRANTS_B_HEM"), (0xB207, 0xB207, "ARB_BURSTS_HEM"), (0xB208, 0xB208, "HOLD_CUT_HEM"),
   (0xB209, 0xB209, "ARB_CNT_OVF"), (0x4000, 0x4000, "SH_LINK"), (0x4001, 0x4001, "SH_MAC"),
   (0x4002, 0x4002, "SH_IP"), (0x4003, 0x4003, "SH_MASK"), (0x4004, 0x4004, "SH_GATEWAY"),
   (0x4005, 0x4005, "SH_VLAN"), (0x4006, 0x4006, "SH_DSCP"), (0x4007, 0x4007, "SH_PAIR_MODE"),
   (0x4010, 0x4010, "SH_RX_ENABLE"), (0x4011, 0x4011, "SH_RX_FORMAT"), (0x4012, 0x4012, "SH_RX_DEST"),
   (0x4013, 0x4013, "SH_RX_UDP"), (0x4014, 0x4014, "SH_RX_LATENCY"), (0x4015, 0x4015, "SH_RX_OFFSET"),
   (0x4016, 0x4016, "SH_RX_SRC"), (0x4017, 0x4017, "SH_RX_STATE"), (0x4018, 0x4018, "SH_RX_MAP_COMMIT"),
   (0x4019, 0x4019, "SH_RX_MAP_STITCH"), (0x401A, 0x401A, "SH_RX_PEER_FLAGS"), (0x4020, 0x4020, "SH_TX_ENABLE"),
   (0x4021, 0x4021, "SH_TX_FORMAT"), (0x4022, 0x4022, "SH_TX_DEST"), (0x4023, 0x4023, "SH_TX_UDP"),
   (0x4024, 0x4024, "SH_TX_SSRC"), (0x4025, 0x4025, "SH_TX_OFFSET"), (0x4026, 0x4026, "SH_TX_STATE"),
   (0x4027, 0x4027, "SH_TX_MAP_COMMIT"), (0x4028, 0x4028, "SH_TX_MAP_STITCH"), (0x4100, 0x410F, "SH_RX_MAP"),
   (0x4110, 0x411F, "SH_RX_MAP_ACTIVE"), (0x4120, 0x412F, "SH_RX_GAIN"), (0x4130, 0x413F, "SH_TX_MAP"),
   (0x4140, 0x414F, "SH_TX_MAP_ACTIVE"), (0x4150, 0x415F, "SH_TX_GAIN"), (0x4200, 0x4200, "SH_RX_PKT_HEM"),
   (0x4201, 0x4201, "SH_RX_MISS_HEM"), (0x4202, 0x4202, "SH_RX_LATE_HEM"), (0x4203, 0x4203, "SH_RX_EARLY_HEM"),
   (0x4204, 0x4204, "SH_RX_FMT_HEM"), (0x4205, 0x4205, "SH_RX_DUP_HEM"), (0x4206, 0x4206, "SH_TX_PKT_HEM"),
   (0x4210, 0x4210, "SH_FCS_HEM"), (0x4211, 0x4211, "SH_UDP_CSUM_HEM"), (0x4212, 0x4212, "SH_STRANGER_HEM")]
/-- Names, part 3. -/
def objNames3 : List (Nat × Nat × String) :=
  [(0x4213, 0x4213, "SH_UNMATCHED_HEM"), (0x4214, 0x4214, "SH_PARITY_HEM"), (0x4215, 0x4215, "SH_SPILL_LATE_HEM"),
   (0x4216, 0x4216, "SH_CLIP_HEM"), (0x4217, 0x4217, "SH_CTRL_DROP_HEM"), (0x4218, 0x4218, "POOL_LATE"),
   (0x4219, 0x4219, "SH_TX_DROP_HEM"), (0x421A, 0x421A, "SH_STRANGER_LIST"), (0x421B, 0x421B, "SH_CNT_OVF"),
   (0x4220, 0x4220, "SH_BUF_SRAM_USED"), (0x4221, 0x4221, "SH_BUF_SPILL_USED"), (0x4222, 0x4222, "SH_TX_LOAD"),
   (0x4300, 0x4300, "SH_AUDIT_CFG"), (0x4301, 0x4301, "SH_AUDIT_LAST"), (0x4302, 0x4302, "SH_AUDIT_MIN"),
   (0x4303, 0x4303, "SH_AUDIT_MAX"), (0x4304, 0x4304, "SH_AUDIT_OK_HEM"), (0x4305, 0x4305, "SH_AUDIT_BAD_HEM"),
   (0x4306, 0x4306, "SH_AUDIT_LOST_HEM"), (0x4307, 0x4307, "SH_AUDIT_OVF"), (0x4400, 0x4400, "SH_SRC_COEF2"),
   (0x4401, 0x4401, "SH_SRC_COEF4"), (0x8000, 0x8000, "TDM_CFG"), (0x8001, 0x8001, "TDM_STATE"),
   (0x8002, 0x8002, "TDM_RX_MAP"), (0x8003, 0x8003, "TDM_TX_MAP"), (0x8004, 0x8004, "TDM_RX_MAP_ACTIVE"),
   (0x8005, 0x8005, "TDM_TX_MAP_ACTIVE"), (0x8006, 0x8006, "TDM_MAP_COMMIT"), (0x8007, 0x8007, "TDM_MAP_STITCH"),
   (0x8008, 0x8008, "TDM_SLIP_HEM"), (0x8009, 0x8009, "TDM_POOL_LATE"), (0x800A, 0x800A, "TDM_REALIGN_HEM"),
   (0x800B, 0x800B, "TDM_CNT_OVF"), (0x3000, 0x3000, "TB_STATE"), (0x3001, 0x3001, "TB_NOW"),
   (0x3002, 0x3002, "TB_FREQ"), (0x3003, 0x3003, "TB_OFFSET"), (0x3004, 0x3004, "TB_PATH_DELAY"),
   (0x3005, 0x3005, "TB_ROLE"), (0x3006, 0x3006, "PTP_PORT_STATE"), (0x3007, 0x3007, "PTP_PROFILE"),
   (0x3008, 0x3008, "PTP_DOMAIN"), (0x3009, 0x3009, "PTP_INTERVALS"), (0x300A, 0x300A, "PTP_ANN_TIMEOUT"),
   (0x300B, 0x300B, "PTP_PRIORITY"), (0x300C, 0x300C, "PTP_PORT_CFG"), (0x300D, 0x300D, "PTP_PORT_ACTIVE"),
   (0x300E, 0x300E, "PTP_ASYM"), (0x300F, 0x300F, "PTP_LEADER"), (0x3010, 0x3010, "PTP_LEADER_CLASS"),
   (0x3011, 0x3011, "TB_SERVO_BW"), (0x3012, 0x3012, "TB_STEP_NS"), (0x3013, 0x3013, "TB_LOCK_NS"),
   (0x3014, 0x3014, "TB_REF_SEL"), (0x3015, 0x3015, "TB_TIME_SRC"), (0x3016, 0x3016, "TB_SET"),
   (0x3017, 0x3017, "REF_STATUS"), (0x3018, 0x3018, "PLL_STATUS"), (0x3019, 0x3019, "CLK_CFG")]
/-- Names, part 4. -/
def objNames4 : List (Nat × Nat × String) :=
  [(0x301A, 0x301A, "CLK_PHASE"), (0x301B, 0x301B, "CLK_STATE"), (0x301C, 0x301C, "TB_STEP_HEM"),
   (0x301D, 0x301D, "HOLDOVER_HEM"), (0x301E, 0x301E, "PTP_FAILOVER_HEM"), (0x301F, 0x301F, "PTP_IGNORED_HEM"),
   (0x3020, 0x3020, "LOCK_LOST_HEM"), (0x3021, 0x3021, "CLK_CNT_OVF"), (0x2800, 0x2800, "DICT_OPS_HEM"),
   (0x2801, 0x2801, "DICT_BUSY_HEM"), (0x2802, 0x2802, "DICT_LAT_MAX"), (0x2803, 0x2803, "DICT_CACHE_HIT_HEM"),
   (0x2804, 0x2804, "DICT_CACHE_MISS_HEM"), (0x2805, 0x2805, "DICT_CRC_HEM"), (0x2806, 0x2806, "DICT_HEAP_FREE"),
   (0x2807, 0x2807, "DICT_MERGE_USED"), (0x2808, 0x2808, "DICT_SUB_USED"), (0x2809, 0x2809, "JOURNAL_STATE"),
   (0x280A, 0x280A, "JOURNAL_USED"), (0x280B, 0x280B, "JOURNAL_FAIL_HEM"), (0x280C, 0x280C, "DICT_CC_DROP_HEM"),
   (0x280D, 0x280D, "DICT_CNT_OVF"), (0x2810, 0x2813, "DICT_CC_PRIORITY"), (0x2814, 0x2817, "DICT_CC_SUB"),
   (0x2818, 0x281B, "DICT_CC_RING_BASE"), (0x281C, 0x281F, "DICT_CC_RING_LEN"),
   (0x2820, 0x2823, "DICT_CC_RING_HEAD"), (0x2824, 0x2827, "DICT_CC_RING_TAIL"), (0x2000, 0x2000, "SESS_TIMEOUT"),
   (0x2001, 0x2001, "STRANGER_MODE"), (0x2002, 0x2002, "ROLE_PRIO_MAX"), (0x2003, 0x2003, "TRUST_ROOTS"),
   (0x2004, 0x2004, "DEV_CERT_CHAIN"), (0x2005, 0x2005, "SESS_USED"), (0x2006, 0x2006, "SESS_ID"),
   (0x2007, 0x2007, "SESS_ROLE"), (0x2008, 0x2008, "SESS_PRIO"), (0x2009, 0x2009, "SESS_TRANSPORT"),
   (0x200A, 0x200A, "SESS_KICK"), (0x200B, 0x200B, "URSIN_TAG_FAIL_HEM"), (0x200C, 0x200C, "URSIN_DROP_HEM"),
   (0x200D, 0x200D, "URSIN_SEQ_OLD_HEM"), (0x200E, 0x200E, "SESS_TIMEOUT_HEM"),
   (0x200F, 0x200F, "HANDSHAKE_FAIL_HEM"), (0x2010, 0x2010, "URSIN_CNT_OVF"), (0x2100, 0x2100, "TACK_USED"),
   (0x2101, 0x2101, "TACK_BROKEN_HEM"), (0x2110, 0x2113, "CC_TACK_FIRST"), (0x2114, 0x2117, "CC_TACK_LAST"),
   (0x2118, 0x211B, "CC_TACK_GO"), (0x9000, 0x901F, "UNIV_CFG"), (0x9020, 0x9020, "UNIV_BASE"),
   (0x9021, 0x9021, "SACN_CID"), (0x9022, 0x9022, "SACN_NAME"), (0x9023, 0x9023, "SACN_TX_PRIO"),
   (0x9024, 0x9024, "SACN_TX_HZ"), (0x9025, 0x9025, "SACN_SYNC_ADDR"), (0x9026, 0x9026, "SACN_TX_PORTS"),
   (0x9027, 0x9027, "SACN_RX_USED"), (0x9028, 0x9028, "SACN_TX_USED")]
/-- Names, part 5. -/
def objNames5 : List (Nat × Nat × String) :=
  [(0x9029, 0x9029, "SLOT_SRC_USED"), (0x9030, 0x9030, "SACN_RX_PKT_HEM"), (0x9031, 0x9031, "SACN_IGNORED_HEM"),
   (0x9032, 0x9032, "SACN_UNMATCHED_HEM"), (0x9033, 0x9033, "SACN_SEQ_HEM"),
   (0x9034, 0x9034, "SACN_SRC_FULL_HEM"), (0x9035, 0x9035, "SACN_REFUSED_HEM"),
   (0x9036, 0x9036, "SACN_RX_DROP_HEM"), (0x9037, 0x9037, "SACN_SYNC_LOST_HEM"),
   (0x9038, 0x9038, "SACN_TX_PKT_HEM"), (0x9039, 0x9039, "SACN_TX_LATE_HEM"), (0x9100, 0x9100, "DMX_CFG"),
   (0x9101, 0x9101, "DMX_TIMING"), (0x9102, 0x9102, "DMX_UNIV"), (0x9103, 0x9103, "DMX_STATE"),
   (0x9110, 0x9117, "DMX_SAFE_LOOK"), (0x9120, 0x9120, "DMX_FRAME_HEM"), (0x9121, 0x9121, "DMX_SKIP_HEM"),
   (0x9122, 0x9122, "DMX_FRAMING_HEM"), (0x9123, 0x9123, "DMX_BREAK_HEM"), (0x9200, 0x9200, "RDM_SRC_UID"),
   (0x9201, 0x9201, "RDM_DISCOVER"), (0x9202, 0x9202, "RDM_DISC_STATE"), (0x9203, 0x9203, "RDM_KNOWN"),
   (0x9204, 0x9204, "RDM_STRANGERS"), (0x9210, 0x9217, "RDM_UIDS"), (0x9220, 0x9227, "RDM_CMD"),
   (0x9228, 0x922F, "RDM_RESP"), (0x9230, 0x9230, "RDM_TIMEOUT_HEM"), (0x9231, 0x9231, "RDM_CSUM_HEM"),
   (0x9232, 0x9232, "RDM_COLLIDE_HEM"), (0x9300, 0x9300, "T1S_CFG"), (0x9301, 0x9301, "T1S_MAC"),
   (0x9302, 0x9302, "T1S_IP"), (0x9303, 0x9303, "T1S_MASK"), (0x9304, 0x9304, "T1S_STATE"),
   (0x9305, 0x9305, "T1S_TX_UNIV"), (0x9310, 0x9310, "T1S_COLL_HEM"), (0x9311, 0x9311, "T1S_BEACON_LOSS_HEM"),
   (0x9312, 0x9312, "T1S_JABBER_HEM"), (0x9313, 0x9313, "T1S_SYMBOL_HEM"), (0x9314, 0x9314, "T1S_FCS_HEM"),
   (0x9315, 0x9315, "T1S_TX_DROP_HEM"), (0x9400, 0x9400, "OSC_UDP"), (0x9401, 0x9401, "OSC_PEERS"),
   (0x9402, 0x9402, "OSC_ROLE"), (0x9403, 0x9403, "OSC_PRIO"), (0x9404, 0x9404, "OSC_INTERVAL"),
   (0x9405, 0x9405, "OSC_MAP_SEL"), (0x9406, 0x9406, "OSC_MAP_ENTRY"), (0x9407, 0x9407, "OSC_MAP_USED"),
   (0x9410, 0x9410, "OSC_RX_HEM"), (0x9411, 0x9411, "OSC_UNMATCHED_HEM"), (0x9412, 0x9412, "OSC_STRANGER_HEM"),
   (0x9413, 0x9413, "OSC_REFUSED_HEM"), (0x9414, 0x9414, "OSC_TX_HEM"), (0x9500, 0x9500, "VENUE_CNT_OVF"),
   (0xA000, 0xA000, "SER_STATUS"), (0xA001, 0xA001, "SER_M_DIV"), (0xA002, 0xA002, "SER_M_GO")]
/-- Names, part 6. -/
def objNames6 : List (Nat × Nat × String) :=
  [(0xA003, 0xA003, "SER_M_STATUS"), (0xA004, 0xA004, "SER_MODE_FAULT_HEM"),
   (0xA005, 0xA005, "SER_FRAME_ERR_HEM"), (0xA006, 0xA006, "SER_ABORT_HEM"), (0xA007, 0xA007, "SER_CNT_OVF"),
   (0xA100, 0xA100, "DMA_DESC"), (0xA101, 0xA101, "DMA_GO"), (0xA102, 0xA102, "DMA_STOP"),
   (0xA103, 0xA103, "DMA_CORE"), (0xA104, 0xA104, "DMA_STATE"), (0xA105, 0xA105, "DMA_CUR"),
   (0xA106, 0xA106, "DMA_ERR_HEM"), (0xA107, 0xA107, "DMA_CNT_OVF"), (0x50, 0x50, "CORE_RELEASE"),
   (0x51, 0x51, "CORE_ENTRY"), (0x1000, 0x1000, "BOOT_STATE"), (0x1001, 0x1001, "IMAGE_VERIFIED"),
   (0x1002, 0x1002, "BOOT_SLOT"), (0x1003, 0x1003, "BOOT_KIND"), (0x1004, 0x1004, "SLOT_STATE"),
   (0x1005, 0x1005, "SLOT_SEQ"), (0x1006, 0x1006, "SLOT_TRIES"), (0x1007, 0x1007, "BOOT_REJECT"),
   (0x1008, 0x1008, "TIE"), (0x1009, 0x1009, "IMAGE_ID"), (0x100A, 0x100A, "IMAGE_SEC_VERSION"),
   (0x100B, 0x100B, "CHUNKS_VERIFIED"), (0x100C, 0x100C, "TRIAL_LEFT"), (0x100D, 0x100D, "ACCEPT"),
   (0x100E, 0x100E, "BOOT_COPY_BASE"), (0x100F, 0x100F, "ROOT_LOCKED"), (0x1010, 0x1010, "ROLLBACK_COUNT"),
   (0x1011, 0x1011, "KEY_REVOKED"), (0x1012, 0x1012, "KEY_REVOKE"), (0x1013, 0x1013, "BOOT_FALLBACK_LIFE"),
   (0x1020, 0x1027, "MEAS_"), (0x1028, 0x102D, "MEAS_EXT_WORD"), (0x102E, 0x102E, "MEAS_EXT_GO"),
   (0x1030, 0x1030, "UPD_CMD"), (0x1031, 0x1031, "UPD_OFFSET"), (0x1032, 0x1032, "UPD_DATA"),
   (0x1033, 0x1033, "UPD_STATUS"), (0x1040, 0x1040, "SAFE_STAGE_OFFSET"), (0x1041, 0x1041, "SAFE_STAGE_DATA"),
   (0x1042, 0x1042, "SAFE_WRITE"), (0x1043, 0x1043, "SAFE_STATE"), (0x1044, 0x1044, "SAFE_SEQ"),
   (0x1045, 0x1045, "SAFE_COPY"), (0x200, 0x200, "LIFECYCLE"), (0x201, 0x201, "LC_ADVANCE"),
   (0x202, 0x202, "OWNER_KEY_HASH"), (0x203, 0x203, "VENDOR_KEY_HASH"), (0x204, 0x204, "KEY_SLOT_STATE"),
   (0x210, 0x210, "POWER_STATE"), (0x211, 0x211, "POWER_CMD"), (0x212, 0x212, "RESET_CAUSE"),
   (0x213, 0x213, "RESET_CMD"), (0x214, 0x214, "CC_RESET"), (0x215, 0x215, "WAKE_CFG"),
   (0x216, 0x216, "WAKE_SOURCE")]
/-- Names, part 7. -/
def objNames7 : List (Nat × Nat × String) :=
  [(0x217, 0x217, "RTC_NOW"), (0x218, 0x218, "RTC_ALARM"), (0x219, 0x219, "PLEAT_POWER"),
   (0x21A, 0x21A, "WAKE_QUEUED_HEM"), (0x21B, 0x21B, "WAKE_WAIT_MAX"), (0x21C, 0x21C, "PWR_CNT_OVF"),
   (0x220, 0x223, "THM_OP"), (0x224, 0x227, "THM_STATUS"), (0x230, 0x230, "TEST_CMD"),
   (0x231, 0x231, "TEST_STATE"), (0x232, 0x232, "TEST_FROM"), (0x233, 0x233, "TEST_RESULT"),
   (0x2180, 0x2180, "DEBUG_LEVEL"), (0x2181, 0x2181, "DEBUG_OPEN"), (0x2182, 0x2182, "DBG_ROLE"),
   (0x2183, 0x2183, "DBG_FAIL_HEM"), (0x2184, 0x2184, "DBG_DENIED_HEM"), (0x2185, 0x2185, "DBG_CNT_OVF"),
   (0xC030, 0xC030, "NDL_XY_PARITY_HEM"), (0xC031, 0xC031, "NDL_PROG_PARITY_HEM"),
   (0xC032, 0xC032, "NDL_SEAM_PARITY_HEM"), (0xC033, 0xC033, "NDL_XY_LOST_HEM"), (0xC034, 0xC034, "NDL_PAR_OVF"),
   (0x11000, 0x11000, "HEM_SECONDS"), (0x11001, 0x11001, "HEM_SEQ"), (0x11002, 0x11002, "HEM_START"),
   (0x11003, 0x11003, "HEM_SNAP_SEQ"), (0x11004, 0x11004, "HEM_SNAP_STITCH"), (0x11010, 0x11010, "EVT_HEAD"),
   (0x11011, 0x11011, "EVT_SUPPRESSED_HEM"), (0x11012, 0x11012, "INTEG_CNT_OVF"),
   (0x11013, 0x11013, "EVT_SUPPRESSED_SNAP"), (0x11014, 0x11014, "INTEG_CNT_OVF_SNAP"),
   (0x11800, 0x11FFF, "EVT_ENTRY"), (0x300, 0x300, "STRAP_STATE"), (0x301, 0x301, "TJ_PLEAT"),
   (0x302, 0x302, "TJ_DRAM"), (0x303, 0x303, "TJ_MAX_HEM"), (0x304, 0x304, "TJ_WARN"), (0x305, 0x305, "IRQ_MASK"),
   (0x306, 0x306, "IRQ_STATUS"), (0x307, 0x307, "GPIO_DIR"), (0x308, 0x308, "GPIO_OUT"),
   (0x309, 0x309, "GPIO_IN"), (0x30A, 0x30A, "THERM_LATCH")]

/-- A text in ASCII. -/
def ascii (t : String) : List Byte := t.toList.map (fun c => BitVec.ofNat 8 c.toNat)

/-- The name of a device object. -/
def Obj.name (num : Nat) : List Byte :=
  let c := Obj.canon num
  match (objNames0 ++ objNames1 ++ objNames2 ++ objNames3 ++ objNames4 ++ objNames5 ++ objNames6 ++ objNames7).find? (fun r => decide (r.1 ≤ c) && decide (c ≤ r.2.1)) with
  | some r => if r.1 = r.2.1 then ascii r.2.2 else ascii (r.2.2 ++ toString (c - r.1))
  | none => []

end Sys2Proof.Machine
end

