-- ==== Sys2Proof/Machine/Dict.lean ====
section
/-!
DEFINITION. The dictionary's objects (R231–R239, R369, R397): what a number holds, rights, sampling and encoding a value,
descriptors (R267), damaged records (R242), and marking a value for the journal (R252).
-/

namespace Sys2Proof.Machine

/-! ## What a number holds -/

/-- An object as the dictionary describes it (R235–R238): type, ARRAY, elements or capacity, FLAGS, RIGHTS, written by its
own core alone, write-only, MIN and MAX, and the owning piece. -/
structure ODesc where
  ty : Ty
  arr : Bool
  n : Nat
  flags : Nat
  rights : Nat
  own : Bool
  wo : Bool
  lo : Int
  hi : Int
  piece : Nat
  deriving DecidableEq, Repr

/-- FLAGS (R236) from its six bits. -/
def flagBits (basted persist counter live snap pub : Bool) : Nat :=
  let b (i : Nat) (on : Bool) : Nat := if on then 2 ^ i else 0
  b 0 basted + b 1 persist + b 2 counter + b 3 live + b 4 snap + b 5 pub

/-- RIGHTS (R237) of a device object: a write-only object is readable by the roles that write it, and not subscribable
(R397). -/
def deviceRights (rd wr : Nat) (wo : Bool) : Nat := rd + wr * 32 + (if wo then 0 else rd * 1024)

/-- A device object is basted where a member of it is (R97). -/
def State.anyBasted (s : State) (num n : Nat) : Bool :=
  (gainGroup num 0).isSome && (List.range n).any (fun i => (s.groupOf num i).isSome)

/-- A row as the dictionary describes it. -/
def State.descDevice (s : State) (num : Nat) (d : Desc) (snapshot : Bool) : ODesc where
  ty := d.ty
  arr := d.arr
  n := if d.ty.isBytes then Obj.capacity num else d.n
  flags := if snapshot then 16
    else flagBits (s.anyBasted num d.n) (d.persist || d.cls == .life) (d.cls == .count || d.cls == .life) d.live d.snap (Obj.isPublic num)
  rights := if snapshot then deviceRights d.rd 0 false else deviceRights d.rd d.wr d.wo
  own := d.own
  wo := d.wo
  lo := ((Obj.limits s.e16 num).map (·.1)).getD d.ty.lo
  hi := ((Obj.limits s.e16 num).map (·.2)).getD d.ty.hi
  piece := 0xFFFF

/-- What a number holds; none where it holds no object (R9, R231, R233, R234, R369). -/
def State.desc? (s : State) (num : Nat) : Option ODesc :=
  if isSlot num then some ⟨.u8, false, 1, flagBits (s.groupOf num 0).isSome false false false false false,
    deviceRights 0x1F 0x1E false, false, false, 0, 255, 0xFFFF⟩
  else
    match s.param? num with
    | some p => some ⟨Ty.ofCode (p.ty % 128), paramIsArray p.ty, p.words,
        p.flags % 4 + (if p.flags.testBit 2 then 32 else 0), p.rights % 32768, false, false,
        paramValue p.ty p.min, paramValue p.ty p.max, p.piece⟩
    | none =>
      match Obj.desc? num with
      | some d => some (s.descDevice num d false)
      | none =>
        if isSnap num then (Obj.desc? (num - 0x10000)).map (fun d => s.descDevice num d true) else none

/-! ## Rights (R237, R397) -/

/-- A role's right of a kind: 0 read, 1 write, 2 subscribe. -/
def ODesc.grants (d : ODesc) (kind role : Nat) : Bool := decide (role < 5) && d.rights.testBit (5 * kind + role)

/-- The object carries PUBLIC. -/
def ODesc.pub (d : ODesc) : Bool := d.flags.testBit 5

/-- A reader may read (kind 0) or subscribe (kind 2): a stranger only what is PUBLIC and grants VIEWER the same. -/
def ODesc.may (d : ODesc) (kind : Nat) (role : Option Nat) : Bool :=
  match role with
  | some r => d.grants kind r
  | none => d.pub && d.grants kind 0

/-- The object is BASTED. -/
def ODesc.basted (d : ODesc) : Bool := d.flags.testBit 0

/-! ## Sampling a value (R246) -/

/-- What GPIO_IN reports: a driven pin its level, and any other the level the world gives it (R325, R389). -/
def State.gpioIn (s : State) : Nat × State :=
  let (v, t) := s.fresh
  let driven := if s.nat Obj.imageVerified = 1 then s.nat Obj.gpioDir else 0
  (((v % 65536) ^^^ ((v % 65536) &&& driven)) ||| (s.nat Obj.gpioOut &&& driven), t)

/-- JOURNAL_STATE: a batch that has ended and is not complete in flash yet is being written, 2 WRITING (R252, R257). -/
def State.journalNow (s : State) : Nat :=
  let v := s.nat Obj.journalState
  if v = 1 && decide (s.dict.journal.began + 1000 * msPs ≤ s.now) then 2 else v

/-- The value of an element as a read finds it, where the subsystem makes it at the read. Reading SER_M_STATUS ends the
core's interrupt (R300). -/
def State.sample (s : State) (num i : Nat) : Int × State :=
  if num = Obj.tbNow then (Int.ofNat s.tbNs, s)
  else if num = Obj.rtcNow then (Int.ofNat s.rtcNow, s)
  else if num = Obj.trialLeft then (Int.ofNat s.trialLeft, s)
  else if num = Obj.journalState then (Int.ofNat s.journalNow, s)
  else if num = Obj.irqStatus then (Int.ofNat s.irqStatus, s)
  else if num = Obj.gpioIn then (Int.ofNat s.gpioIn.1, s.gpioIn.2)
  else if num = Obj.serMStatus then (s.obj num i, s.modSer (fun p => { p with irq := p.irq.filter (· != i) }))
  else (s.obj num i, s)

/-- The bytes of a STR or BLOB as a read finds them. -/
def State.sampleBlob (s : State) (num : Nat) : List Byte :=
  if num = Obj.oscMapEntry then look (fun _ => List.replicate 72 0) s.ven.map (s.nat Obj.oscMapSel) else s.blob num

/-- Encode elements first to first + count − 1. -/
def State.encodeElems (s : State) (d : ODesc) (num first : Nat) (committed : Bool) : Nat → List Byte × State
  | 0 => ([], s)
  | k + 1 =>
    let (v, t) := if committed && (d.basted || (s.groupOf num first).isSome) then (s.committedVal num first, s) else s.sample num first
    let (l, u) := t.encodeElems d num (first + 1) committed k
    (d.ty.encode v ++ l, u)

/-- The encoded value of an object a reader may read (R246, R265, R397). -/
def State.encodeValue (s : State) (d : ODesc) (num first count : Nat) (committed : Bool) : List Byte × State :=
  if d.wo then (List.replicate (d.ty.size * count) 0, s)
  else if d.ty.isBytes then (s.sampleBlob num, s)
  else s.encodeElems d num first committed count

/-- The element count of a whole value. -/
def ODesc.elems (d : ODesc) : Nat := if d.ty.isBytes then 1 else d.n

/-- Operations a value counts as (R256). -/
def ODesc.ops (d : ODesc) (count len : Nat) : Nat :=
  if d.arr then count else if d.ty.isBytes || d.ty == .time then max 1 (ceilDiv len 8) else 1

/-- Count operations (R256). -/
def State.countOps (s : State) (k : Nat) : State := s.bump Obj.dictOpsHem 0 k

/-- The TYPE byte of an entry. -/
def ODesc.code (d : ODesc) : Nat := d.ty.code + if d.arr then 0x80 else 0

/-! ## Entries and ranges (R231, R232, R249, R265) -/

/-- Bytes up to the next multiple of 4. -/
def padTo4 (n : Nat) : List Byte := List.replicate ((4 - n % 4) % 4) 0

/-- An entry with a value. -/
def entryOf (status ty : Nat) (v : List Byte) : List Byte :=
  [BitVec.ofNat 8 status, BitVec.ofNat 8 ty] ++ leBytes 2 v.length ++ v ++ padTo4 v.length

/-- An entry with no value. -/
def entryNone (status : Nat) : List Byte := [BitVec.ofNat 8 status, 0xFF, 0, 0]

/-- The last number of the range that holds a number (R231, R232). -/
def rangeEnd (num : Nat) : Nat :=
  if num < 0x3000 then num / 4096 * 4096 + 4095
  else if num < 0x4000 then 0x3FFF
  else if num < 0x6000 then 0x5FFF
  else if num < 0x8000 then 0x7FFF
  else if num < 0xC000 then num / 4096 * 4096 + 4095
  else if num < 0xE000 then 0xDFFF
  else if num < 0x10000 then num / 4096 * 4096 + 4095
  else if num < 0x20000 then 0x1FFFF
  else if num < 0x100000 then 0xFFFFF
  else if num < 0x200000 then 0x1FFFFF
  else if num < 0x1000000 then 0xFFFFFF
  else 0x1FFFFFF

/-! ## Descriptors (R235, R267) -/

/-- The name of a parameter, from its pattern's strings. -/
def State.paramName (s : State) (p : Param) : List Byte :=
  match s.last.pat with
  | none => []
  | some pat => ((lookAll (fun _ => 0) pat.bytes (pat.strings + p.name) 32).takeWhile (· != 0)).take 31

/-- NAME of an object's extension. -/
def State.nameOf (s : State) (num : Nat) : List Byte :=
  if isSlot num then ascii "SLOT#"
  else
    match s.param? num with
    | some p => s.paramName p
    | none => if (Obj.desc? num).isSome then Obj.name num else Obj.name (num - 0x10000)

/-- A field the spec leaves to the part: stable while the object is defined. -/
def State.descField (s : State) (num which : Nat) : Nat :=
  Config.descField num which (if (s.param? num).isSome then s.last.startedAt + 1 else 0)

/-- The object's values stand in the heap. -/
def ODesc.inHeap (d : ODesc) : Bool := d.arr || d.ty.isBytes || d.ty == .time

/-- VALUE, COMMITTED and DEFAULT as a record holds them: a scalar extended by its type, or a heap reference with the length
of the value. -/
def State.recordWord (s : State) (d : ODesc) (num which : Nat) (v : Int) (len : Nat) : List Byte :=
  if d.inHeap then leBytes 4 (s.descField num which) ++ leBytes 2 len ++ [0, 0] else leBytes 8 (v % 2 ^ 64).toNat

/-- The length of the object's current value in bytes; a write-only one reads as zeros of its size (R397). -/
def State.valueLen (s : State) (d : ODesc) (num : Nat) : Nat :=
  if d.ty.isBytes && d.wo then 0
  else if d.ty.isBytes then (s.sampleBlob num).length else d.ty.size * d.n

/-- The length of its default in bytes. -/
def State.dfltLen (d : ODesc) (num : Nat) : Nat := if d.ty.isBytes then (Obj.blobDflt num).length else d.ty.size * d.n

/-- The default of a scalar. -/
def State.dfltOf (s : State) (num : Nat) : Int :=
  match s.param? num, s.last.pat with
  | some q, some p => p.paramDflt q 0
  | _, _ => Obj.dflt s.e16 num 0

/-- The range that R230 states for an object of the timebase: TB_LOCK_NS reaches up to TB_STEP_NS. -/
def State.tbRange (s : State) (num : Nat) : Option (Int × Int) :=
  if num = Obj.tbLockNs then some (10, s.obj Obj.tbStepNs) else (tbLimits.find? (fun r => r.1 == num)).map (·.2)

/-- MIN or MAX as a descriptor shows it: stated for parameters, slots and device objects whose tables give a range, and the
part's own for the other device objects. -/
def State.limitOf (s : State) (d : ODesc) (num which : Nat) (v : Int) : List Byte :=
  if d.ty.isBytes || d.ty == .time then List.replicate 8 0
  else if let some (lo, hi) := s.tbRange num then leBytes 8 ((if which = 1 then lo else hi) % 2 ^ 64).toNat
  else if (s.param? num).isSome || isSlot num || (Obj.limits s.e16 num).isSome then leBytes 8 (v % 2 ^ 64).toNat
  else leBytes 8 (s.descField num which)

/-- The unit code of an object. -/
def State.unitOf (s : State) (num : Nat) : Nat :=
  if isSlot num then 0 else match s.param? num with
    | some p => p.unit
    | none => s.descField num 0

/-- The 32-byte record and the 64-byte extension (R235, R267); `readable` is the reader's read right. -/
def State.descriptor (s : State) (d : ODesc) (num : Nat) (readable : Bool) : List Byte × State :=
  let (v, t) := if d.wo || d.inHeap then (0, s) else s.sample num 0
  let len := s.valueLen d num
  let value := if readable then s.recordWord d num 4 v len else List.replicate 8 0
  let committed := if readable then (if d.basted then s.recordWord d num 5 (s.committedVal num 0) len else value) else List.replicate 8 0
  let head := [BitVec.ofNat 8 d.code, BitVec.ofNat 8 d.flags] ++ leBytes 2 d.rights ++ leBytes 2 (s.unitOf num) ++
    [BitVec.ofNat 8 (s.policy num), BitVec.ofNat 8 (s.holderPrio num)] ++ leBytes 4 (s.descField num 3) ++ leBytes 2 d.piece
  let name := s.nameOf num
  let ext := name ++ List.replicate (32 - name.length) 0 ++ s.recordWord d num 6 (s.dfltOf num) (State.dfltLen d num) ++
    s.limitOf d num 1 d.lo ++ s.limitOf d num 2 d.hi ++
    leBytes 2 (if d.arr || d.ty.isBytes then d.n else 0) ++ [0, 0, 0, 0]
  (head ++ leBytes 2 (crc16 (head ++ value ++ committed)) ++ value ++ committed ++ ext ++ leBytes 2 (crc16 ext), t)

/-- The 32 bytes of a number's record in the descriptor region; of one that holds no object, TYPE 0xFF and zeros (R24, R235). -/
def State.recordBytes (s : State) (num : Nat) : List Byte × State :=
  match s.desc? num with
  | some d => let (l, t) := s.descriptor d num true; (l.take 32, t)
  | none => (0xFF :: List.replicate 31 0, s)

/-! ## Damaged records (R241, R242) -/

/-- The word of a parameter's element in its active page; its committed value where no copy is placed. -/
def State.pageValue (s : State) (p : Param) (num k : Nat) : Int :=
  match s.paramPlaces p with
  | (n, b, off) :: _ => paramValue p.ty ((s.needle n).memWord b.y (b.act + off + k)).toNat
  | [] => s.committedVal num k

/-- A word that cannot be read is rewritten as 0 in its active page (R115). -/
def State.zeroPageWord (s : State) (p : Param) (k : Nat) : State :=
  (s.paramPlaces p).foldl (fun s q => s.modNeedle q.1 (fun nd => nd.setPage q.2.1.y (q.2.1.act + q.2.2 + k) 0)) s

/-- A parameter's values are rebuilt (R115, R242). -/
def State.rebuildParam (s : State) (p : Param) (num : Nat) (ok : Bool) : State :=
  let basted := p.flags.testBit 0
  let s1 := (List.range p.words).foldl (fun s k =>
    let v := if ok then s.pageValue p num k else 0
    let s := (if ok then s else s.zeroPageWord p k).setObj num k v
    if basted then s.setCommitted (objKey num k) v else s) s
  let s2 := if basted then s1.log 0x51 num else s1
  if ok then s2 else s2.log 0x13 num

/-- A slot's value is rebuilt from the active slot bank and the merge state (R242). -/
def State.rebuildSlot (s : State) (num : Nat) (ok : Bool) : State :=
  let basted := (s.groupOf num 0).isSome
  let v := if !ok then 0
    else if (s.policy num = 2 || s.policy num = 3) && (s.tackOn num).isNone then s.mergedVal num
    else s.committedVal num 0
  let s1 := s.setObj num 0 v
  let s2 := if basted then s1.log 0x51 num else s1
  if ok then s2 else s2.log 0x52 num

/-- A device object's value is its subsystem's; the shadow of a basted stream gain takes the active value (R242). -/
def State.rebuildGain (s : State) (num : Nat) : State :=
  let l := (List.range 1024).filter (fun i => (gainGroup num i).isSome && (s.groupOf num i).isSome)
  if l.isEmpty then s else (l.foldl (fun s i => s.setObj num i (s.committedVal num i)) s).log 0x51 num

/-- A record is rebuilt: counted, logged, and its value taken from its source of truth (R242). -/
def State.rebuild (s : State) (num : Nat) (ok : Bool) : State :=
  if (s.desc? num).isNone then s
  else
    let s1 := (s.bump Obj.dictCrcHem).log 0x50 num
    if isSlot num then s1.rebuildSlot num ok
    else
      match s1.param? num with
      | some p => s1.rebuildParam p num ok
      | none => s1.rebuildGain num

/-- What the dictionary engine's store met (R241, R242, R256, R257). -/
def State.applyRep (s : State) (r : DictRep) : State :=
  let s1 := ((s.bump Obj.dictCacheHitHem 0 r.hits).bump Obj.dictCacheMissHem 0 r.misses).raise Obj.dictLatMax 0 r.lat
  r.bad.foldl (fun s e => s.rebuild e.1.toNat e.2) s1

/-! ## The journal's batch (R252) -/

/-- Change the journal's inner state. -/
def State.modJournal (s : State) (f : Journal → Journal) : State := s.modDict (fun d => { d with journal := f d.journal })

/-- A PERSIST value has changed: the first one starts a batch of 1 s (R252). -/
def State.markDirty (s : State) (num : Nat) : State :=
  let j := s.dict.journal
  if j.fault || j.dirty.contains num then s
  else
    let s1 := s.modJournal (fun j => { j with dirty := j.dirty ++ [num], began := if j.dirty.isEmpty then s.now else j.began })
    if j.dirty.isEmpty then s1.setNat Obj.journalState 0 1 else s1

/-- A PERSIST value has changed since an earlier state: the shadow of an object or of an element that is not basted, whose
committed value the journal keeps (R96, R252). -/
def State.persistChanged (s before : State) (num : Nat) : Bool :=
  (s.desc? num).any (fun d => d.flags.testBit 1 && look (fun _ => 0) s.chg num != look (fun _ => 0) before.chg num &&
    (!d.basted || ((gainGroup num 0).isSome &&
      (List.range d.n).any (fun i => (s.groupOf num i).isNone && s.obj num i != before.obj num i))))

end Sys2Proof.Machine
end

