-- ==== Sys2Proof/Machine/Subs.lean ====
section
/-!
DEFINITION. Subscriptions and NOTIFY (R254, R261, R265, R266), the notification rings of the control cores (R255), and how
messages leave the part (R258, R274).
-/

namespace Sys2Proof.Machine

/-! ## Sending -/

/-- A message's 24-byte header (R260). -/
def msgHeader (magic version flags session seq op status count object length first : Nat) : List Byte :=
  beLen 2 magic ++ leBytes 1 version ++ leBytes 1 flags ++ leBytes 4 session ++ leBytes 4 seq ++ leBytes 1 op ++ leBytes 1 status ++
    leBytes 2 count ++ leBytes 4 object ++ leBytes 2 length ++ leBytes 2 first

/-- The header of a message the part sends. -/
def Reply.header (r : Reply) : List Byte :=
  msgHeader 0x5552 1 r.flags r.session r.seq r.opcode r.status r.count r.object r.payload.length r.first

/-- The IV of a message (R263). -/
def msgIv (salt : List Byte) (seq op : Nat) : List Byte := salt ++ leBytes 4 seq ++ leBytes 1 op ++ [0, 0, 0]

/-- The bytes of a message the part sends: protected under a session's keys, in clear with a zero tag in a handshake (R263). -/
def Reply.seal (r : Reply) (keys : Option Keys) : Reply :=
  match keys with
  | none => { r with raw := r.header ++ r.payload ++ List.replicate 16 0 }
  | some k =>
    let (ct, tag) := gcmSeal k.toClient (msgIv k.deviceSalt r.seq r.opcode) r.header r.payload
    { r with raw := r.header ++ ct ++ tag }

/-- What is left of a datagram, in fragments of 1 480 bytes. -/
def restFragments : Nat → List Byte → List (List Byte)
  | 0, _ => []
  | n + 1, l => if l.isEmpty then [] else l.take 1480 :: restFragments n (l.drop 1480)

/-- A datagram's UDP payload in the fragments it is sent in: one up to 1 472 bytes (R259). -/
def fragments (l : List Byte) : List (List Byte) := l.take 1472 :: restFragments l.length (l.drop 1472)

/-- Send a message by its transport: over IP at once, over the serial port through the session's queue (R258, R274, R291, R292). -/
def State.send (s : State) (isNotify : Bool) (r : Reply) : State :=
  if r.via = 4 then s.serialPush isNotify r
  else if s.offSegment r.via r.ip then s
  else s.queueNet r.via (some 2) (.ursin r.ip r.udp r (fragments r.raw))

/-- The live session of an id. -/
def State.session? (s : State) (id : Nat) : Option Session := s.ursin.sessions.find? (fun x => x.id == id)

/-- Change a live session. -/
def State.modSession (s : State) (id : Nat) (f : Session → Session) : State :=
  { s with ursin := { s.ursin with sessions := s.ursin.sessions.map (fun x => if x.id = id then f x else x) } }

/-! ## What a NOTIFY carries (R254) -/

/-- The role a source's subscriptions are checked at: a session's own, SERVICE for a core (R20). -/
def State.roleOf (s : State) (src : Src) : Option Nat :=
  match src with
  | .session id => (s.session? id).bind (·.role)
  | .core _ => some 3
  | _ => none

/-- Objects whose value is compared at the boundary with the value last notified (R254): LIVE, COUNTER and SNAPSHOT
objects, and those whose value is made at the read. -/
def sampled (num : Nat) (d : ODesc) : Bool :=
  d.flags.testBit 2 || d.flags.testBit 3 || d.flags.testBit 4 || num == Obj.tbNow || num == Obj.rtcNow || num == Obj.trialLeft
    || num == Obj.oscMapEntry || num == Obj.journalState

/-- One object a NOTIFY carries: its number, its status, and its descriptor and encoded value where it is defined. -/
structure Notified where
  num : Nat
  status : Nat
  d : Option ODesc
  value : List Byte
  deriving DecidableEq, Repr

/-- The value last notified of an object. -/
def Sub.lastSeen (b : Sub) (num : Nat) : Option (List Int) := (b.seen.find? (fun e => e.1 == num)).map (·.2)

/-- Bytes as numbers, for the record of values notified. -/
def byteInts (l : List Byte) : List Int := l.map (fun b => Int.ofNat b.toNat)

/-- An object changed since a subscription's latest notification; of a broken tack's numbers those that hold an object (R273). -/
def State.changedFor (s : State) (b : Sub) (num : Nat) (d : Option ODesc) (value : List Byte) : Bool :=
  decide (b.last < look (fun _ => 0) s.chg num)
    || (d.isSome && s.dict.broken.any (fun r => decide (r.1 ≤ num) && decide (num ≤ r.2.1) && decide (b.last < r.2.2)))
    || d.any (fun d => sampled num d && b.lastSeen num != some (byteInts value))

/-- The entry of one number, if the NOTIFY carries it; `first` is the initial image (R254, R273). -/
def State.notifyOne (s : State) (b : Sub) (initial : Bool) (num : Nat) : Option Notified × State :=
  match s.desc? num with
  | none => (if !initial && s.changedFor b num none [] then some ⟨num, St.notPresent, none, []⟩ else none, s)
  | some d =>
    if !d.may 2 (s.roleOf b.src) then (none, s)
    else
      let (v, t) := s.encodeValue d num 0 d.elems false
      let broken := s.dict.broken.any (fun r => decide (r.1 ≤ num) && decide (num ≤ r.2.1) && decide (b.last < r.2.2))
      if initial || s.changedFor b num (some d) v then (some ⟨num, if broken && !initial then St.broken else St.ok, some d, v⟩, t)
      else (none, t)

/-- What the NOTIFY of a boundary carries. -/
def State.notifyAll (s : State) (b : Sub) (initial : Bool) : Nat → Nat → List Notified × State
  | _, 0 => ([], s)
  | num, k + 1 =>
    let (e, t) := s.notifyOne b initial num
    let (l, u) := t.notifyAll b initial (num + 1) k
    (e.toList ++ l, u)

/-- NUMBER and entry of one object: an entry of status other than OK carries no value (R265). -/
def Notified.bytes (e : Notified) : List Byte :=
  leBytes 4 e.num ++ (match e.d with
    | some d => if e.status = St.ok then entryOf St.ok d.code e.value else entryNone e.status
    | none => entryNone e.status)

/-- The parts of a NOTIFY, split at entry boundaries: each with its entries' count and bytes (R266). -/
def splitParts : List (List Byte) → Nat × List Byte → List (Nat × List Byte)
  | [], acc => if acc.1 = 0 then [] else [acc]
  | e :: t, (k, l) =>
    if k = 0 || decide (l.length + e.length ≤ 8152) then splitParts t (k + 1, l ++ e) else (k, l) :: splitParts t (1, e)

/-- Send the parts of a NOTIFY to a session, each under the next number of its own counter, up to its last number (R264). -/
def State.sendParts (s : State) (id : Nat) : List (Nat × List Byte) → State
  | [] => s
  | (k, l) :: t =>
    match s.session? id with
    | none => s
    | some x =>
      if 0xFFFFFFFF < x.notify then s
      else
        let r : Reply := ⟨x.via, x.ip, x.udp, id, x.notify, 0x22, if t.isEmpty then 1 else 3, St.ok, k, 0, 0, l, []⟩
        ((s.modSession id (fun x => { x with notify := x.notify + 1 })).send true (r.seal (some x.keys))).sendParts id t

/-! ## The rings of the control cores (R255) -/

/-- VALUE of a ring entry, as an object-window load returns the object (R21, R255). -/
def ringValue (d : Option ODesc) (v : List Byte) : List Byte :=
  match d with
  | some d => if d.inHeap then List.replicate 8 0 else leBytes 8 (d.ty.decode v % 2 ^ 64).toNat
  | none => List.replicate 8 0

/-- Write one entry into core n's ring, or drop it. -/
def State.ringPush (s : State) (n : Nat) (e : Notified) : State :=
  let head := s.nat (Obj.dictCcRingHead0 + n)
  let tail := s.nat (Obj.dictCcRingTail0 + n)
  let len := s.nat (Obj.dictCcRingLen0 + n)
  if len < (head + 2 ^ 32 - tail) % 2 ^ 32 + 1 then s.bump Obj.dictCcDropHem n
  else
    let flags := if e.d.isNone then 2 ^ 31 else if e.d.any (·.inHeap) then 2 ^ 30 else 0
    (s.setPmBytes (s.nat (Obj.dictCcRingBase0 + n) + 16 * (head % max len 1))
      (leBytes 4 (e.num + flags) ++ [0, 0, 0, 0] ++ ringValue e.d e.value)).setNat (Obj.dictCcRingHead0 + n) 0 ((head + 1) % 2 ^ 32)

/-! ## Notifying -/

/-- Breaks every subscription has been told of are forgotten. -/
def State.pruneBroken (s : State) : State :=
  s.modDict (fun d => { d with broken := d.broken.filter (fun r => d.subs.any (fun b => decide (b.last < r.2.2))) })

/-- A boundary of an interval of ms milliseconds, counted from an acceptance, has come since the time told (R254). -/
def boundaryPassed (accepted told ms now : Nat) : Bool :=
  decide ((told - accepted) / (max ms 1 * msPs) < (now - accepted) / (max ms 1 * msPs))

/-- A boundary of the subscription's interval has come since its latest NOTIFY (R254). -/
def Sub.due (b : Sub) (now : Nat) : Bool := boundaryPassed b.at_ b.told b.ms now

/-- The subscription of a source with a first number and a count. -/
def Sub.is (b : Sub) (src : Src) (first count : Nat) : Bool := b.src == src && b.first == first && b.count == count

/-- A boundary of a subscription: one NOTIFY carries what changed; each object counts as one operation (R254, R256). -/
def State.notify (s : State) (b : Sub) (initial : Bool) : State :=
  let mark := s.chgSeq
  let (l, s1) := s.notifyAll b initial b.first b.count
  let seen := (l.filterMap (fun e => e.d.bind (fun d => if sampled e.num d then some (e.num, byteInts e.value) else none)))
  let old := b.seen.filter (fun e => !(l.any (fun x => x.num == e.1)))
  let s2 := (s1.modDict (fun d => { d with subs := d.subs.map (fun x =>
    if x.is b.src b.first b.count then { x with last := mark, told := s.now, seen := old ++ seen } else x) })).countOps l.length
  (match b.src with
    | .session id => s2.sendParts id (splitParts (l.map Notified.bytes) (0, []))
    | .core n => l.foldl (fun s e => s.ringPush n e) s2
    | _ => s2).pruneBroken

/-! ## Subscribing -/

/-- The checks of a subscription (R254, R255): the interval, one range, and the limits. -/
def State.subCheck (s : State) (src : Src) (first count ms : Nat) : Nat :=
  if ms = 0 || decide (60000 < ms) || decide (rangeEnd first < first + count - 1) then St.range
  else if s.dict.subs.any (fun b => b.is src first count) then St.ok
  else if decide (65536 ≤ s.subsUsed) || decide (4096 ≤ (s.dict.subs.filter (fun b => b.src == src)).length) then St.subFull
  else St.ok

/-- An accepted subscription takes the place of one with the same numbers, and its initial image goes out. -/
def State.subscribe (s : State) (src : Src) (first count ms : Nat) : State :=
  let b : Sub := ⟨src, first, count, ms, s.now, s.chgSeq, s.now, []⟩
  let s1 := s.modDict (fun d => { d with subs := d.subs.filter (fun x => !x.is src first count) ++ [b] })
  s1.showSubs.notify b true

/-- A subscription ends; none with these numbers is NOT_PRESENT. -/
def State.unsubscribe (s : State) (src : Src) (first count : Nat) : Nat × State :=
  if s.dict.subs.any (fun b => b.is src first count) then
    (St.ok, (s.modDict (fun d => { d with subs := d.subs.filter (fun x => !x.is src first count) })).showSubs)
  else (St.notPresent, s)

/-- Every subscription of a source ends. -/
def State.endSubs (s : State) (src : Src) : State :=
  (s.modDict (fun d => { d with subs := d.subs.filter (fun x => x.src != src) })).showSubs.pruneBroken

/-! ## DICT_CC_SUBn (R255, R257) -/

/-- FIRST, COUNT and INTERVAL of a DICT_CC_SUBn word. -/
def subWord (v : Nat) : Nat × Nat × Nat := (bits v 24 0, bits v 34 25 + 1, bits v 50 35)

/-- The check of core n's write. -/
def State.ccSubCheck (s : State) (n v : Nat) : Nat :=
  let (first, count, ms) := subWord v
  if v.testBit 63 then (if s.dict.subs.any (fun b => b.is (.core n) first count) then St.ok else St.notPresent)
  else s.subCheck (.core n) first count ms

/-- An accepted write of DICT_CC_SUBn. -/
def State.ccSub (s : State) (n v : Nat) : State :=
  let (first, count, ms) := subWord v
  if v.testBit 63 then (s.unsubscribe (.core n) first count).2 else s.subscribe (.core n) first count ms

end Sys2Proof.Machine
end

