-- ==== Sys2Proof/Machine/Sessions.lean ====
section
/-!
DEFINITION. Sessions and handshakes (R264, R268–R270), tacks as they are taken, renewed and ended (R272, R273), and the
end of a debug session (R340, R342).
-/

namespace Sys2Proof.Machine

/-! ## Debug level and the end of a debug session -/

/-- DEBUG_LEVEL by the lifecycle state, the debug session and DEBUG_OPEN (R340): 0 CLOSED, 1 AUTH, 2 OPEN. -/
def State.debugLevelNow (s : State) : Nat :=
  let auth := if s.dbg.session.isSome then 1 else 0
  match s.nat Obj.lifecycle with
  | 1 => if s.dbg.opened then 2 else auth
  | 2 => auth
  | _ => 2

/-- Bring DEBUG_LEVEL up to date. -/
def State.showDebug (s : State) : State := s.setNat Obj.debugLevel 0 s.debugLevelNow

/-- The debug session ends: its keys are zeroized, breakpoints go, halted cores resume, and as a source it ends with its tacks broken for a reason
of R270 (R243, R342). -/
def State.endDebug (s : State) (reason : Nat) : State :=
  let s1 := State.setNat { s with dbg := { s.dbg with session := none, keys := ⟨[], [], [], []⟩, frames := 0, halted := [], breaks := [] } } Obj.dbgRole 0 0xFF
  ((s1.showDebug).endSource .debug).breakTacks .debug reason

/-! ## The end of a session (R270) -/

/-- A session's place in the SESS objects becomes free (R275). -/
def State.freeSlot (s : State) (i : Nat) : State :=
  (((s.setNat Obj.sessId i 0).setNat Obj.sessRole i 0xFF).setNat Obj.sessPrio i 0).setNat Obj.sessTransport i 0xFF

/-- A session ends for a reason: its subscriptions and contributions go, its tacks break, and a reply a
validation holds for it goes out no more (R243, R270, R273, R330). -/
def State.endSession (s : State) (id reason : Nat) : State :=
  match s.session? id with
  | none => s
  | some x =>
    let s1 : State := { s with ursin := { s.ursin with sessions := s.ursin.sessions.filter (fun y => y.id != id) } }
    let s2 := ((s1.endSubs (.session id)).endSource (.session id)).breakTacks (.session id) reason
    let s3 := ((s2.freeSlot x.slot).setNat Obj.sessUsed 0 s2.ursin.sessions.length).modBoot (fun b => { b with
      validating := match b.validating with
        | some (.reply r) => if r.session = id then some .none else some (.reply r)
        | h => h })
    if reason = 3 then s3.bump Obj.sessTimeoutHem else s3

/-- Every session ends (R270 reason 6). -/
def State.endSessions (s : State) : State := (s.ursin.sessions.map (·.id)).foldl (fun s id => s.endSession id 6) s

/-- SESS_TIMEOUT (R270): no message of the session has passed R262 for SESS_TIMEOUT. -/
def execSessTimeout (dt : Nat) (id : BitVec 32) (s : State) : Host.Outcome State Fault Refusal :=
  whenRunning dt s (fun s =>
    match s.session? id.toNat with
    | some x => if x.at_ + s.nat Obj.sessTimeout * msPs ≤ s.now then s.endSession id.toNat 3 else s
    | none => s)

/-- HANDSHAKE_TIMEOUT (R268): a handshake not complete within 2 s of its HELLO is discarded and counted. -/
def execHandshakeTimeout (dt : Nat) (id : BitVec 32) (s : State) : Host.Outcome State Fault Refusal :=
  whenRunning dt s (fun s =>
    if s.ursin.hands.any (fun h => h.id == id.toNat && decide (h.at_ + 2000 * msPs ≤ s.now)) then
      State.bump { s with ursin := { s.ursin with hands := s.ursin.hands.filter (fun h => h.id != id.toNat) } } Obj.handshakeFailHem
    else s)

/-- REASSEMBLY_TIMEOUT (R259): a reassembly open for 100 ms is discarded and counted. -/
def execReassemblyTimeout (dt id : Nat) (s : State) : Host.Outcome State Fault Refusal :=
  whenRunning dt s (fun s =>
    if s.ursin.frags.any (fun f => f.1 == id && decide (f.2 + 100 * msPs ≤ s.now)) then
      State.bump { s with ursin := { s.ursin with frags := s.ursin.frags.filter (fun f => f.1 != id) } } Obj.ursinDropHem
    else s)

/-- A session whose NOTIFY counter would pass 0xFFFF_FFFF ends with reason RESET (R264). -/
def State.endSpent (s : State) (id : Nat) : State :=
  if (s.session? id).any (fun x => decide (0xFFFFFFFF < x.notify)) then s.endSession id 2 else s

/-- NOTIFY (R254): an interval boundary of a subscription. -/
def execNotify (dt : Nat) (src : Src) (first : BitVec 25) (count : Nat) (s : State) : Host.Outcome State Fault Refusal :=
  whenRunning dt s (fun s =>
    match s.dict.subs.find? (fun b => b.is src first.toNat count) with
    | none => s
    | some b =>
      let s1 := if b.due s.now then s.notify b false else s
      match src with
      | .session id => s1.endSpent id
      | _ => s1)

/-! ## Identifiers the part draws -/

/-- The v-th number from 1 to lim that is not in use, counted round. -/
def unusedFrom (used : List Nat) (lim : Nat) : Nat → Nat → Nat
  | _, 0 => 1
  | v, k + 1 =>
    let c := v % lim + 1
    if used.contains c then unusedFrom used lim (v + 1) k else c

/-- A random number from 1 to lim not in use. -/
def State.drawId (s : State) (used : List Nat) (lim : Nat) : Nat × State :=
  let (v, t) := s.fresh
  (unusedFrom used lim v (used.length + 1), t)

/-! ## Tacks (R272) -/

/-- The first defined number from lo on, among n, that a role may not write. -/
def State.noRightIn (s : State) (role : Nat) (lo : Nat) : Nat → Option Nat
  | 0 => none
  | n + 1 => if (s.desc? lo).any (fun d => !d.grants 1 role) then some lo else s.noRightIn role (lo + 1) n

/-- The first status that applies to a tack of lo to hi with a lease in ms, and the number NO_RIGHT names (R272). -/
def State.tackCheck (s : State) (src : Src) (role : Option Nat) (lo hi lease : Nat) : Nat × Nat :=
  match role with
  | none => (St.noRight, lo)
  | some r =>
    match s.noRightIn r lo (hi + 1 - lo) with
    | some n => (St.noRight, n)
    | none =>
      let meets (t : Tack) : Bool := decide (t.lo ≤ hi) && decide (lo ≤ t.hi)
      if hi < lo || decide (rangeEnd lo < hi) || decide (262144 < hi + 1 - lo) || decide (lease < 50) || decide (60000 < lease) then
        (St.range, 0)
      else if s.dict.tacks.any (fun t => meets t && t.src == src) then (St.tackOverlap, 0)
      else if s.dict.tacks.any meets then (St.tacked, 0)
      else if decide (64 ≤ (s.dict.tacks.filter (fun t => t.src == src)).length) || decide (4096 ≤ s.dict.tacks.length) then
        (St.tackFull, 0)
      else (St.ok, 0)

/-- A tack is granted: its id, and the broken-tack record it is given, oldest first, which is then deleted (R273). -/
def State.grantTack (s : State) (src : Src) (lo hi lease : Nat) : Nat × Option TackRec × State :=
  let (id, s1) := s.drawId (s.dict.tacks.map (·.id)) 65535
  let live := s1.dict.records.filter (fun r => decide (s1.now < r.at_ + 60000 * msPs))
  let rec_ := live.find? (fun r => decide (r.lo ≤ hi) && decide (lo ≤ r.hi))
  let t : Tack := ⟨id, src, lo, hi, s1.now + lease * msPs⟩
  let s2 := s1.modDict (fun d => { d with
    tacks := d.tacks ++ [t]
    records := match rec_ with
      | some r => live.erase r
      | none => live })
  (id, rec_, s2.setNat Obj.tackUsed 0 s2.dict.tacks.length)

/-- A tack's lease runs anew. -/
def State.renewTack (s : State) (id lease : Nat) : State :=
  s.modDict (fun d => { d with tacks := d.tacks.map (fun t => if t.id = id then { t with expiry := s.now + lease * msPs } else t) })

/-- A broken-tack record's 16 bytes (R273). -/
def TackRec.bytes (r : TackRec) : List Byte :=
  leBytes 1 r.reason ++ leBytes 1 r.core ++ [0, 0] ++ leBytes 4 r.holder ++ leBytes 8 r.stitch

/-- The tack of a source with an id. -/
def State.tackOf (s : State) (src : Src) (id : Nat) : Option Tack := s.dict.tacks.find? (fun t => t.id == id && t.src == src)

/-- Operations of a TACK: one for each 512 numbers (R272). -/
def tackOps (lo hi : Nat) : Nat := max 1 (ceilDiv (hi + 1 - lo) 512)

/-! ## CC_TACK_GOn (R272, R275) -/

/-- The tack a core holds. -/
def State.coreTack (s : State) (n : Nat) : Option Tack := s.dict.tacks.find? (fun t => t.src == .core n)

/-- The check of a CC_TACK_GOn write: bit 31 UNTACK, [15:0] LEASE. -/
def State.ccTackCheck (s : State) (n v : Nat) : Nat :=
  let lo := s.nat (Obj.ccTackFirst0 + n)
  let hi := s.nat (Obj.ccTackLast0 + n)
  let lease := bits v 15 0
  if v.testBit 31 then (if (s.coreTack n).isSome then St.ok else St.tackNone)
  else
    match s.coreTack n with
    | some t =>
      if t.lo = lo && t.hi = hi then (if decide (lease < 50) || decide (60000 < lease) then St.range else St.ok) else St.tackOverlap
    | none => (s.tackCheck (.core n) (some 3) lo hi lease).1

/-- An accepted write of CC_TACK_GOn: end, renew or take the core's tack. -/
def State.ccTack (s : State) (n v : Nat) : State :=
  let lo := s.nat (Obj.ccTackFirst0 + n)
  let hi := s.nat (Obj.ccTackLast0 + n)
  match s.coreTack n with
  | some t => if v.testBit 31 then s.dropTack t else s.renewTack t.id (bits v 15 0)
  | none => ((s.grantTack (.core n) lo hi (bits v 15 0)).2.2).countOps (tackOps lo hi)

end Sys2Proof.Machine
end

