-- ==== Sys2Proof/Machine/Timebase.lean ====
section
/-!
DEFINITION. The timebase and clock synthesis (R208–R230): PTP, the timebase states, steps and slews, references, media
PLLs and clock outputs.
-/

namespace Sys2Proof.Machine

/-- Change the timebase's own variables. -/
def State.modTb (s : State) (f : Timebase → Timebase) : State := { s with tbs := f s.tbs }

/-- The nominal increment (R208). -/
def nominalInc : Nat := 8589934592
/-- ±16 ppm of the nominal increment: one step (R209). -/
def incStep : Nat := 137438
/-- ±500 ppm: the clamp (R209). -/
def incClamp : Nat := 4294967

/-! ## Clock outputs (R224–R228) -/

/-- An output's frequency in Hz, as a fraction (R224). -/
def State.clkHz (s : State) (i : Nat) : Nat × Nat :=
  let d := s.field Obj.clkCfg i 29 16
  if i < 4 then (2 * vcoHz (s.pllOf i), max d 1)
  else if i < 8 then (rateHz d, 1)
  else [(24000, 1001), (24, 1), (25, 1), (30000, 1001), (30, 1), (50, 1), (60000, 1001), (60, 1)].getD d (24, 1)

/-- A phase in units of 2⁻³² ns of timebase time: fine steps of VCO period / 64 of an MCK or WCK, nanoseconds of an FPULSE
(R227). -/
def State.clkShift (s : State) (i : Nat) (p : Int) : Int :=
  if 8 ≤ i then p * 2 ^ 32 else (p * Int.ofNat tbUnits).fdiv (64 * Int.ofNat (vcoHz (s.pllOf i)))

/-- Whole output periods between two timebase times (R225). -/
def State.clkPeriods (s : State) (i a b : Nat) : Nat :=
  let (n, d) := s.clkHz i
  b * n / (d * tbUnits) - a * n / (d * tbUnits)

/-- The phase a running output with the target given is at: it moves one fine step toward its target each period, and an
FPULSE the whole way at its next pulse (R227). -/
def State.phaseTo (s : State) (i : Nat) (aim : Int) : Int :=
  let from_ := s.tbs.phase.getD i 0
  let n := s.clkPeriods i (s.tbs.phaseAt.getD i 0) s.clk.tb
  if 8 ≤ i then (if n = 0 then from_ else aim)
  else if from_ ≤ aim then min aim (from_ + n) else max aim (from_ - n)

/-- An output's phase is p from now on. -/
def State.setPhase (s : State) (i : Nat) (p : Int) : State :=
  s.modTb (fun t => { t with phase := setAt t.phase i p, phaseAt := setAt t.phaseAt i s.clk.tb })

/-- The waveform of an output that starts with a strobe: its first rising edge is the first grid edge, shifted by its phase, at or
after the strobe's crossing (R210, R225). -/
def State.clkWave (s : State) (i : Nat) : ClkWave :=
  let (n, d) := s.clkHz i
  let sh := s.clkShift i (s.tbs.phase.getD i 0)
  let k := -((-(Int.ofNat s.clk.strobeTb - sh) * Int.ofNat n).fdiv (Int.ofNat (d * tbUnits)))
  ⟨n, d, ((k * Int.ofNat (d * tbUnits)).fdiv (Int.ofNat n) + sh).toNat, if 8 ≤ i then s.field Obj.clkCfg i 9 0 else 0⟩

/-- BACKUP of REF_STATUS. -/
def State.onBackup (s : State) : Bool := s.bit Obj.refStatus 0 4

/-- Output i may run (R225); none starts during the entry to STANDBY (R350). -/
def State.clkMayRun (s : State) (i : Nat) : Bool :=
  !s.pw.standby && s.bit Obj.clkCfg i 31 && s.tbs.locked && !s.onBackup && (decide (8 ≤ i) || s.pllLocked (s.pllOf i))

/-- CLK_STATE of an output that may not run: 0 OFF, 2 WAIT_LOCK, 3 GATED (R225, R226). -/
def State.clkIdle (s : State) (i : Nat) : Nat :=
  if !s.bit Obj.clkCfg i 31 then 0 else if !s.tbs.locked then 2 else 3

/-- Outputs that may no longer run stop; the others keep their state until a strobe. -/
def State.gateClocks (s : State) : State :=
  (List.range 10).foldl (fun s i =>
    if s.clkMayRun i then s
    else
      let t := s.setNat Obj.clkState i (s.clkIdle i)
      if s.nat Obj.clkState i = 1 || s.nat Obj.clkState i = 5 then t.emit (.clock i none) else t) s

/-- At a strobe every output that may run and does not starts, with CLK_PHASE applied at once (R225, R226, R228). -/
def State.startClocks (s : State) : State :=
  (List.range 10).foldl (fun s i =>
    let st := s.nat Obj.clkState i
    if !s.clkMayRun i then s.setNat Obj.clkState i (s.clkIdle i)
    else if st = 1 || st = 5 then s
    else
      let s1 := (s.setNat Obj.clkState i 1).setPhase i (s.obj Obj.clkPhase i)
      s1.emit (.clock i (some (s1.clkWave i)))) s

/-- At a step every running output completes its period and waits for the strobe (R228). -/
def State.restartClocks (s : State) : State :=
  (List.range 10).foldl (fun s i =>
    let st := s.nat Obj.clkState i
    if st = 1 || st = 5 then (s.setNat Obj.clkState i 4).emit (.clock i none) else s) s

/-- A PLL loses lock or its reference (R202, R226). -/
def State.losePll (s : State) (pll : Nat) : State :=
  let s1 := (s.setNat Obj.pllStatus pll 2).bump Obj.lockLostHem pll
  ((s1.log 0x05 pll).gateClocks).portsLosePll pll

/-! ## PTP_PPS_OUT (R229) -/

/-- PTP_PPS_OUT may run. -/
def State.ppsRuns (s : State) : Bool := (s.nat Obj.tbState == 2 || s.nat Obj.tbState == 3) && !s.onBackup

/-- PTP_PPS_OUT's level: high for 100 ms from each whole second, from the first at which it runs on. -/
def State.ppsOut (s : State) : Bool :=
  s.ppsRuns && decide (s.tbs.ppsFrom ≤ s.tbSec) && decide (s.tbNs % 1000000000 < 100000000)

/-- PTP_PPS_OUT (re)starts at the next whole second. -/
def State.ppsRestart (s : State) : State := s.modTb (fun t => { t with ppsFrom := s.tbSec + 1 })

/-- A change of the timebase's state or source: PTP_PPS_OUT that begins to run starts at the next whole second. -/
def State.ppsFollow (s : State) (f : State → State) : State :=
  let t := f s
  if !s.ppsRuns && t.ppsRuns then t.ppsRestart else t

/-! ## Timebase states (R214, R215, R219) -/

/-- LOCKED is entered: the follower's port state is 9 (R215, R229, R230). -/
def State.enterLocked (s : State) : State :=
  let s1 := (s.ppsFollow (fun s => s.setNat Obj.tbState 0 2)).modTb (fun t => { t with locked := true, agree := [], large := 0, slewing := false })
  let s2 := if s1.nat Obj.ptpPortState = 8 then s1.setNat Obj.ptpPortState 0 9 else s1
  s2.gateClocks

/-- Mean of the servo's latest frequency outputs. -/
def meanOf (l : List Nat) (d : Nat) : Nat := if l.isEmpty then d else l.sum / l.length

/-- Lock is lost: HOLDOVER, or FREE where media time has never existed (R215, R219). -/
def State.holdover (s : State) : State :=
  let st := s.nat Obj.tbState
  if st = 0 || st = 3 then s
  else
    let s1 := s.modTb (fun t => { t with
      agree := [], large := 0, slewing := false, target := meanOf t.outs t.target, stepDue := none, stepLocks := false, delayOk := false,
      sync := none, pair := none, req := none })
    if s.tbs.media.isSome then (s1.ppsFollow (fun s => s.setNat Obj.tbState 0 3)).bump Obj.holdoverHem
    else s1.setNat Obj.tbState 0 0

/-- The clock identity of the part: Shuttle A's MAC in EUI-64 form (R212). -/
def State.ownId (s : State) : Nat :=
  let mac := s.nat Obj.shMac % 2 ^ 48
  mac / 2 ^ 24 * 2 ^ 40 + 0xFFFE * 2 ^ 24 + mac % 2 ^ 24

/-- The clockClass announced (R212). -/
def State.ownClass (s : State) : Nat :=
  let pps := s.nat Obj.tbTimeSrc == 1
  if s.nat Obj.tbRole = 1 then 255
  else if pps && s.nat Obj.ptpPortState == 6 && s.nat Obj.tbState == 2 then 6
  else if pps && s.nat Obj.tbState == 3 && !s.bit Obj.refStatus 0 3 then 7
  else 248

/-- A data set in the order of comparison (R212; IEEE 1588-2019's default algorithm, PRESUMED). -/
def Foreign.rank (f : Foreign) : List Nat := [f.prio1, f.cls, f.accuracy, f.variance, f.prio2, f.id, f.steps]

/-- The part's own data set. -/
def State.ownRank (s : State) : List Nat :=
  [s.nat Obj.ptpPriority 0, s.ownClass, 0xFE, 0xFFFF, s.nat Obj.ptpPriority 1, s.ownId, 0]

/-- 2 to the power of a log interval, in ps. -/
def logPs (l : Int) : Nat := if l < 0 then 1000000000000 / 2 ^ l.natAbs else 1000000000000 * 2 ^ l.natAbs

/-- PTP_PROFILE's defaults: the domain and the three log intervals (R211). -/
def profileSet (p : Nat) : Nat × List Int := if p = 0 then (0, [(-3 : Int), 1, 0]) else (127, [(-3 : Int), -2, -3])

/-- PTP_PROFILE and PTP_DOMAIN of the safety routing table, in force until the journal has been restored (R314; DEDUCED, assumption
202). -/
def State.tablePtp (s : State) : Option (Nat × Nat) :=
  if s.safe.valid && !s.safe.journal then some (s.safeByte 0x1A, s.safeByte 0x1B) else none

/-- The PTP domain in force. -/
def State.ptpDomain (s : State) : Nat := ((s.tablePtp).map (·.2)).getD (s.nat Obj.ptpDomain)

/-- A log interval of PTP in force: 0 Sync, 1 Announce, 2 Delay_Req. -/
def State.ptpInterval (s : State) (i : Nat) : Int :=
  match s.tablePtp with
  | some (p, _) => (profileSet p).2.getD i 0
  | none => s.obj Obj.ptpIntervals i

/-- The announceReceiptTimeout in force. -/
def State.ptpTimeout (s : State) : Nat := if s.tablePtp.isSome then 3 else s.nat Obj.ptpAnnTimeout

/-- The announce receipt timeout in ps. -/
def State.announceTimeout (s : State) : Nat := s.ptpTimeout * logPs (s.ptpInterval 1)

/-- Two Announce messages within a span. -/
def Foreign.heardTwice (f : Foreign) (now span : Nat) : Bool :=
  match f.heard with
  | a :: b :: _ => decide (a ≤ b + span) && decide (now ≤ a + span)
  | _ => false

/-- The data set announced (R212): clockIdentity, priority1, clockClass, clockAccuracy, offsetScaledLogVariance, priority2,
steps removed and timeSource. -/
def State.ownSet (s : State) : List Nat :=
  [s.ownId, s.nat Obj.ptpPriority 0, s.ownClass, 0xFE, 0xFFFF, s.nat Obj.ptpPriority 1, 0, if s.nat Obj.tbTimeSrc = 1 then 0x20 else 0xA0]

/-- The best leader heard on a port, of those heard twice within a span. -/
def State.bestLeader (s : State) (port span : Nat) : Option Foreign :=
  (s.tbs.foreign.filter (fun f => f.port == port && f.heardTwice s.now span)).foldl (fun (b : Option Foreign) f =>
    match b with
    | none => some f
    | some x => if lexLt f.rank x.rank then some f else some x) none

/-- ACQUIRING is entered (R215). -/
def State.acquire (s : State) : State :=
  (s.setNat Obj.tbState 0 1).modTb (fun t => { t with agree := [], large := 0, slewing := false, ppsOk := false, offAt := s.now })

/-- No leader is in use. -/
def State.noLeader (s : State) : State := (s.setNat Obj.ptpLeader 0 0).setNat Obj.ptpLeaderClass 0 0

/-- The 9640 starts to lead (R215). -/
def State.lead (s : State) : State :=
  if s.nat Obj.ptpPortState = 6 then s
  else
    let following := s.nat Obj.ptpPortState = 8 || s.nat Obj.ptpPortState = 9
    let s0 := if following then s.holdover else s
    let s1 := (s0.setNat Obj.ptpPortState 0 6).noLeader
    if s1.nat Obj.tbTimeSrc = 0 then (if s1.nat Obj.tbState = 2 then s1 else s1.enterLocked)
    else if s1.nat Obj.tbState = 0 || s1.nat Obj.tbState = 3 then s1.acquire
    else s1

/-- The 9640 follows a leader (R215): another one than before takes it through HOLDOVER into ACQUIRING. -/
def State.follow (s : State) (f : Foreign) : State :=
  let following := s.nat Obj.ptpPortState = 8 || s.nat Obj.ptpPortState = 9
  let same := following && s.nat Obj.ptpLeader == f.id
  let s0 := if same then s else s.holdover
  let s1 := (s0.setNat Obj.ptpLeader 0 f.id).setNat Obj.ptpLeaderClass 0 f.cls
  if s1.nat Obj.tbState = 0 || s1.nat Obj.tbState = 3 then s1.acquire.setNat Obj.ptpPortState 0 8 else s1

/-- A better leader is selected while the part's own clockClass is 127 or less: IEEE 1588-2019 makes the port PASSIVE (PRESUMED),
and lock is lost (R215). -/
def State.passive (s : State) : State :=
  if s.nat Obj.ptpPortState = 7 then s else ((s.setNat Obj.ptpPortState 0 7).holdover).noLeader

/-- The best-leader decision on the active port (R212). -/
def State.selectLeader (s : State) : State :=
  let role := s.nat Obj.tbRole
  if role = 2 then s.lead
  else
    match s.bestLeader (s.nat Obj.ptpPortActive) (4 * logPs (s.ptpInterval 1)) with
    | none => s
    | some b =>
      if role = 1 then s.follow b
      else if lexLt s.ownRank b.rank then s.lead
      else if s.ownClass ≤ 127 then s.passive
      else s.follow b

/-- The active port's link is down. -/
def State.activeDown (s : State) : Bool := s.nat (shObj (s.nat Obj.ptpPortActive) Obj.shLink) == 0

/-- The PTP port moves to the other port (R220): to a leader the best-leader algorithm would select there, heard twice within
its timeout, or, while the 9640 leads, for its own link alone. -/
def State.failover (s : State) : Option State :=
  let other := 1 - s.nat Obj.ptpPortActive
  let role := s.nat Obj.tbRole
  let best := (s.bestLeader other s.announceTimeout).filter (fun b => role == 1 || (role == 0 && !lexLt s.ownRank b.rank))
  if !s.bit Obj.ptpPortCfg 0 1 || (best.isNone && !(s.nat Obj.ptpPortState == 6 && s.activeDown)) ||
      s.nat (shObj other Obj.shLink) = 0 then none
  else
    let s1 := ((s.holdover.setNat Obj.ptpPortActive 0 other).setNat Obj.ptpPortState 0 4).bump Obj.ptpFailoverHem
    let s2 := s1.modTb (fun t => { t with expired := false })
    some (match best with
      | some b => s2.follow b
      | none => s2.lead)

/-! ## Offsets (R213, R215, R216) -/

/-- Offsets agree within a span. -/
def agreeWithin (l : List Int) (n : Nat) : Bool :=
  match l.max?, l.min? with
  | some a, some b => decide (a - b ≤ Int.ofNat n)
  | _, _ => false

/-- A value clamped to ±2 147 483 647 (R230). -/
def clampOffset (v : Int) : Int := max (-2147483647) (min 2147483647 v)

/-- The increment a proportional-integral loop of damping 0.707 asks for at an offset in ns and its integral in ns · ns (R216). A
second-order loop of noise bandwidth B has the natural frequency 2 B / (ζ + 1 / 4ζ), here n / d rad/s, and the gains 2 ζ n / d and
(n / d)² (PRESUMED, assumption 37). -/
def servoOut (bw : Nat) (off integ : Int) : Int :=
  let n := Int.ofNat (bw * 56560)
  let d : Int := 2999396
  Int.ofNat nominalInc - (Int.ofNat nominalInc * (1414000000 * n * d * off + n * n * integ)).fdiv (d * d * 10 ^ 18)

/-- The servo's increment for an offset (R216), with its integral, which takes each offset times the span since the one before, but
not one at which the output lies beyond the clamp of R209 (DESIGN CHOICE, assumption 37). -/
def State.servo (s : State) (off : Int) : Int × Int :=
  let integ := s.tbs.integ + off * Int.ofNat ((s.now - s.tbs.offAt) / 1000)
  let w := servoOut (s.nat Obj.tbServoBw) off integ
  (w, if (w - Int.ofNat nominalInc).natAbs ≤ incClamp then integ else s.tbs.integ)

/-- One offset measurement (R215, R216): the limits of R209 apply to the servo's output as the increment takes it up. -/
def State.measure (s : State) (off : Int) : State :=
  let st := s.nat Obj.tbState
  let s0 := s.setObj Obj.tbOffset 0 (clampOffset off)
  if st ≠ 1 ∧ st ≠ 2 then s0
  else
    let (w, integ) := s0.servo off
    let v := w.toNat
    let big := decide (s.nat Obj.tbStepNs < off.natAbs)
    let near := decide (off.natAbs < s.nat Obj.tbLockNs)
    let s2 := s0.modTb (fun t => { t with
      integ := integ, offAt := s0.now, clamped := none, target := v, outs := (v :: t.outs).take 64, agree := (off :: t.agree).take 4, large := if big then t.large + 1 else 0 })
    let four := s2.tbs.agree.length == 4 && agreeWithin s2.tbs.agree (s.nat Obj.tbLockNs)
    if st = 2 then (if 4 ≤ s2.tbs.large then s2.holdover else s2)
    else if s2.tbs.stepDue.isSome then s2
    else if four && big then s2.modTb (fun t => { t with stepDue := some (-off * 2 ^ 32), stepLocks := true })
    else if (four || s2.tbs.slewing) && near then s2.enterLocked
    else if four then s2.modTb (fun t => { t with slewing := true })
    else if 4 ≤ s2.tbs.large then s2.holdover
    else s2

/-- The part follows on a port, and a message comes from its leader. -/
def State.fromLeader (s : State) (h : PtpHdr) (leader : Nat) : Bool :=
  (s.nat Obj.ptpPortState == 8 || s.nat Obj.ptpPortState == 9) && s.nat Obj.ptpPortActive == h.port.val && s.nat Obj.ptpLeader == leader

/-- A Sync exchange completes with t1 as corrected and t2 (R213, R215). -/
def State.exchange (s : State) (t1 t2 : Int) : State :=
  let s1 := s.modTb (fun t => { t with pair := some (t1, t2), sync := none })
  if s1.tbs.delayOk then s1.measure (t2 - t1 - Int.ofNat (s1.nat Obj.tbPathDelay)) else s1

/-- A PTP message is taken from the control queue with the timestamp of its arrival in ns (R213); one of another domain or
version is ignored and counted (R211). -/
def State.takePtp (s : State) (h : PtpHdr) (f : Nat → State → State) : State :=
  s.takeCtrl h.port.val .ptp (fun at_ s =>
    if h.version ≠ 2 || h.domain ≠ s.ptpDomain then s.bump Obj.ptpIgnoredHem else f at_ s)

/-- PTP_SYNC (R213, R215). -/
def execPtpSync (dt : Nat) (h : PtpHdr) (leader : BitVec 64) (seq : BitVec 16) (twoStep : Bool) (origin corr : Int)
    (s : State) : Host.Outcome State Fault Refusal :=
  whenRunning dt s (fun s => s.takePtp h (fun at_ s =>
    if !s.fromLeader h leader.toNat then s
    else
      let t2 := Int.ofNat at_
      let c := corr + s.obj Obj.ptpAsym h.port.val
      if twoStep then s.modTb (fun t => { t with sync := some (seq.toNat, t2, c) }) else s.exchange (origin + c) t2))

/-- PTP_FOLLOW_UP (R211, R213). -/
def execPtpFollowUp (dt : Nat) (h : PtpHdr) (leader : BitVec 64) (seq : BitVec 16) (origin corr : Int) (s : State) :
    Host.Outcome State Fault Refusal :=
  whenRunning dt s (fun s => s.takePtp h (fun _ s =>
    match s.tbs.sync with
    | some (q, t2, c) => if s.fromLeader h leader.toNat && q == seq.toNat then s.exchange (origin + c + corr) t2 else s
    | none => s))

/-- PTP_DELAY_RESP (R213): the mean path delay of IEEE 1588-2019, in which the Delay_Req's correction comes back, and the
interval the leader sets. -/
def execPtpDelayResp (dt : Nat) (h : PtpHdr) (leader : BitVec 64) (seq : BitVec 16) (interval : Int) (received corr : Int)
    (s : State) : Host.Outcome State Fault Refusal :=
  whenRunning dt s (fun s => s.takePtp h (fun _ s =>
    match s.tbs.req, s.tbs.pair with
    | some (q, t3), some (t1, t2) =>
      if s.fromLeader h leader.toNat && q == seq.toNat then
        let d := ((t2 - t1) + (received - corr - t3)).fdiv 2
        (s.setNat Obj.tbPathDelay 0 (min d.toNat 0xFFFFFFFF)).modTb (fun t =>
          { t with delayOk := true, req := none, reqLog := some interval })
      else s
    | _, _ => s))

/-- Send a PTP message on the active port, where it has an address (R193): 0 Sync, 1 Delay_Req, 8 Follow_Up, 9 Delay_Resp, 11 Announce. -/
def State.sendPtp (s : State) (kind seq : Nat) (interval corr : Int) (time req : Nat) (ann : List Nat) : State :=
  if s.shIp (s.nat Obj.ptpPortActive) = 0 then s
  else s.emitNet (s.nat Obj.ptpPortActive) (some 1) (.ptp kind (s.ptpDomain) seq interval corr time req ann)

/-- The next number of a kind of message sent: 0 Sync, 1 Announce, 2 Delay_Req. -/
def State.ptpSeq (s : State) (k : Nat) : Nat := s.tbs.seqs.getD k 0 % 65536

/-- It has been used. -/
def State.usePtpSeq (s : State) (k : Nat) : State := s.modTb (fun t => { t with seqs := modAt t.seqs k (· + 1) })

/-- DELAY_REQ_SEND (R213): sent at a random interval, at most twice the leader's; the port's delayAsymmetry comes off its
correction (IEEE 1588-2019). -/
def execDelayReqSend (dt : Nat) (s : State) : Host.Outcome State Fault Refusal :=
  whenRunning dt s (fun s =>
    if (s.nat Obj.ptpPortState = 8 || s.nat Obj.ptpPortState = 9) && decide (s.tbs.reqAt ≤ s.now) then
      let q := s.ptpSeq 2
      let (v, s1) := s.fresh
      let span := 2 * logPs (s.tbs.reqLog.getD (s.ptpInterval 2))
      ((s1.sendPtp 1 q 127 (-s.obj Obj.ptpAsym (s.nat Obj.ptpPortActive)) s.tbNs 0 []).usePtpSeq 2).modTb
        (fun t => { t with req := some (q, Int.ofNat s.tbNs), reqAt := s.now + v % (span + 1) })
    else s)

/-- DELAY_REQ_RECEIVED (R213): while the 9640 leads it answers with the timestamp of the arrival, the request's correction and
its own logMinDelayReqInterval. -/
def execDelayReqReceived (dt : Nat) (h : PtpHdr) (follower : BitVec 64) (seq : BitVec 16) (corr : Int) (s : State) :
    Host.Outcome State Fault Refusal :=
  whenRunning dt s (fun s => s.takePtp h (fun at_ s =>
    if s.nat Obj.ptpPortState = 6 && s.nat Obj.ptpPortActive = h.port.val then
      s.sendPtp 9 seq.toNat (s.ptpInterval 2) corr at_ follower.toNat []
    else s))

/-- A message last sent at a time is due again after a log interval (R211). -/
def State.ptpDue (s : State) (last : Option Nat) (i : Nat) : Bool :=
  last.all (fun t => decide (t + logPs (s.ptpInterval i) ≤ s.now))

/-- Sync and its Follow_Up (R211, R213). -/
def State.sendSync (s : State) : State :=
  let q := s.ptpSeq 0
  let l := s.ptpInterval 0
  (((s.sendPtp 0 q l 0 s.tbNs 0 []).sendPtp 8 q l 0 s.tbNs 0 []).usePtpSeq 0).modTb (fun t => { t with syncAt := some s.now })

/-- Announce (R212). -/
def State.sendAnnounce (s : State) : State :=
  ((s.sendPtp 11 (s.ptpSeq 1) (s.ptpInterval 1) 0 s.tbNs 0 s.ownSet).usePtpSeq 1).modTb
    (fun t => { t with annAt := some s.now })

/-- PTP_LEADER_SEND (R211, R212): what is due at its own interval. -/
def execPtpLeaderSend (dt : Nat) (s : State) : Host.Outcome State Fault Refusal :=
  whenRunning dt s (fun s =>
    if s.nat Obj.ptpPortState = 6 then
      let s1 := if s.ptpDue s.tbs.syncAt 0 then s.sendSync else s
      if s.ptpDue s.tbs.annAt 1 then s1.sendAnnounce else s1
    else s)

/-- PTP_ANNOUNCE (R212, R220): the leader is noted, and the best-leader algorithm runs. -/
def execPtpAnnounce (dt : Nat) (h : PtpHdr) (leader : BitVec 64) (prio1 cls accuracy : BitVec 8) (variance : BitVec 16)
    (prio2 : BitVec 8) (steps : BitVec 16) (s : State) : Host.Outcome State Fault Refusal :=
  whenRunning dt s (fun s => s.takePtp h (fun _ s =>
    let id := leader.toNat
    if id = s.ownId then s
    else
      let old := ((s.tbs.foreign.find? (fun f => f.port == h.port.val && f.id == id)).map (·.heard)).getD []
      let f : Foreign := ⟨h.port.val, id, prio1.toNat, cls.toNat, accuracy.toNat, variance.toNat, prio2.toNat, steps.toNat,
        s.now :: old.take 1⟩
      let s1 := s.modTb (fun t => { t with foreign := f :: t.foreign.filter (fun g => !(g.port == f.port && g.id == f.id)) })
      if h.port.val = s.nat Obj.ptpPortActive then (s1.modTb (fun t => { t with expired := false })).selectLeader
      else if s1.activeDown || s1.tbs.expired then s1.failover.getD s1
      else s1))

/-- The leader in use, or any while there is none, has sent an Announce on the active port within the receipt timeout. -/
def State.leaderHeard (s : State) : Bool :=
  s.tbs.foreign.any (fun f => f.port == s.nat Obj.ptpPortActive && (s.nat Obj.ptpLeader == 0 || s.nat Obj.ptpLeader == f.id) &&
    f.heard.head?.any (fun t => decide (s.now < t + s.announceTimeout)))

/-- The announce receipt timeout of the active port expires (R212, R215, R220): failover, else HOLDOVER; a 9640 in role AUTO
then leads, as IEEE 1588-2019 has it (PRESUMED). -/
def State.announceLost (s : State) : State :=
  if s.nat Obj.ptpPortState = 6 || s.leaderHeard then s
  else
    match s.failover with
    | some t => t
    | none =>
      let s1 := (s.holdover.setNat Obj.ptpPortState 0 4).noLeader
      let s2 := s1.modTb (fun t => { t with expired := true, foreign := t.foreign.filter (fun f => f.port != s.nat Obj.ptpPortActive) })
      if s.nat Obj.tbRole = 1 then s2 else s2.lead

/-- ANNOUNCE_TIMEOUT (R215, R220). -/
def execAnnounceTimeout (dt : Nat) (s : State) : Host.Outcome State Fault Refusal := whenRunning dt s State.announceLost

/-- SYNC_TIMEOUT (R215): a follower with no valid offset for 8 sync intervals. -/
def execSyncTimeout (dt : Nat) (s : State) : Host.Outcome State Fault Refusal :=
  whenRunning dt s (fun s =>
    if (s.nat Obj.ptpPortState = 8 || s.nat Obj.ptpPortState = 9) &&
        decide (s.tbs.offAt + 8 * logPs (s.ptpInterval 0) ≤ s.now) then s.holdover
    else s)

/-! ## Steps and slews (R209, R217, R228) -/

/-- A change of service level or stitch rate waits for the next strobe (R217). -/
def State.changePending (s : State) : Bool :=
  s.fab.due.any (fun d => d == .trim || d == .testEntry || d == .testReturn || d == .t1)

/-- TB_STEP (R217, R228): applied between the strobe and the deadline of a stitch whose next strobe changes neither service
nor rate; else it waits. The latest strobe keeps its place before now, so its timebase time moves too, and the next strobe is
the first crossing at least one nominal period after it. -/
def State.applyStep (s : State) : State :=
  match s.tbs.stepDue with
  | none => s
  | some d =>
    if s.changePending || s.deadlineOf == some s.stitch || s.within 320 then s
    else
      let move (t : Nat) : Nat := (Int.ofNat t + d).toNat
      let s1 : State := { s with clk := { s.clk with tb := move s.clk.tb, strobeTb := move s.clk.strobeTb } }
      let s2 := (s1.bump Obj.tbStepHem).log 0x01 (i32Arg (d.fdiv (2 ^ 32)))
      let s3 := s2.modTb (fun t => { t with stepDue := none, stepLocks := false, stepped := true, integ := 0 })
      let s4 := if s.tbs.stepLocks then s3.enterLocked else s3
      let s5 := s4.restartClocks.ppsRestart
      { s5 with hem := { s5.hem with sec := min s5.hem.sec s5.tbSec } }

/-- TB_STEP (R217). -/
def execTbStep (dt : Nat) (s : State) : Host.Outcome State Fault Refusal := whenRunning dt s State.applyStep

/-- The increment the limits of R209 move toward: the servo's, the named reference's, the holdover mean, or nominal (R216,
R219, R222). -/
def State.incTarget (s : State) (ref : Int) : Int :=
  let st := s.nat Obj.tbState
  let free := st = 0 || st = 3 || (s.nat Obj.ptpPortState = 6 && s.nat Obj.tbTimeSrc = 0)
  let named := match s.nat Obj.tbRefSel with
    | 1 => s.bit Obj.refStatus 0 1
    | 2 => s.bit Obj.refStatus 0 2
    | _ => false
  if free && named then ref
  else if st = 0 || (st = 2 && free) then Int.ofNat nominalInc
  else Int.ofNat s.tbs.target

/-- One limited step of the increment (R209); a correction that meets the clamp sets PULL_LIMIT once. -/
def State.stepFreq (s : State) (ref : Int) : State :=
  if s.tbs.freqAt.any (fun t => decide (s.now < t + msPs)) then s
  else
    let want := s.incTarget ref
    let inc := Int.ofNat s.clk.inc
    let lo := Int.ofNat (nominalInc - incClamp)
    let hi := Int.ofNat (nominalInc + incClamp)
    let step := max (inc - Int.ofNat incStep) (min (inc + Int.ofNat incStep) want)
    let v := max lo (min hi step)
    let s1 : State := { s with clk := { s.clk with inc := v.toNat } }
    let s2 := (s1.modTb (fun t => { t with freqAt := some s.now })).setObj Obj.tbFreq 0
      (((v - Int.ofNat nominalInc) * 1000000000).fdiv (Int.ofNat nominalInc))
    let met := (v = lo && decide (want < lo)) || (v = hi && decide (hi < want))
    let s3 := s2.modTb (fun t => { t with clamped := if met then some want else none })
    if met && s.tbs.clamped ≠ some want then (s3.setBit Obj.refStatus 0 5 true).log 0x03 (i32Arg (s3.obj Obj.tbFreq)) else s3

/-- FREQ_STEP (R209). -/
def execFreqStep (dt : Nat) (ref : Int) (s : State) : Host.Outcome State Fault Refusal :=
  whenRunning dt s (fun s => s.stepFreq ref)

/-! ## References and PLLs (R221–R223, R226) -/

/-- What the timebase runs from is gone while the crystal does not run: REF_IN, WCK_IN or the backup takes over (R221). -/
def State.takeOver (s : State) : State :=
  let src := if s.bit Obj.refStatus 0 2 then 1 else if s.bit Obj.refStatus 0 1 then 2 else 3
  let s1 := ((s.setBit Obj.refStatus 0 0 false).setBit Obj.refStatus 0 4 (src == 3)).modTb (fun t => { t with src := src })
  ((((s1.log 0x04 (src - 1)).holdover).losePll 0).losePll 1).gateClocks

/-- XTAL_FAIL (R221). -/
def execXtalFail (dt : Nat) (s : State) : Host.Outcome State Fault Refusal :=
  whenRunning dt s (fun s => if s.bit Obj.refStatus 0 0 then s.takeOver else s)

/-- XTAL_RESTORE (R221, R229). -/
def execXtalRestore (dt : Nat) (s : State) : Host.Outcome State Fault Refusal :=
  whenRunning dt s (fun s => (s.ppsFollow (fun s => (s.setBit Obj.refStatus 0 0 true).setBit Obj.refStatus 0 4 false)).modTb
    (fun t => { t with src := 0 }))

/-- REF_PRESENT (R222). -/
def execRefPresent (dt : Nat) (r : Fin 3) (s : State) : Host.Outcome State Fault Refusal :=
  whenRunning dt s (fun s => s.setBit Obj.refStatus 0 (1 + r.val) true)

/-- REF_LOST (R215, R221, R222): a reference the timebase runs from in the crystal's place is replaced in its turn. -/
def execRefLost (dt : Nat) (r : Fin 3) (s : State) : Host.Outcome State Fault Refusal :=
  whenRunning dt s (fun s =>
    let s0 := s.setBit Obj.refStatus 0 (1 + r.val) false
    let s1 := if (s0.tbs.src = 1 && r.val = 1) || (s0.tbs.src = 2 && r.val = 0) then s0.takeOver else s0
    if r.val = 2 && s1.nat Obj.tbTimeSrc = 1 && s1.nat Obj.ptpPortState = 6 then
      s1.holdover.modTb (fun t => { t with ppsOk := false })
    else s1)

/-- The distance of the timebase time from the nearest whole second, in ns. -/
def State.ppsOffset (s : State) : Int :=
  let ns := s.tbNs % 1000000000
  if ns < 500000000 then Int.ofNat ns else Int.ofNat ns - 1000000000

/-- PPS_EDGE (R222): while the 9640 leads on PPS_IN, the first qualified edge steps the nanoseconds to 0 where they differ
by more than TB_STEP_NS; each edge is an offset (R215). -/
def execPpsEdge (dt : Nat) (s : State) : Host.Outcome State Fault Refusal :=
  whenRunning dt s (fun s =>
    let s1 := s.modTb (fun t => { t with ppsAt := some s.now })
    if s.nat Obj.tbTimeSrc ≠ 1 || s.nat Obj.ptpPortState ≠ 6 || !s.bit Obj.refStatus 0 3 then s1
    else
      let s2 := if s1.nat Obj.tbState = 3 || s1.nat Obj.tbState = 0 then s1.acquire else s1
      let off := s2.ppsOffset
      if !s2.tbs.ppsOk && decide (s2.nat Obj.tbStepNs < off.natAbs) then
        s2.modTb (fun t => { t with ppsOk := true, stepDue := some (-off * 2 ^ 32), stepLocks := false })
      else (s2.modTb (fun t => { t with ppsOk := true })).measure off)

/-- LOCK_LOST (R226). -/
def execLockLost (dt : Nat) (pll : Fin 2) (s : State) : Host.Outcome State Fault Refusal :=
  whenRunning dt s (fun s => if s.pllLocked pll.val then s.losePll pll.val else s)

/-- PLL_RELOCK (R223, R226). -/
def execPllRelock (dt : Nat) (pll : Fin 2) (s : State) : Host.Outcome State Fault Refusal :=
  whenRunning dt s (fun s => s.setBit Obj.pllStatus pll.val 0 true)

/-- CLK_SLEW_DONE (R227): as many periods have passed as there were steps. -/
def execClkSlewDone (dt : Nat) (i : Fin 10) (s : State) : Host.Outcome State Fault Refusal :=
  whenRunning dt s (fun s =>
    let aim := s.obj Obj.clkPhase i.val
    if s.nat Obj.clkState i.val = 5 && s.phaseTo i.val aim = aim then (s.setNat Obj.clkState i.val 1).setPhase i.val aim else s)

/-! ## Links (R170, R220) -/

/-- LINK_DOWN (R170, R220). -/
def execLinkDown (dt : Nat) (sh : Fin 2) (s : State) : Host.Outcome State Fault Refusal :=
  whenRunning dt s (fun s =>
    let s1 := (s.setNat (shObj sh.val Obj.shLink) 0 0).showStreams
    if s1.nat Obj.ptpPortActive = sh.val then s1.failover.getD s1 else s1)

/-- LINK_UP (R170, R353): a port that is initializing listens, and a 9640 that may only lead leads. Shuttle B's SerDes starts 50 µs
after release. -/
def execLinkUp (dt : Nat) (sh : Fin 2) (s : State) : Host.Outcome State Fault Refusal :=
  whenRunning dt s (fun s =>
    let s1 := (s.setNat (shObj sh.val Obj.shLink) 0 1).showStreams.forgetGateway sh.val
    if sh.val = 1 && decide (s.now < 50000000) then s
    else if s1.nat Obj.ptpPortActive = sh.val && s1.nat Obj.ptpPortState = 1 then
      (let s2 := s1.setNat Obj.ptpPortState 0 4; if s2.nat Obj.tbRole = 2 then s2.lead else s2)
    else s1)

/-! ## The strobe (R74, R177, R210, R218) -/

/-- The media count of the latest strobe: its time times the rate, the index of its grid crossing (R74, R177, R210). -/
def State.mediaNow (s : State) : Nat := ceilDiv (s.clk.strobeTb * rateHz (s.nat Obj.stitchRate)) tbUnits

/-- The timebase's part in a strobe: media time, a jump after a step, and the clock outputs and master ports that
(re)start. -/
def State.strobeTb (s : State) : State :=
  let mu := s.mediaNow
  let s1 := if !s.tbs.locked then s
    else
      let first := s.tbs.media.isNone
      let jump := s.tbs.stepped && s.tbs.media.any (fun m => m + 1 != mu)
      let old := s.tbs.media.getD 0
      let s1 := s.modTb (fun t => { t with media := some mu })
      if first then s1.showStreams
      else if jump then (s1.restartStreams).log 0x02 (mu % 2 ^ 32) (old % 2 ^ 32)
      else s1
  ((s1.modTb (fun t => { t with stepped := false })).startClocks).portsRegain

/-! ## Writes (R211, R217, R227, R230) -/

/-- The range of PTP_INTERVALS' element i under the profile (R211). -/
def State.intervalRange (s : State) (i : Nat) : Int × Int :=
  if s.nat Obj.ptpProfile = 0 then ([((-4 : Int), (1 : Int)), (0, 4), (-3, 5)]).getD i (0, 0)
  else
    let sync := s.obj Obj.ptpIntervals 0
    ([((-7 : Int), (-1 : Int)), (-3, 1), (sync, sync + 5)]).getD i (0, 0)

/-- The checks of the timebase's objects (R211, R217, R224, R230). -/
def State.tbCheck (s : State) (num i : Nat) (v : Int) : Nat :=
  let n := v.toNat
  let code (hi : Nat) : Nat := if hi < n then St.formatCode else St.ok
  let in_ (lo hi : Int) : Nat := if v < lo || hi < v then St.ptpRange else St.ok
  if num = Obj.tbRole then code 2
  else if num = Obj.ptpProfile then code 1
  else if num = Obj.tbRefSel then code 2
  else if num = Obj.tbTimeSrc then code 1
  else if num = Obj.ptpDomain then in_ 0 127
  else if num = Obj.ptpIntervals then in_ (s.intervalRange i).1 (s.intervalRange i).2
  else if num = Obj.ptpAnnTimeout then in_ 2 10
  else if num = Obj.tbServoBw then in_ 1 1000
  else if num = Obj.tbStepNs then in_ 100 1000000000
  else if num = Obj.tbLockNs then in_ 10 (s.obj Obj.tbStepNs)
  else if num = Obj.tbSet then
    (if s.nat Obj.ptpPortState = 6 && s.nat Obj.tbTimeSrc = 0 then St.ok else St.tbRole)
  else if num = Obj.clkCfg then
    let d := bits n 29 16
    let w := n % 1024
    let old := s.nat Obj.clkCfg i
    if i < 4 && (d < 25 || 8192 < d) then St.ptpRange
    else if 8 ≤ i && (w = 0 || 1000 < w) then St.ptpRange
    else if (4 ≤ i && decide (i < 8) && decide (6 < d)) || (8 ≤ i && decide (7 < d)) then St.formatCode
    else if 4 ≤ i && decide (i < 8) && (n.testBit 30 != family44 d) then St.clkFamily
    else if old.testBit 31 && old % 2 ^ 31 != n % 2 ^ 31 then St.clkBusy
    else St.ok
  else St.ok

/-- A profile's defaults (R211). -/
def State.profileDefaults (s : State) (p : Nat) : State :=
  let (d, l) := profileSet p
  (l.zipIdx.foldl (fun s e => s.setObj Obj.ptpIntervals e.2 e.1) (s.setNat Obj.ptpDomain 0 d)).setNat Obj.ptpAnnTimeout 0 3

/-- A new phase target in place of the old one (R227): an output that runs moves on from where it is, an MCK or WCK by slewing,
an FPULSE at its next pulse. -/
def State.phaseEffect (s : State) (i : Nat) (old v : Int) : State :=
  let st := s.nat Obj.clkState i
  if st = 1 || st = 5 then
    let p := s.phaseTo i old
    (s.setPhase i p).setNat Obj.clkState i (if i < 8 && p ≠ v then 5 else 1)
  else s

/-- What an accepted write of the timebase's objects does beside the value. -/
def State.tbEffect (s : State) (num i : Nat) (old v : Int) : State :=
  if num = Obj.ptpProfile then s.profileDefaults v.toNat
  else if num = Obj.tbSet then
    s.modTb (fun t => { t with stepDue := some (v * 2 ^ 32 - Int.ofNat s.clk.tb), stepLocks := false })
  else if num = Obj.tbRole then
    if old = v then s
    else if v = 2 then s.lead
    else if v = 1 && s.nat Obj.ptpPortState = 6 then (s.holdover.setNat Obj.ptpPortState 0 4).selectLeader
    else s.selectLeader
  else if num = Obj.tbTimeSrc then
    if old = v || s.nat Obj.ptpPortState != 6 then s
    else if v = 0 then (if s.nat Obj.tbState = 2 then s else s.enterLocked)
    else s.modTb (fun t => { t with ppsOk := false })
  else if num = Obj.ptpPortCfg then
    if !v.toNat.testBit 1 && s.nat Obj.ptpPortActive != v.toNat % 2 then
      ((s.holdover.setNat Obj.ptpPortActive 0 (v.toNat % 2)).setNat Obj.ptpPortState 0 4).noLeader
    else s
  else if num = Obj.clkCfg then (s.gateClocks).recheckPorts
  else if num = Obj.clkPhase then s.phaseEffect i old v
  else s

end Sys2Proof.Machine
end

