-- ==== Sys2Proof/Machine/Power.lean ====
section
/-!
DEFINITION. Power states and TEST service (R346–R354), TRIM entry (R91, R153), and the strobes at which each takes effect.
-/

namespace Sys2Proof.Machine

/-- Change the power states' variables. -/
def State.modPw (s : State) (f : PowerCtl → PowerCtl) : State := { s with pw := f s.pw }

/-- Something takes effect at the next strobe. -/
def State.addDue (s : State) (d : Due) : State := { s with fab := { s.fab with due := s.fab.due ++ [d] } }

/-! ## Stopping and restarting the fabric's work -/

/-- Every migration ends at its source. -/
def State.endAllMigs (s : State) : State :=
  let s1 := (distinct ((s.last.migs.flatMap (·.copies)).map (·.piece))).foldl State.endMigs s
  { s1 with last := { s1.last with migs := [] } }

/-- Every needle stops (R349, R354). -/
def State.stopNeedles (s : State) : State :=
  (s.ndl.map (·.1)).foldl (fun s n =>
    s.modNeedle n (fun nd => { nd with run := none, wait := .none, fill := .none, placed := false })) s

/-- The safety matrix stops, and SAFE_STATE reads STOPPED; it is loaded anew before it runs again (R349, R354). -/
def State.haltSafety (s : State) : State :=
  let s1 := if s.last.safety then s.dropMatrixSlots else s
  State.setNat { s1 with last := { s1.last with safety := false }, safe := { s1.safe with loaded := false } } Obj.safeState 0 3

/-- Every live piece starts as newly placed at stitch k (R349, R354): programs, images and pages are written again,
history and spools are zero, HISTORY_VALID is 0. -/
def State.restartPieces (s : State) (k : Nat) : State :=
  match s.last.pat with
  | none => s
  | some p =>
    let pl := s.written
    let live := s.last.copies.filter (·.live)
    let s1 := (distinct (s.last.copies.map (·.needle))).foldl (fun s n => (s.modNeedle n (fun nd => { nd.anew with placed := true })).reprogram p pl n) s
    let s2 := live.foldl (fun s c => (s.writeCopy p c).zeroCopy State.handAtStrobe c s.last.spools) s1
    let pieces := distinct (live.map (·.piece))
    let s3 : State := { s2 with
      fab := { s2.fab with routesIn := [], routesOut := [] }
      last := { s2.last with
        spools := s2.last.spools.map (fun q => { q with fetching := [], fetched := [], draining := [], drained := [], lost := [] })
        pieceStart := pieces.map (fun i => (i, k)) ++ s2.last.pieceStart.filter (fun e => !pieces.contains e.1) } }
    let s4 := live.foldl (fun s c => s.startCopy p c) s3
    (pieces.foldl State.validAtOnce s4).showPlacement

/-! ## The commands RUN, HUSH and STANDBY (R347) -/

/-- A priority 0 piece is placed. -/
def State.lifeSafety (s : State) : Bool :=
  match s.last.pat with
  | none => false
  | some p => s.last.pieces.any (fun e => e.2.state != 0 && e.2.state != 4 && (p.pieces[e.1]?).any (fun d => d.priority == 0))

/-- PWR_SAFETY applies. -/
def State.pwrUnsafe (s : State) (force : Bool) : Bool := !force && (s.lifeSafety || (s.level == 1 && !s.pw.hush))

/-- A wake source is enabled in WAKE_CFG. -/
def State.wakeEnabled (s : State) : Bool := s.field Obj.wakeCfg 0 3 0 != 0 || s.bit Obj.wakeCfg 0 8

/-- The check of a POWER_CMD write: [1:0] the command, [7] FORCE (R347, R357). -/
def State.powerCheck (s : State) (v : Nat) : Nat :=
  let force := v.testBit 7
  if bits v 6 2 ≠ 0 then St.formatCode
  else
    match v % 4 with
    | 0 => if s.pw.hush then St.ok else St.pwrState
    | 1 => if s.pw.hush || s.level = 2 then St.pwrState else if s.pwrUnsafe force then St.pwrSafety else St.ok
    | 2 => if !s.wakeEnabled then St.pwrState else if s.pwrUnsafe force then St.pwrSafety else St.ok
    | _ => St.formatCode

/-- RUN (R349): the pleats are woken, VCORE returns to VCORE_BOOT, the loop enters BOOT_HOLD. -/
def State.powerRun (s : State) : State :=
  if s.pw.leaving then s
  else ((((s.modPw (fun p => { p with leaving := true, zeroed := false })).setVcore (s.nat Obj.vcoreBoot)).setLoop 0).setGood 0).adjustPower

/-- The lifetime counters that have counted. -/
def State.lifeNums (s : State) : List Nat :=
  (distinct (s.regs.map (fun e => e.1 / 2048))).filter (fun n => (Obj.desc? n).any (fun d => d.cls == .life))

/-- STANDBY (R350): sessions and the debug session end, the journal takes what it holds and the lifetime counters (R371),
sACN ends its universes and DMX its frames. -/
def State.powerStandby (s : State) : State :=
  if s.pw.standby then s
  else
    let s1 := ((s.endSessions.endDebug 6).modPw (fun p => { p with standby := true })).terminate
    let s2 := s1.lifeNums.foldl State.markDirty s1
    (List.range 8).foldl (fun s p => (s.stopRdm p).showDmx p) s2

/-- An accepted POWER_CMD. -/
def State.powerEffect (s : State) (v : Nat) : State :=
  match v % 4 with
  | 0 => s.powerRun
  | 1 => if s.fab.due.contains .hush then s else s.addDue .hush
  | _ => s.powerStandby

/-- The strobe at which HUSH takes effect (R348, R349). -/
def State.hushAt (s : State) : State :=
  let s1 := ((s.modPw (fun p => { p with hush := true, leaving := false, zeroed := false, reload := false })).endAllMigs).stopNeedles
  let s2 := (((s1.haltSafety).setVcore (s1.nat Obj.vcoreMin)).setLoop 3).setGood 0
  ((s2.adjustPower.showStreams).showPower).showAll

/-- The first strobe at which a HUSH that is left may end (R349): the pleats are ready, and the history is zero or the
safety matrix loaded. -/
def State.mayUnhush (s : State) : Bool :=
  s.pw.hush && s.pw.leaving && s.pleatsReady && (if s.level = 1 then s.safe.loaded else s.pw.zeroed)

/-- HUSH ends at the strobe of stitch k: FULL resumes with every piece newly placed; in TRIM the matrix starts with the
strobe (R349). -/
def State.unhushAt (s : State) (k : Nat) : State :=
  let s1 := s.modPw (fun p => { p with hush := false, leaving := false, zeroed := false })
  let s2 := if s1.level = 1 then s1 else s1.restartPieces k
  (s2.adjustPower.showStreams).showPower

/-! ## TEST service (R354) -/

/-- The check of a TEST_CMD write: [31:16] PLEATS, [11:9] RATE, [8] FORCE, [3:0] KIND. -/
def State.testCheck (s : State) (v : Nat) : Nat :=
  let kind := bits v 3 0
  let inTest := s.level == 2
  let real := decide (1 ≤ kind) && decide (kind ≤ 3)
  if s.pw.hush || (kind = 0 && !inTest) then St.pwrState
  else if real && (inTest || s.bit Obj.placeStatus 0 31) then St.testBusy
  else if decide (4 ≤ kind) || bits v 11 9 == 7 then St.formatCode
  else if (kind = 1 || kind = 2) && bits v 31 16 == 0 then St.range
  else if !v.testBit 8 && (s.lifeSafety || s.level == 1) then St.pwrSafety
  else St.ok

/-- A request that does not come to run: TEST_STATE reads ABORTED. -/
def State.testLapse (s : State) : State :=
  (s.modPw (fun p => { p with testReq := none, testWait := false })).setNat Obj.testState 0 4

/-- An accepted TEST_CMD: a request, which at 384 kHz waits for the raise of R87, or the end of the running test. A test
that has ended already keeps how it ended. -/
def State.testEffect (s : State) (v : Nat) : State :=
  let kind := bits v 3 0
  if kind = 0 then
    if s.pw.testOver.isSome then s else (s.modPw (fun p => { p with testOver := some (4, []) })).addDue .testReturn
  else
    let s1 := s.modPw (fun p => { p with testReq := some (kind, bits v 31 16, bits v 11 9) })
    if bits v 11 9 = 6 && decide (s.nat Obj.vcoreNow < 780) then
      if s.avsFault then s1.testLapse else (s1.modPw (fun p => { p with testWait := true })).setVcore 780
    else if s.fab.due.contains .testEntry then s1 else s1.addDue .testEntry

/-- The strobe of entry (R354); `yields` says that TRIM service or HUSH is entered at the same strobe (R4). -/
def State.testEntryAt (s : State) (yields : Bool) : State :=
  match s.pw.testReq with
  | none => s
  | some t =>
    if yields || s.pw.hush then s.testLapse
    else
      let s1 := ((s.modPw (fun p => { p with testReq := none, testRun := some t, testFirst := none, testOver := none, reload := false })).setNat
        Obj.testFrom 0 s.level).setLevel 2
      let s2 := ((((s1.setNat Obj.testState 0 1).setRate t.2.2).endAllMigs).stopNeedles).haltSafety
      let s3 := (s2.setLoop 3).setGood 0
      let v := s3.nat Obj.vcoreNow
      let s4 := if t.1 = 3 then (s3.setVcore (v + 5)).setVcore v else s3
      (s4.adjustPower.showAll).showPower

/-- The bitmap of TEST_RESULT (R357): needles in elements 0–3, the rest in element 4. -/
def resultWords (r : TestRes) : List Nat :=
  let m := (distinct (r.needles.map (·.val))).foldl (fun m n => m ||| 2 ^ n) 0
  [m % 2 ^ 32, m / 2 ^ 32 % 2 ^ 32, m / 2 ^ 64 % 2 ^ 32, m / 2 ^ 96, r.convs.toNat + r.others.toNat * 65536]

/-- The test's first stitch is that of the first strobe with its pleats ready (R354). -/
def State.beginTest (s : State) (k : Nat) : State :=
  if s.level = 2 && s.pw.testFirst.isNone && s.pleatsReady then s.modPw (fun p => { p with testFirst := some k }) else s

/-- The length of the running test may have passed: 4 096 stitches of a NEEDLE_BIST, and no fixed time of the others (R354). -/
def State.testMayEnd (s : State) : Bool :=
  s.level == 2 && s.pw.testOver.isNone &&
    s.pw.testFirst.any (fun f => s.pw.testRun.any (fun t => t.1 != 1) || decide (f + 4096 ≤ s.stitch))

/-- TEST_LENGTH_END (R354): the test's length has passed; PASS when nothing failed. -/
def execTestLengthEnd (dt : Nat) (r : TestRes) (s : State) : Host.Outcome State Fault Refusal :=
  whenRunning dt s (fun s =>
    if !s.testMayEnd then s
    else
      let w := resultWords r
      (s.modPw (fun p => { p with testOver := some (if w.all (· == 0) then 2 else 3, w) })).addDue .testReturn)

/-- What a MEMORY_BIST wrote is lost: needles of the pleats start empty, and their bobbins hold nothing. -/
def State.loseMemories (s : State) (pleats : Nat) : State :=
  let s1 := ((List.range 128).filter (fun n => pleats.testBit (n / 8))).foldl (fun s n => s.modNeedle n Needle.anew) s
  { s1 with bob := s1.bob.filter (fun e => !pleats.testBit (e.1 / 524288 / 8)),
            bobBad := s1.bobBad.filter (fun a => !pleats.testBit (a / 524288 / 8)) }

/-- The end of a test by its state code and results: what TEST_STATE and TEST_RESULT read, needles that failed frayed,
memories lost, and no needle running (R354). -/
def State.testEnds (s : State) (code : Nat) (words : List Nat) : State :=
  let (kind, pleats) := (s.pw.testRun.map (fun t => (t.1, t.2.1))).getD (0, 0)
  let s1 := (s.setNat Obj.testState 0 code).setNat Obj.testFrom 0 0xFF
  let s2 := words.zipIdx.foldl (fun s e => s.setNat Obj.testResult e.2 e.1) s1
  let failed := (List.range 128).filter (fun n => (words.getD (n / 32) 0).testBit (n % 32))
  let s3 := failed.foldl (fun s n => (s.setBit (ndlObj n 1) 0 0 true).request Rsn.frayed n) s2
  let s4 := (if kind = 2 then s3.loseMemories pleats else s3).stopNeedles
  ((((s4.modPw (fun p => { p with testRun := none, testFirst := none, testOver := none })).setVcore (s4.nat Obj.vcoreBoot)).setLoop 0)).setGood 0

/-- The strobe at which TEST service ends (R354): the service level left comes back. -/
def State.testReturnAt (s : State) : State :=
  if s.level ≠ 2 then s
  else
    let from_ := s.nat Obj.testFrom
    let (code, words) := s.pw.testOver.getD (4, [])
    let s1 := s.testEnds code words
    let s2 := if from_ = 1 then (s1.setLevel 1).setRate 1
      else ((s1.setLevel 0).setRate ((s1.last.pat.map (·.rate)).getD 1)).modPw
        (fun p => { p with reload := true, zeroed := false })
    (s2.adjustPower.showAll).showPower

/-- A restart after a test may come: the memories are written and the pleats ready (R354). -/
def State.mayReload (s : State) : Bool := s.pw.reload && s.pw.zeroed && s.pleatsReady && !s.pw.hush && s.level == 0

/-- The strobe at which the pieces start again after a test (R354). -/
def State.reloadAt (s : State) (k : Nat) : State :=
  (s.modPw (fun p => { p with reload := false, zeroed := false })).restartPieces k

/-- HISTORY_ZEROING_DONE (R92, R349, R354): with the pleats ready, the Last has zeroed every history region and spool. -/
def execHistoryZeroingDone (dt : Nat) (s : State) : Host.Outcome State Fault Refusal :=
  whenRunning dt s (fun s =>
    if ((s.pw.hush && s.pw.leaving) || s.pw.reload) && s.pleatsReady then s.modPw (fun p => { p with zeroed := true }) else s)

/-! ## TRIM entry (R4, R91, R153) -/

/-- The strobe of TRIM entry: a test is aborted, the pattern stops and commits are cancelled, the rate is 48 kHz, and
BOBBIN[0]–BOBBIN[7] pass to NDL[0]–NDL[7], where the matrix is loaded. -/
def State.trimAt (s : State) : State :=
  let s1 := if s.level = 2 then s.testEnds 4 [] else s
  let s2 := (((s1.cancelAll 1).dropPattern).setNat Obj.patId 0 0).modPw (fun p => { p with reload := false })
  let s3 := (s2.setLevel 1).setRate 1
  let s4 : State := { s3 with
    fab := { s3.fab with shedPending := false }, safe := { s3.safe with since := s3.safe.since.map (fun _ => s3.stitch) } }
  let s5 := if s4.last.safety then s4 else s4.haltSafety
  let s6 := (List.range 8).foldl (fun s b => if s.bobOwner b = b then s else s.handOver b b) s5
  (s6.adjustPower.showPlacement).showPower

/-! ## The wake sequencer's events (R352) -/

/-- PLEAT_WAKE_START (R352): the oldest request in the FIFO begins, where the limit allows. -/
def execPleatWakeStart (dt : Nat) (s : State) : Host.Outcome State Fault Refusal :=
  whenRunning dt s (fun s =>
    match s.pw.queue with
    | [] => s
    | (p, wake, t) :: rest =>
      if !s.mayBegin then s
      else ((s.modPw (fun w => { w with queue := rest })).raise Obj.wakeWaitMax 0 ((s.now - t) / 1000)).beginPleat p wake)

/-- PLEAT_READY (R352): a pleat is powered 4 µs after its wake began. -/
def execPleatReady (dt : Nat) (p : Fin 16) (s : State) : Host.Outcome State Fault Refusal :=
  whenRunning dt s (fun s =>
    if s.pw.waking.any (fun w => w.1 == p.val && decide (w.2 + 4000000 ≤ s.now)) then
      ((s.modPw (fun w => { w with waking := w.waking.filter (fun x => x.1 != p.val) })).setBit Obj.pleatPower 0 p.val true).showPleat p.val
    else s)

/-- STANDBY_ENTRY_DONE (R350, R351): once the journal's batch is complete, sACN has ended its universes and no port sends a DMX
frame any more, the clock outputs hold low, RAIL_EN goes low and the standby island alone
remains. -/
def execStandbyEntryDone (dt : Nat) (s : State) : Host.Outcome State Fault Refusal :=
  whenRunning dt s (fun s =>
    if s.pw.standby && (s.dict.journal.dirty.isEmpty || s.dict.journal.fault) && s.ven.term.isEmpty &&
        s.ven.dmx.all (fun p => p.sending.all (fun t => decide (t ≤ s.now))) then
      let cause := s.nat Obj.resetCause
      State.emit { s.restartClocks.deviceReset cause with phase := .standby } (.railEn false)
    else s)

end Sys2Proof.Machine
end

