-- ==== Sys2Proof/Machine/Life.lean ====
section
/-!
DEFINITION. The lifecycle (R334–R337), the Thimble's key operations (R338), and the junction sensors (R385, R386).
-/

namespace Sys2Proof.Machine

/-! ## Lifecycle (R335–R337) -/

/-- The check of a write to OWNER_KEY_HASH (R335). -/
def State.ownerHashCheck (s : State) (l : List Byte) : Nat :=
  if s.nat Obj.lifecycle ≠ 0 then St.lcState
  else if !(s.blob Obj.ownerKeyHash).isEmpty then St.fused
  else if l.length ≠ 48 then St.range
  else St.ok

/-- The check of a write to LC_ADVANCE (R336): `vendor` says that the writer is a VENDOR session. -/
def State.lcCheck (s : State) (v : Nat) (vendor : Bool) : Nat :=
  let allowed :=
    if v = 1 then !(s.blob Obj.ownerKeyHash).isEmpty
    else if v = 2 then manSet s.boot.manifest == 0
    else vendor
  if v = s.nat Obj.lifecycle + 1 && decide (v ≤ 3) && s.nat Obj.imageVerified == 1 && allowed then St.ok else St.lcState

/-- An accepted advance (R336, R337): the fuse is blown, and for RETURNED the key slots are zeroized first and KEY_KILL
blown after; the part resets 100 ms later. -/
def State.lcAdvance (s : State) (v : Nat) : State :=
  let s1 : State :=
    if v = 3 then
      { (List.range 8).foldl (fun (s : State) i => s.setNat Obj.keySlotState i 0) s with
        keyKill := true, misc := { s.misc with keys := List.replicate 8 [] } }
    else s
  ((s1.setNat Obj.lifecycle 0 v).showDebug).resetIn100ms 8

/-! ## THM_OPn (R338) -/

/-- The check of a write to THM_OPn. -/
def State.thmCheck (s : State) (n : Nat) : Nat := if s.nat (Obj.thmStatus0 + n) = 1 then St.thmBusy else St.ok

/-- A key operation starts: its record stands at offset o of package memory. -/
def State.thmStart (s : State) (n o : Nat) : State :=
  State.setNat { s with misc := { s.misc with thm := setAt s.misc.thm n (some o) } } (Obj.thmStatus0 + n) 0 1

/-- A key operation's record. -/
structure ThmRec where
  op : Nat
  slot : Nat
  aadLen : Nat
  len : Nat
  iv : List Byte
  rsvd : Nat
  src : Nat
  dst : Nat
  aad : Nat
  deriving DecidableEq, Repr

/-- The record at offset o. -/
def State.thmRec (s : State) (o : Nat) : ThmRec :=
  let f (k n : Nat) : Nat := leNat (s.pmBytes (o + k) n)
  ⟨f 0 1, f 1 1, f 2 2, f 4 4, s.pmBytes (o + 8) 12, f 0x14 4, f 0x18 8, f 0x20 8, f 0x28 8⟩

/-- A field is out of range, or a buffer leaves the firmware region. The tag stands after the ciphertext. -/
def State.thmBad (s : State) (o : Nat) (r : ThmRec) : Bool :=
  let srcLen := if r.op = 2 then r.len + 16 else r.len
  let dstLen := if r.op = 2 then r.len else r.len + 16
  let out (o n : Nat) : Bool := n != 0 && !s.inFirmware o n
  !s.inFirmware o 48 || !(r.op == 1 || r.op == 2) || r.slot == 0 || decide (7 < r.slot) || decide (4096 < r.aadLen)
    || decide (16777216 < r.len) || r.rsvd != 0 || out r.src srcLen || out r.dst dstLen
    || out r.aad r.aadLen

/-- What the operation of a record gives under its slot's key: the bytes for DST, or none where the tag fails. -/
def State.thmResult (s : State) (r : ThmRec) : Option (List Byte) :=
  let key := s.misc.keys.getD r.slot []
  let aad := s.pmBytes r.aad r.aadLen
  let text := s.pmBytes r.src r.len
  if r.op = 2 then gcmOpen key r.iv aad text (s.pmBytes (r.src + r.len) 16)
  else some ((gcmSeal key r.iv aad text).1 ++ (gcmSeal key r.iv aad text).2)

/-- The operation of the record at offset o: its status (2 DONE, 3 RANGE, 4 TAG_FAIL, 5 KEY_EMPTY), and DST written at DONE. -/
def State.thmRun (s : State) (o : Nat) : Nat × State :=
  let r := s.thmRec o
  if s.thmBad o r then (3, s)
  else if s.nat Obj.keySlotState r.slot = 0 then (5, s)
  else
    match s.thmResult r with
    | none => (4, s)
    | some l => (2, s.setPmBytes r.dst l)

/-- Core n's key operation ends with its status. -/
def State.thmEnd (s : State) (n o : Nat) : State :=
  let (code, t) := s.thmRun o
  State.setNat { t with misc := { t.misc with thm := setAt t.misc.thm n none } } (Obj.thmStatus0 + n) 0 code

/-- THM_OP_DONE (R338): core n's key operation ends. -/
def execThmOpDone (dt : Nat) (n : Fin 4) (s : State) : Host.Outcome State Fault Refusal :=
  whenRunning dt s (fun s =>
    match s.misc.thm.getD n.val none with
    | some o => s.thmEnd n.val o
    | none => s)

/-! ## Sensors (R138, R385, R386) -/

/-- The trip of THERM_N in °C (R386). -/
def State.tripAt (s : State) : Int := if s.e16 then 115 else 95

/-- The order code's junction maximum in °C (R374). -/
def State.junctionMax (s : State) : Int := if s.e16 then 105 else 85

/-- One reading is taken. -/
def State.sense (s : State) (num i : Nat) (v : Int) : State :=
  let s1 := s.setObj num i v
  if s1.obj Obj.tjMaxHem < v then s1.setObj Obj.tjMaxHem 0 v else s1

/-- One sensor stands at or above the trip at the latest update and at this one. -/
def State.tripped (s : State) (num : Nat) (e : BitVec 8 × Nat) : Bool :=
  decide (s.tripAt ≤ s.obj num e.2) && decide (s.tripAt ≤ e.1.toInt)

/-- SENSOR_UPDATE (R161, R385): readings are taken; a die above 85 °C halves its channel's refresh interval, on CH9640-E16
alone; a pleat above TEMP_MIGRATE asks the Last to move its pieces; a sensor at or
above the trip at two updates, 1 ms apart, latches THERM_N. -/
def execSensorUpdate (dt : Nat) (pleats drams : List (BitVec 8)) (s : State) : Host.Outcome State Fault Refusal :=
  whenRunning dt s (fun s =>
    let ps := (pleats.take 16).zipIdx
    let ds := (drams.take 2).zipIdx
    let trip := ps.any (s.tripped Obj.tjPleat) || ds.any (s.tripped Obj.tjDram)
    let s1 := ps.foldl (fun s e => s.sense Obj.tjPleat e.2 e.1.toInt) s
    let s2 := ds.foldl (fun s e => s.sense Obj.tjDram e.2 e.1.toInt) s1
    let s3 := ps.foldl (fun s e =>
      if s.obj Obj.tempMigrate < e.1.toInt && !(s.last.requests.any (fun r => r.1 == Rsn.temperature && r.2.1 == e.2)) then
        s.request Rsn.temperature e.2 else s) s2
    let s4 := ds.foldl (fun s e =>
      s.setNat Obj.pmRefreshX2 e.2 (if s.e16 && decide (85 < e.1.toInt) then 1 else 0)) s3
    if trip then s4.setNat Obj.thermLatch 0 1 else s4)

end Sys2Proof.Machine
end

