-- ==== Sys2Proof/Machine/Writes.lean ====
section
/-!
DEFINITION. Writing an object (R240, R247, R250): the acceptance checks in their order, the checks of the owning chapters,
what an accepted write does, and the rows of the command table that are writes of one object.
-/

namespace Sys2Proof.Machine

/-- One object's write: its number, first element, element count, type code and encoded bytes. -/
structure WReq where
  num : Nat
  first : Nat
  count : Nat
  ty : Nat
  bytes : List Byte
  deriving DecidableEq, Repr

/-- The first status of a list that is not OK. -/
def firstBad : List Nat → Nat
  | [] => St.ok
  | x :: t => if x = St.ok then firstBad t else x

/-! ## Steps 1 to 4 of R240 -/

/-- The core that alone may write an element of a number marked for its own core (R20, R22, R116, R257, R275, R300, R323,
R338). -/
def ownCore (num first : Nat) : Nat :=
  if num = Obj.coreRelease || num = Obj.coreEntry then 0
  else if num = Obj.serMGo then first
  else num % 4

/-- NO_RIGHT: the role lacks the right, or an element written belongs to another core; a wrong writer of CC_COMMIT_GOn is refused
with COMMIT_ROLE (R113). -/
def ODesc.rightCheck (d : ODesc) (w : Writer) (q : WReq) : Nat :=
  if d.own && (List.range (max 1 q.count)).any (fun j => w.src != .core (ownCore q.num (q.first + j))) then
    (if Obj.ccCommitGo0 ≤ q.num && decide (q.num < Obj.ccCommitGo0 + 4) then St.commitRole else St.noRight)
  else
    match w.role with
    | some r => if d.grants 1 r then St.ok else St.noRight
    | none => St.noRight

/-- TYPE: the value's form does not match the object (R240, R247). -/
def ODesc.typeCheck (d : ODesc) (q : WReq) : Nat :=
  if q.ty ≠ d.code then St.type
  else if d.ty.isBytes then St.ok
  else if q.count = 0 || decide (d.n < q.first + q.count) || q.bytes.length != d.ty.size * q.count then St.type
  else St.ok

/-- RANGE: the check of R238 on every element written. -/
def ODesc.rangeCheck (d : ODesc) (q : WReq) : Nat :=
  let good :=
    if d.ty = .str then decide (q.bytes.length ≤ d.n) && strOk q.bytes
    else if d.ty = .blob then decide (q.bytes.length ≤ d.n)
    else d.ty.validAll d.lo d.hi q.count q.bytes
  if good then St.ok else St.range

/-- The values of the elements written; none of a STR or BLOB. -/
def ODesc.values (d : ODesc) (q : WReq) : List Int := if d.ty.isBytes then [] else d.ty.decodeAll q.count q.bytes

/-! ## The value an element takes (R7, R8, R37, R86) -/

/-- Bits a write of ones does not clear yet: a needle's sticky bits set in the stitch in progress, and FRAYED while the
needle holds a placed piece (R37, R86). -/
def State.heldBits (s : State) (num : Nat) : Nat :=
  let n := (num - 0xC000) / 64
  let nd := s.needle n
  let now (b : Nat) : Bool := nd.setDuring b == some s.stitch
  let b (i : Nat) (on : Bool) : Nat := if on then 2 ^ i else 0
  if Obj.canon num = 0xC020 then b 0 (now 0) + b 1 (now 1) + b 2 (now 2) + b 3 (now 3)
  else if Obj.canon num = 0xC001 then b 0 (!(s.piecesOn n).isEmpty) + b 1 (now 4)
  else 0

/-- The value element i takes from a write of v: ones clear in a W1C object, and reserved and read-only bits stay. -/
def State.newVal (s : State) (num i : Nat) (v : Int) : Int :=
  match Obj.writeMask (Obj.canon num) i with
  | none => v
  | some m =>
    let old := s.nat num i
    if Obj.isW1C (Obj.canon num) then
      let c := old &&& v.toNat &&& m
      Int.ofNat (old - (c - (c &&& s.heldBits num)))
    else Int.ofNat ((old - (old &&& m)) + (v.toNat &&& m))

/-! ## Step 5 of R240: the owning chapters -/

/-- The checks of the stitch chapter's objects (R87): `after` reads an element as the whole write would leave it. -/
def State.stitchCheck (s : State) (num : Nat) (after : Nat → Nat → Nat) : Nat :=
  if num = Obj.vcoreMin || num = Obj.vcoreMax then
    let lo := after Obj.vcoreMin 0
    let hi := after Obj.vcoreMax 0
    let v := after num 0
    if v % 5 ≠ 0 || decide (v < 600) || decide (850 < v) || decide (hi < lo) then St.range
    else if num = Obj.vcoreMax && decide (v < 780) && s.last.pat.any (fun p => p.rate == 6) then St.range
    else St.ok
  else if num = Obj.marginTarget || num = Obj.marginFloor then
    (if after Obj.marginFloor 0 < after Obj.marginTarget 0 && decide (after Obj.marginTarget 0 + 30 ≤ 1000) then St.ok else St.range)
  else St.ok

/-- The checks of the basting objects (R98, R111, R116). -/
def State.basteCheck (s : State) (w : Writer) (num i n : Nat) : Nat :=
  if isGroupTable num then s.groupCheck num i n
  else if num = Obj.commitCancel then s.cancelCheck w n
  else if Obj.groupCfg0 ≤ num && decide (num < Obj.groupCfg0 + 4) then
    (if decide (bits n 2 0 = 0) || decide (4 < bits n 2 0) then St.range else St.ok)
  else if Obj.ccCommitGo0 ≤ num && decide (num < Obj.ccCommitGo0 + 4) then
    (s.commitRequest w (bits n 11 0) (if n.testBit 12 then none else some (s.nat (Obj.ccCommitStitch0 + (num - Obj.ccCommitGo0))))).1
  else St.ok

/-- The checks of the dictionary's and of Ursin's own objects (R257, R275); CC_MSG_GOn is stored through the object window
alone (R22). -/
def State.dictCheck (s : State) (num n : Nat) (bytes : List Byte) : Nat :=
  let in_ (lo hi : Nat) : Nat := if decide (n < lo) || decide (hi < n) then St.range else St.ok
  let core (base : Nat) : Bool := decide (base ≤ num) && decide (num < base + 4)
  if core Obj.dictCcPriority0 then in_ 0 200
  else if core Obj.ccMsgGo0 then St.noRight
  else if core Obj.dictCcSub0 then s.ccSubCheck (num - Obj.dictCcSub0) n
  else if core Obj.dictCcRingBase0 then
    (if n % 16 = 0 && s.inFirmware n 1 then St.ok else St.range)
  else if core Obj.dictCcRingLen0 then
    (if decide (64 ≤ n) && decide (n ≤ 65536) && n == 2 ^ Nat.log2 n then St.ok else St.range)
  else if num = Obj.sessTimeout then in_ 1000 600000
  else if num = Obj.strangerMode then in_ 0 1
  else if num = Obj.rolePrioMax then in_ 0 200
  else if num = Obj.trustRoots then (if bytes.length % 48 = 0 then St.ok else St.range)
  else if num = Obj.sessKick then (if (s.session? n).isSome then St.ok else St.notPresent)
  else if core Obj.ccTackGo0 then s.ccTackCheck (num - Obj.ccTackGo0) n
  else St.ok

/-- The checks of lifecycle, power, and electrical objects (R335, R336, R338, R340, R347, R354–R357, R393). -/
def State.lifeCheck (s : State) (w : Writer) (num : Nat) (v : Int) (bytes : List Byte) : Nat :=
  let n := v.toNat
  if num = Obj.lcAdvance then
    s.lcCheck n (match w.src with
      | .session _ => w.role == some 4
      | _ => false)
  else if num = Obj.ownerKeyHash then s.ownerHashCheck bytes
  else if num = Obj.powerCmd then s.powerCheck n
  else if num = Obj.resetCmd then (if n = 1 then St.ok else St.range)
  else if num = Obj.ccReset then
    (match w.src with
      | .core k => if (n &&& 0xE) - (n &&& 0xE &&& 2 ^ k) = 0 then St.ok else St.noRight
      | _ => St.ok)
  else if Obj.thmOp0 ≤ num && decide (num < Obj.thmOp0 + 4) then s.thmCheck (num - Obj.thmOp0)
  else if num = Obj.testCmd then s.testCheck n
  else if num = Obj.debugOpen then (if s.nat Obj.lifecycle = 2 then St.lcState else St.ok)
  else if num = Obj.tjWarn then (if v < -40 || s.junctionMax < v then St.range else St.ok)
  else hemCheck num v

/-- The address of a mapping entry, up to its NUL (R294). -/
def oscAddr (l : List Byte) : List Byte := (l.drop 8).takeWhile (· != 0)
/-- The direction of a mapping entry: 0 off, 1 IN, 2 OUT, 3 BOTH. -/
def oscDir (l : List Byte) : Nat := (l.getD 4 0).toNat

/-- An address an entry may hold: it begins with a slash, is printable, holds none of the characters OSC reserves, and is
ended by NUL (R294). -/
def oscAddrOk (l : List Byte) : Bool :=
  let a := oscAddr l
  a.headD 0 == 0x2F && decide (a.length < 64) &&
    a.all (fun b => decide (0x21 ≤ b.toNat) && decide (b.toNat ≤ 0x7E) &&
      !([0x23, 0x2A, 0x2C, 0x3F, 0x5B, 0x5D, 0x7B, 0x7D].contains b.toNat))

/-- An object's type is in the table of R293. -/
def ODesc.oscType (d : ODesc) : Bool :=
  !d.arr && d.ty != .time && d.ty != .blob && d.ty != .u64 && d.ty != .i64

/-- The check of a mapping entry (R294): its length, number, direction and tag, its address and its object's type, whatever its
direction; a direction OUT or BOTH takes a subscription (R254). -/
def State.oscEntryCheck (s : State) (l : List Byte) : Nat :=
  let num := leNat (l.take 4)
  let i := s.nat Obj.oscMapSel
  let outOf (l : List Byte) : Bool := decide (2 ≤ oscDir l)
  if l.length ≠ 72 || decide (0x2000000 ≤ num) || decide (3 < oscDir l) || decide (3 < (l.getD 5 0).toNat) then St.range
  else if !oscAddrOk l || s.ven.map.any (fun e => e.1 != i && oscAddr e.2 == oscAddr l) then St.oscAddress
  else if (s.desc? num).any (fun d => !d.oscType) then St.type
  else if outOf l && !outOf (s.sampleBlob Obj.oscMapEntry) && decide (65536 ≤ s.subsUsed) then St.subFull
  else St.ok

/-- The checks of the owning chapters on the value element i would take. -/
def State.chapterCheck (s : State) (w : Writer) (num i : Nat) (v : Int) (bytes : List Byte) (after : Nat → Nat → Nat) : Nat :=
  let n := v.toNat
  firstBad [s.stitchCheck num after, s.basteCheck w num i n, s.dictCheck num n bytes, s.lifeCheck w num v bytes,
    s.lastCheck num i v bytes, s.memCheck num i v after, s.shCheck num i v, s.tdmCheck num i v, s.tbCheck num i v,
    s.venueCheck num i v bytes after, (if num = Obj.oscMapEntry then s.oscEntryCheck bytes else St.ok), s.serCheck num i v,
    s.dmaCheck num v, s.bootCheck num i v bytes]

/-! ## What an accepted write does beside the value -/

/-- The basting objects' effects: a group table's element, a cancel, a core's commit with its CC_COMMIT_RESULT (R113). -/
def State.basteEffect (s : State) (w : Writer) (num i : Nat) (old v : Int) : State :=
  let n := v.toNat
  if isGroupTable num then s.groupEffect num i old.toNat n
  else if num = Obj.commitCancel then s.cancelGroup n
  else if Obj.ccCommitGo0 ≤ num && decide (num < Obj.ccCommitGo0 + 4) then
    let k := num - Obj.ccCommitGo0
    let r := s.commitRequest w (bits n 11 0) (if n.testBit 12 then none else some (s.nat (Obj.ccCommitStitch0 + k)))
    r.2.2.setNat (Obj.ccCommitResult0 + k) 0 r.2.1
  else s

/-- The dictionary's and Ursin's own effects (R255, R257, R270, R272). -/
def State.dictEffect (s : State) (num : Nat) (v : Int) : State :=
  let n := v.toNat
  let core (base : Nat) : Bool := decide (base ≤ num) && decide (num < base + 4)
  let empty (k : Nat) : State := (s.setNat (Obj.dictCcRingHead0 + k) 0 0).setNat (Obj.dictCcRingTail0 + k) 0 0
  if core Obj.dictCcSub0 then s.ccSub (num - Obj.dictCcSub0) n
  else if core Obj.dictCcRingBase0 then empty (num - Obj.dictCcRingBase0)
  else if core Obj.dictCcRingLen0 then empty (num - Obj.dictCcRingLen0)
  else if num = Obj.sessKick then s.endSession n 5
  else if core Obj.ccTackGo0 then s.ccTack (num - Obj.ccTackGo0) n
  else s

/-- A core is reset, and starts again where it is released (R356). -/
def State.restartCore (s : State) (k : Nat) : State :=
  let t := s.resetCore k
  if t.bit Obj.coreRelease 0 k then t.startCore k else t

/-- CORE_RESET of CC1–CC3 (R356). -/
def State.coresReset (s : State) (n : Nat) : State :=
  [1, 2, 3].foldl (fun s k => if n.testBit k then s.restartCore k else s) s

/-- Lifecycle, power, debug, electrical and stitch objects' effects. -/
def State.lifeEffect (s : State) (num : Nat) (old v : Int) : State :=
  let n := v.toNat
  if num = Obj.lcAdvance then s.lcAdvance n
  else if num = Obj.powerCmd then s.powerEffect n
  else if num = Obj.resetCmd then s.deviceReset 6
  else if num = Obj.ccReset then s.coresReset n
  else if Obj.thmOp0 ≤ num && decide (num < Obj.thmOp0 + 4) then s.thmStart (num - Obj.thmOp0) n
  else if num = Obj.testCmd then s.testEffect n
  else if num = Obj.debugOpen then
    (if n = 1 then State.showDebug { s with dbg := { s.dbg with opened := true } } else s)
  else if num = Obj.rtcNow then { s with island := ⟨n * 1000000000000, s.now⟩ }
  else if num = Obj.vcoreMin then (if old < v && decide (s.nat Obj.vcoreNow < s.vcoreLow) then s.setVcore s.vcoreLow else s)
  else if Obj.canon num = 0xC001 then s.showPleat ((num - 0xC000) / 512)
  else s

/-- The encoded value of a mapping entry's object, where it is a scalar or a STR. -/
def State.oscValue (s : State) (l : List Byte) : List Byte × State :=
  match s.desc? (leNat (l.take 4)) with
  | some d => if d.arr then ([], s) else s.encodeValue d (leNat (l.take 4)) 0 1 false
  | none => ([], s)

/-- An OSC mapping entry is written (R294). -/
def State.oscEntryEffect (s : State) (l : List Byte) : State :=
  let i := s.nat Obj.oscMapSel
  let v : Venue := { s.ven with
    map := put (fun _ => List.replicate 72 0) s.ven.map i l
    mapLast := put (fun _ => 0) s.ven.mapLast i s.chgSeq
    mapSeen := put (fun _ => []) s.ven.mapSeen i (if 2 ≤ oscDir l then (s.oscValue l).1 else [])
    mapAt := put (fun _ => 0) s.ven.mapAt i s.now
    mapTold := put (fun _ => 0) s.ven.mapTold i s.now }
  let s1 := State.touch { s with ven := v } Obj.oscMapEntry
  (s1.setNat Obj.oscMapUsed 0 (v.map.filter (fun e => oscDir e.2 != 0)).length).showSubs

/-- What an accepted write does beside the value. -/
def State.chapterEffect (s : State) (w : Writer) (num i : Nat) (old v : Int) (bytes : List Byte) : State :=
  let s1 := (((s.basteEffect w num i old v).dictEffect num v).lifeEffect num old v).lastEffect num i old v bytes
  let s2 := (((s1.memEffect num i old v).shEffect num i old v).tdmEffect num i old v).tbEffect num i old v
  let s3 := ((s2.venueEffect num i old v bytes).dmaEffect num v).bootEffect num i old v bytes
  let s4 := if num = Obj.serMGo then s3.serGo i v.toNat else s3
  if num = Obj.oscMapEntry then s4.oscEntryEffect bytes else s4

/-! ## One object's write -/

/-- Element i takes a value: the shadow of a basted object, both pages of an unbasted parameter from the next strobe (R95,
R123), a slot under its policy; a write-only object keeps none. -/
def State.storeElem (s : State) (w : Writer) (d : ODesc) (num i : Nat) (v : Int) : State :=
  if d.wo then s
  else if isSlot num then (s.slotWrite w.src w.prio num v).showPairs
  else
    let s1 := s.setObj num i v
    if (s.param? num).isSome && !d.basted then s1.addDue (.pages (objKey num i) v) else s1

/-- The elements of a write one after another: the owning chapter's check, the value, the effect. -/
def State.writeElems (s : State) (w : Writer) (d : ODesc) (num : Nat) (after : Nat → Nat → Nat) : Nat → List Int → Nat × State
  | _, [] => (St.ok, s)
  | i, v :: t =>
    let new := s.newVal num i v
    let st := s.chapterCheck w num i new [] after
    if st ≠ St.ok then (st, s)
    else
      let old := s.obj num i
      ((s.storeElem w d num i new).chapterEffect w num i old new []).writeElems w d num after (i + 1) t

/-- A STR or BLOB is written. -/
def State.writeBytes (s : State) (w : Writer) (d : ODesc) (num : Nat) (l : List Byte) (after : Nat → Nat → Nat) : Nat × State :=
  let st := s.chapterCheck w num 0 0 l after
  if st ≠ St.ok then (st, s)
  else (St.ok, (if d.wo || num = Obj.oscMapEntry then s else s.setBlob num l).chapterEffect w num 0 0 0 l)

/-- Objects a profile's write changes with it (R211). -/
def alsoWritten (num : Nat) : List Nat :=
  if num = Obj.ptpProfile then [Obj.ptpDomain, Obj.ptpIntervals, Obj.ptpAnnTimeout] else []

/-- An accepted change of a PERSIST object starts a batch or joins it (R252). -/
def State.journalled (s : State) (before : State) (num : Nat) : State :=
  (num :: alsoWritten num).foldl (fun s n =>
    if s.persistChanged before n then s.markDirty n else s) s

/-- What a refusal does: a commit refused counts (R101). -/
def State.refused (s : State) (num st : Nat) : State :=
  if Obj.ccCommitGo0 ≤ num && decide (num < Obj.ccCommitGo0 + 4) && decide (St.commitService ≤ st) && decide (st ≤ St.commitNone) then
    s.bump Obj.commitRefusedHem
  else s

/-- Write one object (R240): the first status that applies, and the state. -/
def State.objWrite (s : State) (w : Writer) (q : WReq) (after : Nat → Nat → Nat) : Nat × State :=
  match s.desc? q.num with
  | none => (St.notPresent, s)
  | some d =>
    let st := firstBad [d.rightCheck w q, d.typeCheck q, d.rangeCheck q]
    if st ≠ St.ok then (st, s.refused q.num st)
    else
      let r := if d.ty.isBytes then s.writeBytes w d q.num q.bytes after else s.writeElems w d q.num after q.first (d.values q)
      if r.1 ≠ St.ok then (r.1, s.refused q.num r.1)
      else
        let m := s.mergeCheck w.src w.prio q.num
        if m ≠ St.ok then (m, s) else (St.ok, r.2.journalled s q.num)

/-- A number that only a store through the object window writes (R116). -/
def windowOnly (num : Nat) : Bool := decide (Obj.ccCommitGo0 ≤ num) && decide (num < Obj.ccCommitGo0 + 4)

/-- A write by a message: one of CC_COMMIT_GOn is refused with COMMIT_ROLE, its own core's too (R116; DESIGN CHOICE, assumption
200). -/
def State.messageWrite (s : State) (w : Writer) (q : WReq) (after : Nat → Nat → Nat) : Nat × State :=
  if windowOnly q.num then (St.commitRole, s.refused q.num St.commitRole) else s.objWrite w q after

/-- An element as a set of writes would leave it. -/
def State.afterAll (s : State) (l : List WReq) (num i : Nat) : Nat :=
  match l.find? (fun q => q.num == num && decide (q.first ≤ i) && decide (i < q.first + q.count)) with
  | none => s.nat num i
  | some q =>
    match s.desc? num with
    | none => 0
    | some d => (s.newVal num i ((d.values q).getD (i - q.first) 0)).toNat

/-- A write's operations (R256). -/
def State.writeOps (s : State) (q : WReq) : Nat :=
  match s.desc? q.num with
  | none => 1
  | some d => d.ops q.count q.bytes.length

/-- A write of one object alone, with its operations counted. -/
def State.write1 (s : State) (w : Writer) (q : WReq) : Nat × State :=
  (s.countOps (s.writeOps q)).objWrite w q (s.afterAll [q])

/-! ## A control core's store (R20, R21) -/

/-- A message's write of one object alone, with its operations counted. -/
def State.messageWrite1 (s : State) (w : Writer) (q : WReq) : Nat × State :=
  (s.countOps (s.writeOps q)).messageWrite w q (s.afterAll [q])

/-- A core's store to the object window retires: a refusal faults, and leaves its status in CC_WSTATUSn. -/
def State.retireStore (s : State) (n st : Nat) : State :=
  if st = St.ok then s.emit (.core n .stored) else (s.setNat (Obj.ccWstatus0 + n) 0 st).emit (.core n .accessFault)

/-- A write that a row of the command table names: a core writes what the window carries by a store to it. An accepted
VALIDATE retires at its end (R330). -/
def State.rowWrite (s : State) (w : Writer) (q : WReq) : State :=
  let r := s.write1 w q
  match w.src with
  | .core n =>
    if (s.desc? q.num).any (fun d => d.inHeap) || r.2.phase != .running then r.2
    else if r.1 = St.ok && q.num == Obj.updCmd && s.boot.validating.isNone && r.2.boot.validating == some .none then
      r.2.modBoot (fun b => { b with validating := some (.core n) })
    else r.2.retireStore n r.1
  | _ => r.2

/-- The write of one element by its value. -/
def State.elemReq (s : State) (num i : Nat) (v : Int) : WReq :=
  match s.desc? num with
  | some d => ⟨num, i, 1, d.code, d.ty.encode v⟩
  | none => ⟨num, i, 1, 0, []⟩

/-- The write of a STR or BLOB. -/
def State.blobReq (s : State) (num : Nat) (l : List Byte) : WReq :=
  match s.desc? num with
  | some d => ⟨num, 0, 1, d.code, l⟩
  | none => ⟨num, 0, 1, 0, l⟩

/-- A row that writes one element. -/
def writeRow (dt : Nat) (w : Writer) (num i : Nat) (v : Int) (s : State) : Host.Outcome State Fault Refusal :=
  whenRunning dt s (fun s => s.rowWrite w (s.elemReq num i v))

/-- A row that writes a BLOB. -/
def blobRow (dt : Nat) (w : Writer) (num : Nat) (l : List Byte) (s : State) : Host.Outcome State Fault Refusal :=
  whenRunning dt s (fun s => s.rowWrite w (s.blobReq num l))

end Sys2Proof.Machine
end

