-- ==== Sys2Proof/Machine/WriteRows.lean ====
section
/-!
DEFINITION. The rows of the command table that write one object, each by its object's number and value; and the end of a
validation.
-/

namespace Sys2Proof.Machine

/-! ## Basting and the Last -/

/-- COMMIT_CANCEL (R111). -/
def execCommitCancel (dt : Nat) (w : Writer) (g : BitVec 16) (s : State) : Host.Outcome State Fault Refusal :=
  writeRow dt w Obj.commitCancel 0 (Int.ofNat g.toNat) s

/-- GROUP_TABLE_WRITE (R98). -/
def execGroupTableWrite (dt : Nat) (w : Writer) (num : BitVec 25) (i : Fin 1024) (v : BitVec 16) (s : State) : Host.Outcome State Fault Refusal :=
  writeRow dt w num.toNat i.val (Int.ofNat v.toNat) s

/-- PLACE_FULL (R129): KIND 1 of PLACE_CMD. -/
def execPlaceFull (dt : Nat) (w : Writer) (s : State) : Host.Outcome State Fault Refusal :=
  writeRow dt w Obj.placeCmd 0 (Int.ofNat (1)) s

/-- PLACE_REMOVE (R131): KIND 2. -/
def execPlaceRemove (dt : Nat) (w : Writer) (piece : BitVec 12) (s : State) : Host.Outcome State Fault Refusal :=
  writeRow dt w Obj.placeCmd 0 (Int.ofNat (2 + 16 * piece.toNat)) s

/-- PLACE_RESTORE (R131): KIND 3. -/
def execPlaceRestore (dt : Nat) (w : Writer) (piece : BitVec 12) (s : State) : Host.Outcome State Fault Refusal :=
  writeRow dt w Obj.placeCmd 0 (Int.ofNat (3 + 16 * piece.toNat)) s

/-- PLACE_MOVE (R131): KIND 4 with its target needle. -/
def execPlaceMove (dt : Nat) (w : Writer) (piece : BitVec 12) (target : BitVec 7) (s : State) : Host.Outcome State Fault Refusal :=
  writeRow dt w Obj.placeCmd 0 (Int.ofNat (4 + 16 * piece.toNat + 65536 * target.toNat)) s

/-- PLACE_SET_TAP (R137): KIND 5; PLACE_ARG holds the delay. -/
def execPlaceSetTap (dt : Nat) (w : Writer) (spool : BitVec 12) (s : State) : Host.Outcome State Fault Refusal :=
  writeRow dt w Obj.placeCmd 0 (Int.ofNat (5 + 16 * spool.toNat)) s

/-- PLACE_REBALANCE (R131): KIND 6. -/
def execPlaceRebalance (dt : Nat) (w : Writer) (s : State) : Host.Outcome State Fault Refusal :=
  writeRow dt w Obj.placeCmd 0 (Int.ofNat (6)) s

/-- PAT_STAGE_DATA (R117). -/
def execPatStageData (dt : Nat) (w : Writer) (l : List Byte) (s : State) : Host.Outcome State Fault Refusal :=
  blobRow dt w Obj.patStageData l s

/-- RESOURCE_MAP_WRITE (R138). -/
def execResourceMapWrite (dt : Nat) (w : Writer) (i : Fin 4) (v : BitVec 32) (s : State) : Host.Outcome State Fault Refusal :=
  writeRow dt w Obj.resourceMap i.val (Int.ofNat v.toNat) s

/-- BOBBIN_MAP_WRITE (R151). -/
def execBobbinMapWrite (dt : Nat) (w : Writer) (i : Fin 4) (v : BitVec 32) (s : State) : Host.Outcome State Fault Refusal :=
  writeRow dt w Obj.bobbinMap i.val (Int.ofNat v.toNat) s

/-- BOBBIN_OWNER_WRITE (R151). -/
def execBobbinOwnerWrite (dt : Nat) (w : Writer) (b : Fin 128) (v : BitVec 8) (s : State) : Host.Outcome State Fault Refusal :=
  writeRow dt w Obj.bobbinOwner b.val (Int.ofNat v.toNat) s

/-! ## Shuttles, ports and the timebase -/

/-- STREAM_ENABLE (R171). -/
def execStreamEnable (dt : Nat) (w : Writer) (sh : Fin 2) (tx : Bool) (i : Fin 256) (on : Bool) (s : State) : Host.Outcome State Fault Refusal :=
  writeRow dt w (shObj sh.val (if tx then Obj.shTxEnable else Obj.shRxEnable)) i.val (if on then 1 else 0) s

/-- SH_RX_MAP_COMMIT (R184). -/
def execShRxMapCommit (dt : Nat) (w : Writer) (sh : Fin 2) (i : BitVec 16) (s : State) : Host.Outcome State Fault Refusal :=
  writeRow dt w (shObj sh.val Obj.shRxMapCommit) 0 (Int.ofNat i.toNat) s

/-- SH_TX_MAP_COMMIT (R184). -/
def execShTxMapCommit (dt : Nat) (w : Writer) (sh : Fin 2) (i : BitVec 16) (s : State) : Host.Outcome State Fault Refusal :=
  writeRow dt w (shObj sh.val Obj.shTxMapCommit) 0 (Int.ofNat i.toNat) s

/-- SH_PAIR_MODE (R190). -/
def execShPairMode (dt : Nat) (w : Writer) (on : Bool) (s : State) : Host.Outcome State Fault Refusal :=
  writeRow dt w Obj.shPairMode 0 (if on then 1 else 0) s

/-- TDM_MAP_COMMIT (R203). -/
def execTdmMapCommit (dt : Nat) (w : Writer) (p : BitVec 8) (s : State) : Host.Outcome State Fault Refusal :=
  writeRow dt w Obj.tdmMapCommit 0 (Int.ofNat p.toNat) s

/-- TDM_CFG_WRITE (R207). -/
def execTdmCfgWrite (dt : Nat) (w : Writer) (p : Fin 16) (v : BitVec 32) (s : State) : Host.Outcome State Fault Refusal :=
  writeRow dt w Obj.tdmCfg p.val (Int.ofNat v.toNat) s

/-- TB_SET (R217). -/
def execTbSet (dt : Nat) (w : Writer) (ns : Nat) (s : State) : Host.Outcome State Fault Refusal :=
  writeRow dt w Obj.tbSet 0 (Int.ofNat ns) s

/-- PTP_PROFILE_WRITE (R211). -/
def execPtpProfileWrite (dt : Nat) (w : Writer) (v : BitVec 8) (s : State) : Host.Outcome State Fault Refusal :=
  writeRow dt w Obj.ptpProfile 0 (Int.ofNat v.toNat) s

/-- CLK_PHASE_WRITE (R227). -/
def execClkPhaseWrite (dt : Nat) (w : Writer) (i : Fin 10) (v : BitVec 16) (s : State) : Host.Outcome State Fault Refusal :=
  writeRow dt w Obj.clkPhase i.val v.toInt s

/-! ## Ursin, the dictionary and the venue -/

/-- SESS_KICK (R270, R275). -/
def execSessKick (dt : Nat) (w : Writer) (id : BitVec 32) (s : State) : Host.Outcome State Fault Refusal :=
  writeRow dt w Obj.sessKick 0 (Int.ofNat id.toNat) s

/-- DICT_CC_RING_CONFIG (R255): BASE, LEN or TAIL of core n's ring. -/
def execDictCcRingConfig (dt : Nat) (w : Writer) (n : Fin 4) (which : Fin 3) (v : BitVec 64) (s : State) : Host.Outcome State Fault Refusal :=
  writeRow dt w ((if which = 0 then Obj.dictCcRingBase0 else if which = 1 then Obj.dictCcRingLen0 else Obj.dictCcRingTail0) + n.val) 0 (Int.ofNat (if which = 0 then v.toNat else v.toNat % 2 ^ 32)) s

/-- UNIV_CFG_WRITE (R276). -/
def execUnivCfgWrite (dt : Nat) (w : Writer) (u : Fin 32768) (v : BitVec 16) (s : State) : Host.Outcome State Fault Refusal :=
  writeRow dt w (Obj.univCfg0 + u.val / 1024) (u.val % 1024) (Int.ofNat v.toNat) s

/-- DMX_CFG_WRITE (R284, R285). -/
def execDmxCfgWrite (dt : Nat) (w : Writer) (timing : Bool) (p : Fin 8) (v : BitVec 32) (s : State) : Host.Outcome State Fault Refusal :=
  writeRow dt w (if timing then Obj.dmxTiming else Obj.dmxCfg) p.val (Int.ofNat v.toNat) s

/-- RDM_CMD (R288). -/
def execRdmCmd (dt : Nat) (w : Writer) (p : Fin 8) (l : List Byte) (s : State) : Host.Outcome State Fault Refusal :=
  blobRow dt w (Obj.rdmCmd0 + p.val) l s

/-- RDM_DISCOVER (R289). -/
def execRdmDiscover (dt : Nat) (w : Writer) (p : Byte) (s : State) : Host.Outcome State Fault Refusal :=
  writeRow dt w Obj.rdmDiscover 0 (Int.ofNat p.toNat) s

/-- OSC_MAP_ENTRY (R294). -/
def execOscMapEntry (dt : Nat) (w : Writer) (l : List Byte) (s : State) : Host.Outcome State Fault Refusal :=
  blobRow dt w Obj.oscMapEntry l s

/-- DMA_GO (R309). -/
def execDmaGo (dt : Nat) (w : Writer) (c : Byte) (s : State) : Host.Outcome State Fault Refusal :=
  writeRow dt w Obj.dmaGo 0 (Int.ofNat c.toNat) s

/-- DMA_STOP (R309). -/
def execDmaStop (dt : Nat) (w : Writer) (c : Byte) (s : State) : Host.Outcome State Fault Refusal :=
  writeRow dt w Obj.dmaStop 0 (Int.ofNat c.toNat) s

/-! ## Boot and update -/

/-- CORE_RELEASE (R323). -/
def execCoreRelease (dt : Nat) (w : Writer) (v : Byte) (s : State) : Host.Outcome State Fault Refusal :=
  writeRow dt w Obj.coreRelease 0 (Int.ofNat v.toNat) s

/-- ACCEPT (R327). -/
def execAccept (dt : Nat) (w : Writer) (v : Byte) (s : State) : Host.Outcome State Fault Refusal :=
  writeRow dt w Obj.accept 0 (Int.ofNat v.toNat) s

/-- KEY_REVOKE (R329). -/
def execKeyRevoke (dt : Nat) (w : Writer) (v : Byte) (s : State) : Host.Outcome State Fault Refusal :=
  writeRow dt w Obj.keyRevoke 0 (Int.ofNat v.toNat) s

/-- BEGIN (R330): KIND 1 of UPD_CMD. -/
def execUpdBegin (dt : Nat) (w : Writer) (s : State) : Host.Outcome State Fault Refusal :=
  writeRow dt w Obj.updCmd 0 1 s

/-- VALIDATE (R330): KIND 2; UPD_VALIDATE_DONE ends it. -/
def execValidate (dt : Nat) (w : Writer) (s : State) : Host.Outcome State Fault Refusal :=
  writeRow dt w Obj.updCmd 0 2 s

/-- TRIAL_RESET (R330): KIND 3. -/
def execTrialReset (dt : Nat) (w : Writer) (s : State) : Host.Outcome State Fault Refusal :=
  writeRow dt w Obj.updCmd 0 3 s

/-- UPD_DATA (R330). -/
def execUpdData (dt : Nat) (w : Writer) (l : List Byte) (s : State) : Host.Outcome State Fault Refusal :=
  blobRow dt w Obj.updData l s

/-- SAFE_STAGE_DATA (R316). -/
def execSafeStageData (dt : Nat) (w : Writer) (l : List Byte) (s : State) : Host.Outcome State Fault Refusal :=
  blobRow dt w Obj.safeStageData l s

/-- SAFE_WRITE (R316). -/
def execSafeWrite (dt : Nat) (w : Writer) (v : Byte) (s : State) : Host.Outcome State Fault Refusal :=
  writeRow dt w Obj.safeWrite 0 (Int.ofNat v.toNat) s

/-- MEAS_EXT_GO (R326). -/
def execMeasExtGo (dt : Nat) (w : Writer) (i : Byte) (s : State) : Host.Outcome State Fault Refusal :=
  writeRow dt w Obj.measExtGo 0 (Int.ofNat i.toNat) s

/-! ## Lifecycle, power and test -/

/-- RESET_CMD (R355). -/
def execResetCmd (dt : Nat) (w : Writer) (v : Byte) (s : State) : Host.Outcome State Fault Refusal :=
  writeRow dt w Obj.resetCmd 0 (Int.ofNat v.toNat) s

/-- CC_RESET (R356). -/
def execCcReset (dt : Nat) (w : Writer) (v : Byte) (s : State) : Host.Outcome State Fault Refusal :=
  writeRow dt w Obj.ccReset 0 (Int.ofNat v.toNat) s

/-- OWNER_KEY_HASH (R335). -/
def execOwnerKeyHash (dt : Nat) (w : Writer) (l : List Byte) (s : State) : Host.Outcome State Fault Refusal :=
  blobRow dt w Obj.ownerKeyHash l s

/-- LC_ADVANCE (R336, R337). -/
def execLcAdvance (dt : Nat) (w : Writer) (v : Byte) (s : State) : Host.Outcome State Fault Refusal :=
  writeRow dt w Obj.lcAdvance 0 (Int.ofNat v.toNat) s

/-- DEBUG_OPEN (R340). -/
def execDebugOpen (dt : Nat) (w : Writer) (v : Bool) (s : State) : Host.Outcome State Fault Refusal :=
  writeRow dt w Obj.debugOpen 0 (if v then 1 else 0) s

/-- POWER_CMD_RUN (R347, R349). -/
def execPowerCmdRun (dt : Nat) (w : Writer) (s : State) : Host.Outcome State Fault Refusal :=
  writeRow dt w Obj.powerCmd 0 0 s

/-- POWER_CMD_HUSH (R347, R349). -/
def execPowerCmdHush (dt : Nat) (w : Writer) (force : Bool) (s : State) : Host.Outcome State Fault Refusal :=
  writeRow dt w Obj.powerCmd 0 (if force then 129 else 1) s

/-- POWER_CMD_STANDBY (R347, R350). -/
def execPowerCmdStandby (dt : Nat) (w : Writer) (force : Bool) (s : State) : Host.Outcome State Fault Refusal :=
  writeRow dt w Obj.powerCmd 0 (if force then 130 else 2) s

/-- A TEST_CMD word: PLEATS, RATE, FORCE and KIND (R357). -/
def testWord (pleats : BitVec 16) (rate : BitVec 3) (force : Bool) (kind : Nat) : Int :=
  Int.ofNat (65536 * pleats.toNat + 512 * rate.toNat + (if force then 256 else 0) + kind)

/-- NEEDLE_BIST (R354): KIND 1 of TEST_CMD. -/
def execNeedleBist (dt : Nat) (w : Writer) (pleats : BitVec 16) (rate : BitVec 3) (force : Bool) (s : State) : Host.Outcome State Fault Refusal :=
  writeRow dt w Obj.testCmd 0 (testWord pleats rate force 1) s

/-- MEMORY_BIST (R354): KIND 2 of TEST_CMD. -/
def execMemoryBist (dt : Nat) (w : Writer) (pleats : BitVec 16) (rate : BitVec 3) (force : Bool) (s : State) : Host.Outcome State Fault Refusal :=
  writeRow dt w Obj.testCmd 0 (testWord pleats rate force 2) s

/-- ANALOG (R354): KIND 3 of TEST_CMD. -/
def execAnalog (dt : Nat) (w : Writer) (pleats : BitVec 16) (rate : BitVec 3) (force : Bool) (s : State) : Host.Outcome State Fault Refusal :=
  writeRow dt w Obj.testCmd 0 (testWord pleats rate force 3) s

/-- END (R354): KIND 0. -/
def execTestEnd (dt : Nat) (w : Writer) (s : State) : Host.Outcome State Fault Refusal :=
  writeRow dt w Obj.testCmd 0 0 s

/-! ## Needles and VCORE -/

/-- NDL_STICKY_WRITE (R37). -/
def execNdlStickyWrite (dt : Nat) (w : Writer) (n : Fin 128) (v : BitVec 32) (s : State) : Host.Outcome State Fault Refusal :=
  writeRow dt w (ndlObj n.val 0x20) 0 (Int.ofNat v.toNat) s

/-- NDL_TAPE_STATUS_WRITE (R86). -/
def execNdlTapeStatusWrite (dt : Nat) (w : Writer) (n : Fin 128) (v : BitVec 32) (s : State) : Host.Outcome State Fault Refusal :=
  writeRow dt w (ndlObj n.val 1) 0 (Int.ofNat v.toNat) s

/-- AVS_STATUS_WRITE (R89): FAULT clears, and the loop may write again. -/
def execAvsStatusWrite (dt : Nat) (w : Writer) (v : BitVec 32) (s : State) : Host.Outcome State Fault Refusal :=
  writeRow dt w Obj.avsStatus 0 (Int.ofNat v.toNat) s

/-- VCORE_LIMIT_WRITE (R87). -/
def execVcoreLimitWrite (dt : Nat) (w : Writer) (max : Bool) (v : BitVec 16) (s : State) : Host.Outcome State Fault Refusal :=
  writeRow dt w (if max then Obj.vcoreMax else Obj.vcoreMin) 0 (Int.ofNat v.toNat) s

/-! ## Every other object -/

/-- The elements a written value holds, by its object's type. -/
def State.countOf (s : State) (num len : Nat) : Nat :=
  match s.desc? num with
  | some d => if d.ty.isBytes || d.ty.size = 0 then 1 else len / d.ty.size
  | none => 1

/-- OBJECT_WRITE (R240): a write to an object that has no row of its own. -/
def execObjectWrite (dt : Nat) (w : Writer) (num : BitVec 25) (first : BitVec 16) (ty : Byte) (l : List Byte) (s : State) :
    Host.Outcome State Fault Refusal :=
  whenRunning dt s (fun s => s.rowWrite w ⟨num.toNat, first.toNat, s.countOf num.toNat l.length, ty.toNat, l⟩)

/-! ## The end of a validation (R330) -/

/-- Keep a reply while its SEQ is within the session's window (R264). -/
def State.keepReply (s : State) (r : Reply) : State :=
  s.modSession r.session (fun x => { x with replies := (r.seq, r) :: x.replies.filter (fun e => decide (x.h < e.1 + 64)) })

/-- What waited for a validation gets its answer: the reply of a WRITE, or a core's store. -/
def State.answerHeld (s : State) (h : Held) (st : Nat) : State :=
  match h with
  | .reply r =>
    let r1 := Reply.seal { r with status := st } ((s.session? r.session).map (·.keys))
    (s.keepReply r1).send false r1
  | .core n => s.retireStore n st
  | .none => s

/-- UPD_VALIDATE_DONE (R330): the target has been read back and checked. -/
def execUpdValidateDone (dt : Nat) (readOk : Bool) (s : State) : Host.Outcome State Fault Refusal :=
  whenRunning dt s (fun s =>
    match s.boot.validating with
    | some h => s.onFlash (fun s =>
      let slot := s.boot.target.getD s.otherSlot
      let r := (s.selectBank (flashSlot slot)).validate slot readOk
      r.1.answerHeld h (if r.2 then St.ok else St.imageBad))
    | none => s)

end Sys2Proof.Machine
end

