-- ==== Sys2Proof/Machine/Request.lean ====
section
/-!
DEFINITION. The operations a request names (R246–R250, R254, R265–R267, R272): reads, writes, blocks, and the form of a
request (R260–R262), as Ursin messages and the control cores' message path (R22) share them.
-/

namespace Sys2Proof.Machine

/-- A request's header fields and payload (R260). -/
structure Req where
  flags : Nat
  status : Nat
  count : Nat
  object : Nat
  first : Nat
  payload : List Byte
  deriving DecidableEq, Repr

/-- What a reply carries: STATUS, COUNT and payload. -/
structure Ans where
  status : Nat
  count : Nat
  payload : List Byte
  deriving DecidableEq, Repr

/-- A reply with no payload. -/
def Req.plain (q : Req) (st : Nat) : Ans := ⟨st, q.count, []⟩

/-- Payload bytes of a message at most (R259). -/
def maxPayload : Nat := 8152

/-! ## Form (R261, R262, R265, R266) -/

/-- The padding of a value of n bytes is there and zero. -/
def padOk (l : List Byte) (n : Nat) : Bool := (l.drop n).take ((4 - n % 4) % 4) == padTo4 n

/-- The entries of a payload, each with TYPE and value; none where the bytes are no sequence of entries (R265). -/
def entriesOf : Nat → List Byte → Option (List (Nat × List Byte))
  | 0, l => if l.isEmpty then some [] else none
  | k + 1, st :: ty :: a :: b :: l =>
    let n := a.toNat + 256 * b.toNat
    if st != 0 || decide (l.length < n + (4 - n % 4) % 4) || !padOk l n then none
    else (entriesOf k (l.drop (n + (4 - n % 4) % 4))).map (fun t => (ty.toNat, l.take n) :: t)
  | _ + 1, _ => none

/-- Opcodes (R266). -/
def Op.read : Nat := 0x10
/-- WRITE. -/
def Op.write : Nat := 0x11
/-- BLOCK_READ. -/
def Op.blockRead : Nat := 0x12
/-- BLOCK_WRITE. -/
def Op.blockWrite : Nat := 0x13

/-- The header fields every request keeps: flags that suit its opcode, STATUS 0, OBJECT within 25 bits, FIRST 0–1 023 and only
for READ and WRITE, where a FIRST outside the object's elements is R247's TYPE (R260–R262). -/
def Req.headOk (q : Req) (op : Nat) : Bool :=
  let allowed := if op = Op.read then 0xC else if op = Op.blockRead then 0x4 else 0
  (q.flags &&& allowed) == q.flags && q.status == 0 && decide (q.object < 0x2000000) &&
    (if op = Op.read || op = Op.write then decide (q.first < 1024) else q.first == 0)

/-- The form of the four operations both paths carry. -/
def Req.dataOk (q : Req) (op : Nat) : Bool :=
  let block := decide (1 ≤ q.count) && decide (q.count ≤ 256)
  q.headOk op &&
    (if op = Op.read then q.payload.isEmpty
    else if op = Op.write then (entriesOf 1 q.payload).isSome
    else if op = Op.blockRead then block && q.payload.isEmpty
    else block && (entriesOf q.count q.payload).isSome)

/-! ## READ (R246, R247, R267) -/

/-- COUNT and FIRST name elements the object has. -/
def ODesc.spanOk (d : ODesc) (q : Req) : Bool :=
  if d.arr then decide (1 ≤ q.count) && decide (q.first + q.count ≤ d.n) else q.count == 1 && q.first == 0

/-- READ: a value, a committed value or a descriptor; every read counts as operations (R256). -/
def State.opRead (s : State) (role : Option Nat) (q : Req) : Ans × State :=
  match s.desc? q.object with
  | none => (q.plain St.notPresent, s.countOps 1)
  | some d =>
    if q.flags.testBit 3 then
      if !d.arr && !d.spanOk q then (q.plain St.type, s.countOps 1)
      else if role.isNone && !d.pub then (q.plain St.noRight, s.countOps 1)
      else
        let (l, t) := s.descriptor d q.object (d.may 0 role)
        (⟨St.ok, q.count, entryOf St.ok 0xFF l⟩, t.countOps 1)
    else if !d.may 0 role then (q.plain St.noRight, s.countOps 1)
    else if !d.spanOk q then (q.plain St.type, s.countOps 1)
    else
      let (l, t) := s.encodeValue d q.object q.first q.count (q.flags.testBit 2)
      let e := entryOf St.ok d.code l
      if maxPayload < e.length then (q.plain St.tooLong, s.countOps 1)
      else (⟨St.ok, q.count, e⟩, t.countOps (d.ops q.count l.length))

/-! ## WRITE (R240, R247) -/

/-- The write an entry asks for. -/
def entryReq (num first count : Nat) (e : Nat × List Byte) : WReq := ⟨num, first, count, e.1, e.2⟩

/-- WRITE: COUNT must be 1 and FIRST 0 for an object that is no ARRAY (R266). -/
def State.opWrite (s : State) (w : Writer) (q : Req) : Ans × State :=
  match entriesOf 1 q.payload with
  | some [e] =>
    let r : WReq := entryReq q.object q.first q.count e
    let bad := (s.desc? q.object).any (fun d => d.rightCheck w r == St.ok && !d.spanOk q)
    if bad then (q.plain St.type, s.countOps 1)
    else
      let (st, t) := s.messageWrite1 w r
      (q.plain st, t)
  | _ => (q.plain St.format, s)

/-! ## BLOCK_READ (R248, R249, R266) -/

/-- The entry of one visited number. -/
def State.blockEntry (s : State) (role : Option Nat) (committed : Bool) (num : Nat) : List Byte × State :=
  match s.desc? num with
  | none => (entryNone St.notPresent, s)
  | some d =>
    if !d.may 0 role then (entryNone St.noRight, s)
    else
      let (l, t) := s.encodeValue d num 0 d.elems committed
      (entryOf St.ok d.code l, t)

/-- Visit up to k numbers from num; n entries of len bytes stand before: the status, entries and bytes of the rest. -/
def State.blockRest (s : State) (role : Option Nat) (committed : Bool) (n len : Nat) : Nat → Nat → Nat × Nat × List Byte × State
  | _, 0 => (St.ok, 0, [], s)
  | num, k + 1 =>
    let (e0, t) := s.blockEntry role committed num
    let e := if n = 0 && decide (maxPayload < e0.length) then entryNone St.tooLong else e0
    if maxPayload < len + e.length then (St.truncated, 0, [], s)
    else
      let u := t.countOps 1
      if num = rangeEnd num then ((if num = 0x1FFFFFF then St.endOk else St.rangeEnd), 1, e, u)
      else
        let (st, m, l, v) := u.blockRest role committed (n + 1) (len + e.length) (num + 1) k
        (st, m + 1, e ++ l, v)

/-- Hem boundaries less than a span of ns ago (R369). -/
def State.boundariesIn (s : State) (span : Nat) : Nat := (s.hem.swaps.filter (fun t => decide (s.now < t + 1000 * span))).length

/-- BLOCK_READ; the reply's COUNT is the number of its entries. Its SNAPSHOT entries come from the bank that was readable when it
visited the first of them, a span of ns ago: after one boundary since it is the other bank, and a second one ends the block with STALE
and no entries (R369). -/
def State.opBlockRead (s : State) (role : Option Nat) (span : Nat) (q : Req) : Ans × State :=
  let late := s.boundariesIn span
  let (st, n, l, t) := (if late = 0 then s else s.withBank s.hem.bank).blockRest role (q.flags.testBit 2) 0 0 q.object q.count
  let u := if late = 0 then t else t.withBank s.readableBank
  if 2 ≤ late && (List.range n).any (fun i => inBank (q.object + i)) then (⟨St.stale, 0, []⟩, u) else (⟨st, n, l⟩, u)

/-! ## BLOCK_WRITE (R250) -/

/-- Write the objects of a block in ascending order: the first number refused, with its status, or the state. -/
def State.writeAll (s : State) (w : Writer) (after : Nat → Nat → Nat) : List WReq → Nat × Nat × State
  | [] => (St.ok, 0, s)
  | q :: t =>
    let (st, u) := s.messageWrite w q after
    if st ≠ St.ok then (st, q.num, s) else u.writeAll w after t

/-- BLOCK_WRITE: all or nothing; a refusal names the first number refused. -/
def State.opBlockWrite (s : State) (w : Writer) (q : Req) : Ans × State :=
  let last := rangeEnd q.object
  let no (st num : Nat) : Ans := ⟨st, q.count, leBytes 4 num⟩
  match entriesOf q.count q.payload with
  | none => (q.plain St.format, s)
  | some es =>
    let t := s.countOps q.count
    if last < q.object + q.count - 1 then (no (if last = 0x1FFFFFF then St.endOk else St.rangeEnd) (last + 1), t)
    else
      let l := es.zipIdx.map (fun e =>
        entryReq (q.object + e.2) 0 (((s.desc? (q.object + e.2)).map (·.elems)).getD 1) e.1)
      let (st, num, u) := t.writeAll w (t.afterAll l) l
      if st ≠ St.ok then (no st num, t) else (q.plain St.ok, u)

/-- One of the four operations by a source with a role and a priority. -/
def State.opData (s : State) (w : Writer) (op span : Nat) (q : Req) : Ans × State :=
  if op = Op.read then s.opRead w.role q
  else if op = Op.write then s.opWrite w q
  else if op = Op.blockRead then s.opBlockRead w.role span q
  else s.opBlockWrite w q

end Sys2Proof.Machine
end

