-- ==== Sys2Proof/Machine/Ursin.lean ====
section
/-!
DEFINITION. Ursin messages as they arrive (R258–R270, R272, R332): their checks and sequence numbers, the handshake, and the
operations of a session.
-/

namespace Sys2Proof.Machine

/-! ## Arrival -/

/-- A message is dropped and counted (R262). -/
def State.dropUrsin (s : State) : State := s.bump Obj.ursinDropHem

/-- MAGIC and VERSION hold, and LENGTH matches the size received, which is at most 8 192 bytes (R259, R260, R262). -/
def formOk (m : UMsg) : Bool :=
  m.magic == 0x5552 && m.version == 1 && m.payload.length == m.length.toNat && decide (m.payload.length ≤ maxPayload) &&
    m.tag.length == 16

/-- A message's 24-byte header, its opcode named by the command (R260). -/
def headerOf (m : UMsg) (op : Nat) : List Byte :=
  msgHeader m.magic.toNat m.version.toNat m.flags.toNat m.session.toNat m.seq.toNat op m.status.toNat m.count.toNat m.object.toNat
    m.length.toNat m.first.toNat

/-- A message's bytes. -/
def rawOf (m : UMsg) (op : Nat) : List Byte := headerOf m op ++ m.payload ++ m.tag

/-- A message reaches the dictionary engine: it leaves its queue, or the serial port's receive buffer, where it is the next; a
segment takes it while it is in use and has an address; nothing is admitted before the journal has been restored (R253,
R301). -/
def State.takeUrsin (s : State) (m : UMsg) (op : Nat) (f : State → State) : State :=
  let g (t : State) : State := if t.boot.admitted then f t else t
  if m.via = 4 then
    (if s.ser.frames.head? = some (rawOf m op) then g (s.modSer (fun p => { p with frames := p.frames.drop 1 })) else s)
  else s.arrives m.via.val .ursin g

/-- A message in clear: its tag is 16 zero bytes (R263). -/
def inClear (m : UMsg) : Bool := m.tag == List.replicate 16 0

/-- The payload of a session's message in clear, where its tag holds (R263). -/
def opened (m : UMsg) (k : Keys) (op : Nat) : Option (List Byte) :=
  gcmOpen k.toDevice (msgIv k.clientSalt m.seq.toNat op) (headerOf m op) m.payload m.tag

/-- A message's header fields with its payload in clear. -/
def reqWith (m : UMsg) (payload : List Byte) : Req :=
  ⟨m.flags.toNat, m.status.toNat, m.count.toNat, m.object.toNat, m.first.toNat, payload⟩

/-- The header fields and payload of a message that travels in clear. -/
def reqOf (m : UMsg) : Req := reqWith m m.payload

/-- The reply to a message goes to its source (R258). -/
def replyTo (m : UMsg) (session op : Nat) (a : Ans) : Reply :=
  ⟨m.via.val, m.ip.toNat, m.udp.toNat, session, m.seq.toNat, op, 1, a.status, a.count, m.object.toNat, m.first.toNat, a.payload, []⟩

/-- A kept reply, sent again byte for byte to the source of the latest request (R258, R264). -/
def State.sendAgain (s : State) (m : UMsg) (r : Reply) : State :=
  s.send false { r with via := m.via.val, ip := m.ip.toNat, udp := m.udp.toNat }

/-! ## The handshake (R264, R268, R269) -/

/-- Change a handshake in progress. -/
def State.modHand (s : State) (id : Nat) (f : Hand → Hand) : State :=
  { s with ursin := { s.ursin with hands := s.ursin.hands.map (fun h => if h.id = id then f h else h) } }

/-- The handshake of an id. -/
def State.hand? (s : State) (id : Nat) : Option Hand := s.ursin.hands.find? (fun h => h.id == id)

/-- A request that meets a full queue (R256). -/
def State.busyAns (s : State) (q : Req) : Ans × State := (q.plain St.busy, s.bump Obj.dictBusyHem)

/-- The form of a HELLO: NONCE, PUB, MODE, PRIORITY and two reserved bytes, 133 in all (R268). -/
def helloOk (q : Req) : Bool :=
  q.headOk 0x01 && q.payload.length == 133 && decide ((q.payload.getD 129 0).toNat ≤ 1) &&
    decide ((q.payload.getD 130 0).toNat ≤ 200) && (q.payload.drop 131).all (· == 0)

/-- The device's part of the key agreement for a client's key PUB: a fresh nonce, the public key of a fresh private key, and the
shared secret, which is free where PUB names no point of the curve (R263, R268). -/
def State.agree (s : State) (pub : List Byte) : (List Byte × List Byte × List Byte) × State :=
  let (nonce, s1) := s.freshBytes 32
  let (v, s2) := s1.fresh
  let d := v % (p384n - 1) + 1
  let own := p384Public d
  match ecdh384 d pub with
  | some z => ((nonce, own, z), s2)
  | none =>
    let (z, s3) := s2.freshBytes 48
    ((nonce, own, z), s3)

/-- The keys and salts 72 bytes of output are, in their order (R263). -/
def keysOf (l : List Byte) : Keys := ⟨l.take 32, (l.drop 32).take 32, (l.drop 64).take 4, l.drop 68⟩

/-- The keys and salts of a shared secret: HKDF with SHA-384, the nonces as its salt, and `ursin v1` as its info (R263). -/
def sessionKeys (secret salt : List Byte) : Keys :=
  keysOf (hkdf384 72 secret salt [0x75, 0x72, 0x73, 0x69, 0x6E, 0x20, 0x76, 0x31])

/-- A message of a handshake is answered in clear. -/
def State.sendClear (s : State) (r : Reply) : State := s.send false (r.seal none)

/-- A HELLO with SESSION 0. -/
def State.openHand (s : State) (m : UMsg) : State :=
  let q := reqOf m
  if !formOk m then s.dropUrsin
  else if !inClear m then s.bump Obj.ursinTagFailHem
  else if m.seq.toNat ≠ 1 then s.dropUrsin
  else if !helloOk q then s.sendClear (replyTo m 0 0x01 (q.plain St.format))
  else if m.full then ((s.busyAns q).2).sendClear (replyTo m 0 0x01 (q.plain St.busy))
  else if 16 ≤ s.ursin.hands.length then s.sendClear (replyTo m 0 0x01 (q.plain St.busy))
  else
    let (id, s1) := s.drawId (s.ursin.sessions.map (·.id) ++ s.ursin.hands.map (·.id)) 0xFFFFFFFF
    let (k, s2) := s1.agree ((q.payload.drop 32).take 97)
    let r := (replyTo m id 0x01 ⟨St.ok, q.count, k.1 ++ k.2.1 ++ [0, 0, 0]⟩).seal none
    let h : Hand := ⟨id, s2.now, 1, 1, [(1, r)], (q.payload.getD 129 0).toNat, (q.payload.getD 130 0).toNat, m.via.val,
      q.payload.take 32 ++ k.1, k.2.2, headerOf m 0x01 ++ m.payload ++ r.header ++ r.payload⟩
    (State.send { s2 with ursin := { s2.ursin with hands := s2.ursin.hands ++ [h] } } false r)

/-- Certificates a payload holds, each a length and its bytes; none where the bytes are no such sequence (R266). -/
def certCount : Nat → List Byte → Option Nat
  | _, [] => some 0
  | 0, _ => none
  | k + 1, a :: b :: l =>
    let n := a.toNat + 256 * b.toNat
    if l.length < n then none else (certCount k (l.drop n)).map (· + 1)
  | _ + 1, _ => none

/-- The form of a CERT: COUNT certificates, none for a stranger. -/
def certOk (h : Hand) (q : Req) : Bool :=
  q.headOk 0x02 && decide (q.count ≤ 4) && certCount 4 q.payload == some q.count && (h.mode == 0 || q.count == 0)

/-- What a CERT draws: the device chain. -/
def State.certAns (s : State) : Ans :=
  let l := s.blob Obj.devCertChain
  ⟨St.ok, (certCount 4 l).getD 0, l⟩

/-- The root's hash is one of TRUST_ROOTS. -/
def inRoots (root : List Byte) : Nat → List Byte → Bool
  | 0, _ => false
  | k + 1, l => decide (48 ≤ l.length) && (l.take 48 == root || inRoots root k (l.drop 48))

/-- The first status of R269 that applies to a KEY with a signature. -/
def State.keyStatus (s : State) (h : Hand) (sig : List Byte) (k : KeyRep) : Nat :=
  if h.mode = 1 then
    (if s.nat Obj.strangerMode = 0 then St.stranger else if 256 ≤ s.ursin.sessions.length then St.sessionFull else St.ok)
  else if !k.chainOk || (s.tbs.locked && !k.inTime) || !inRoots k.root 8 (s.blob Obj.trustRoots) ||
      !ecdsaOk k.leafKey (sha384 h.transcript) sig then St.auth
  else if k.role.isNone || (k.role == some 4 && !k.vendorRoot) then St.role
  else if 256 ≤ s.ursin.sessions.length then St.sessionFull
  else St.ok

/-- The first place of the SESS objects that is free (R275). -/
def State.freePlace (s : State) : Nat := ((List.range 256).find? (fun i => s.nat Obj.sessId i == 0)).getD 0

/-- The device's signature over a hash, by the key of slot 0 with a random number; free while the slot is EMPTY (R268, R338). -/
def State.deviceSign (s : State) (hash : List Byte) : List Byte × State :=
  match s.misc.keys.getD 0 [] with
  | [] => s.freshBytes 96
  | k =>
    let (v, t) := s.fresh
    (ecdsaSign (Config.keyScalar k % (p384n - 1) + 1) (v % (p384n - 1) + 1) hash, t)

/-- A handshake becomes a session (R268–R270): a session of the same leaf ends first. -/
def State.openSession (s : State) (m : UMsg) (h : Hand) (k : KeyRep) : State :=
  let role : Option Nat := if h.mode = 1 then none else k.role.map (·.val)
  let s1 := (s.ursin.sessions.filter (fun x => x.role.isSome && role.isSome && x.leaf == k.leaf)).foldl
    (fun s x => s.endSession x.id 2) s
  let prio := match role with
    | some r => min h.prio (s1.nat Obj.rolePrioMax r)
    | none => 0
  let i := s1.freePlace
  let (sig, s2) := s1.deviceSign (sha384 (h.transcript ++ headerOf m 0x03 ++ m.payload))
  let payload := sig ++ leBytes 1 (role.getD 5) ++ leBytes 1 prio ++ [0, 0] ++ leBytes 4 (s2.nat Obj.sessTimeout)
  let r := (replyTo m h.id 0x03 ⟨St.ok, m.count.toNat, payload⟩).seal none
  let x : Session := ⟨h.id, i, role, prio, k.leaf, decide (m.via.val < 4), s2.now, 3, (3, r) :: h.replies, 1, m.via.val,
    m.ip.toNat, m.udp.toNat, sessionKeys h.secret h.salt⟩
  let s3 : State := { s2 with ursin := { s2.ursin with
    sessions := s2.ursin.sessions ++ [x], hands := s2.ursin.hands.filter (fun y => y.id != h.id) } }
  let s4 := ((s3.setNat Obj.sessId i h.id).setNat Obj.sessRole i (role.getD 5)).setNat Obj.sessPrio i prio
  ((s4.setNat Obj.sessTransport i m.via.val).setNat Obj.sessUsed 0 s4.ursin.sessions.length).send false r

/-- A KEY that passes the form checks: a session, or a refusal that is counted and ends the handshake. -/
def State.takeKey (s : State) (m : UMsg) (h : Hand) (k : KeyRep) : State :=
  let st := s.keyStatus h m.payload k
  if st = St.ok then s.openSession m h k
  else
    (State.bump { s with ursin := { s.ursin with hands := s.ursin.hands.filter (fun y => y.id != h.id) } }
      Obj.handshakeFailHem).sendClear (replyTo m h.id 0x03 ((reqOf m).plain st))

/-- A handshake's reply to a SEQ goes out and is kept while the SEQ is within the window (R264). -/
def State.answerHand (s : State) (m : UMsg) (id op : Nat) (a : Ans) : State :=
  let r := (replyTo m id op a).seal none
  (s.modHand id (fun y => { y with
    h := m.seq.toNat
    replies := (m.seq.toNat, r) :: y.replies.filter (fun e => decide (m.seq.toNat < e.1 + 64)) })).send false r

/-- A message that names a handshake in progress, by the checks of R262 in order: its form and transport, its tag in clear, its
SEQ, which HELLO, CERT and KEY carry as 1, 2 and 3, and whether it suits the handshake: CERT and KEY do, each after the exchange
before it (R264, R268). `want` is the SEQ the opcode carries, 0 for an opcode of a live session. -/
def State.handMsg (s : State) (m : UMsg) (h : Hand) (op want : Nat) (ok : Bool) (act : State → State) : State :=
  let q := reqOf m
  let seq := m.seq.toNat
  if !formOk m || ((h.via == 4) != (m.via.val == 4)) then s.dropUrsin
  else if !inClear m then s.bump Obj.ursinTagFailHem
  else if (want ≠ 0 && seq ≠ want) || seq + 64 ≤ h.h then s.dropUrsin
  else if seq ≤ h.h then
    match h.replies.find? (fun e => e.1 == seq) with
    | some (_, r) => s.sendAgain m r
    | none => (s.bump Obj.ursinSeqOldHem).sendClear (replyTo m h.id op (q.plain St.seqOld))
  else if h.stage + 1 ≠ want || !ok then s.answerHand m h.id op (q.plain St.format)
  else if m.full then ((s.busyAns q).2).answerHand m h.id op (q.plain St.busy)
  else act (s.applyRep m.rep)

/-! ## Messages of a live session (R262, R264) -/

/-- A session's message passes: its transport, its source and its time are noted (R258, R270, R275). -/
def State.touchSession (s : State) (x : Session) (m : UMsg) : State :=
  (s.modSession x.id (fun y => { y with at_ := s.now, via := m.via.val, ip := m.ip.toNat, udp := m.udp.toNat })).setNat
    Obj.sessTransport x.slot m.via.val

/-- The reply to a message goes out, protected under the session's keys, and is kept while its session lives; a validation holds
it until its end (R330); a part that has left running sends none. -/
def State.answer (s : State) (held : Bool) (k : Keys) (r : Reply) : State :=
  if s.phase != .running then s
  else if held && s.boot.validating == some .none then s.modBoot (fun b => { b with validating := some (.reply r) })
  else (s.keepReply (r.seal (some k))).send false (r.seal (some k))

/-- A validation holds the reply to this SEQ. -/
def State.holds (s : State) (x : Session) (seq : Nat) : Bool :=
  match s.boot.validating with
  | some (.reply r) => r.session == x.id && r.seq == seq
  | _ => false

/-- A message of a live session whose form, transport and tag hold, with its payload in clear: the sequence rules of R264, the
form of the request, and the operation. -/
def State.sessReq (s : State) (m : UMsg) (x : Session) (op : Nat) (q : Req) (ok : Bool)
    (act : Writer → Req → State → Ans × State) : State :=
  let seq := m.seq.toNat
  let say (t : State) (held : Bool) (a : Ans) : State := t.answer held x.keys (replyTo m x.id op a)
  if seq + 64 ≤ x.h then s.dropUrsin
  else if seq ≤ x.h then
    match x.replies.find? (fun e => e.1 == seq) with
    | some (_, r) => s.sendAgain m r
    | none =>
      if s.holds x seq then s
      else (s.bump Obj.ursinSeqOldHem).send false ((replyTo m x.id op (q.plain St.seqOld)).seal (some x.keys))
  else
    let s1 := s.modSession x.id (fun y => { y with h := seq })
    let s2 :=
      if !ok then say s1 false (q.plain St.format)
      else if m.full then say (s1.touchSession x m |>.bump Obj.dictBusyHem) false (q.plain St.busy)
      else
        let s3 := (s1.touchSession x m).applyRep m.rep
        let (a, t) := act ⟨.session x.id, x.role, x.prio⟩ q s3
        say t s3.boot.validating.isNone a
    if seq = 0xFFFFFFFF then s2.endSession x.id 2 else s2

/-- A message of a live session: the checks of R262 in order. -/
def State.sessMsg (s : State) (m : UMsg) (x : Session) (op : Nat) (ok : Req → Bool) (act : Writer → Req → State → Ans × State) :
    State :=
  if !formOk m || (x.overIp != decide (m.via.val < 4)) then s.dropUrsin
  else
    match opened m x.keys op with
    | none => s.bump Obj.ursinTagFailHem
    | some l => s.sessReq m x op (reqWith m l) (ok (reqWith m l)) act

/-- What a message of any opcode but HELLO, CERT and KEY does, by the session or handshake it names. -/
def State.named (s : State) (m : UMsg) (op : Nat) (ok : Req → Bool) (act : Writer → Req → State → Ans × State) : State :=
  match s.session? m.session.toNat with
  | some x => s.sessMsg m x op ok act
  | none =>
    match s.hand? m.session.toNat with
    | some h => s.handMsg m h op 0 false id
    | none => s.dropUrsin

/-- A message of any opcode but HELLO, CERT and KEY. -/
def ursinRow (dt : Nat) (m : UMsg) (op : Nat) (ok : Req → Bool) (act : Writer → Req → State → Ans × State) (s : State) :
    Host.Outcome State Fault Refusal :=
  whenRunning dt s (fun s => s.takeUrsin m op (fun s => s.named m op ok act))

/-- A CERT or KEY of a handshake in progress; in a live session it draws FORMAT (R262). -/
def handRow (dt : Nat) (m : UMsg) (op want : Nat) (ok : Hand → Req → Bool) (act : Hand → State → State) (s : State) :
    Host.Outcome State Fault Refusal :=
  whenRunning dt s (fun s => s.takeUrsin m op (fun s =>
      match s.session? m.session.toNat with
      | some x => s.sessMsg m x op (fun _ => false) (fun _ q s => (q.plain St.format, s))
      | none =>
        match s.hand? m.session.toNat with
        | some h => s.handMsg m h op want (ok h (reqOf m)) (act h)
        | none => s.dropUrsin))

/-! ## The handshake's commands -/

/-- HELLO (R268). -/
def execHello (dt : Nat) (m : UMsg) (s : State) : Host.Outcome State Fault Refusal :=
  whenRunning dt s (fun s => s.takeUrsin m 0x01 (fun s =>
      if m.session = 0 then s.openHand m
      else
        match s.session? m.session.toNat with
        | some x => s.sessMsg m x 0x01 (fun _ => false) (fun _ q s => (q.plain St.format, s))
        | none =>
          match s.hand? m.session.toNat with
          | some h => s.handMsg m h 0x01 1 false id
          | none => s.dropUrsin))

/-- A CERT that passes the form checks: the device chain goes out, and both messages join the transcript (R268). -/
def State.takeCert (s : State) (m : UMsg) (h : Hand) : State :=
  let r := replyTo m h.id 0x02 s.certAns
  (s.modHand h.id (fun y => { y with stage := 2, transcript := y.transcript ++ headerOf m 0x02 ++ m.payload ++ r.header ++ r.payload })).answerHand
    m h.id 0x02 s.certAns

/-- CERT (R268). -/
def execCert (dt : Nat) (m : UMsg) (s : State) : Host.Outcome State Fault Refusal :=
  handRow dt m 0x02 2 certOk (fun h s => s.takeCert m h) s

/-- KEY (R268, R269). -/
def execKey (dt : Nat) (m : UMsg) (k : KeyRep) (s : State) : Host.Outcome State Fault Refusal :=
  handRow dt m 0x03 3
    (fun h q => q.headOk 0x03 && (if h.mode = 1 then q.payload.isEmpty else q.payload.length == 96))
    (fun h s => s.takeKey m h k) s

/-! ## Values (R246–R250) -/

/-- READ (R246). -/
def execRead (dt : Nat) (m : UMsg) (s : State) : Host.Outcome State Fault Refusal :=
  ursinRow dt m Op.read (fun q => q.dataOk Op.read) (fun w q s => s.opRead w.role q) s

/-- WRITE (R240). -/
def execWrite (dt : Nat) (m : UMsg) (s : State) : Host.Outcome State Fault Refusal :=
  ursinRow dt m Op.write (fun q => q.dataOk Op.write) (fun w q s => s.opWrite w q) s

/-- BLOCK_READ (R248). -/
def execBlockRead (dt : Nat) (m : UMsg) (s : State) : Host.Outcome State Fault Refusal :=
  ursinRow dt m Op.blockRead (fun q => q.dataOk Op.blockRead) (fun w q s => s.opBlockRead w.role m.rep.span q) s

/-- BLOCK_WRITE (R250). -/
def execBlockWrite (dt : Nat) (m : UMsg) (s : State) : Host.Outcome State Fault Refusal :=
  ursinRow dt m Op.blockWrite (fun q => q.dataOk Op.blockWrite) (fun w q s => s.opBlockWrite w q) s

/-! ## Subscriptions (R254) -/

/-- The form of SUBSCRIBE and UNSUBSCRIBE: COUNT 1–1 024, with a payload of n bytes. -/
def subOk (op n : Nat) (q : Req) : Bool :=
  q.headOk op && decide (1 ≤ q.count) && decide (q.count ≤ 1024) && q.payload.length == n

/-- A session's SUBSCRIBE. -/
def State.opSubscribe (s : State) (w : Writer) (q : Req) : Ans × State :=
  let ms := leNat q.payload
  let st := s.subCheck w.src q.object q.count ms
  if st ≠ St.ok then (q.plain st, s)
  else
    let t := s.subscribe w.src q.object q.count ms
    (q.plain St.ok, match w.src with
      | .session id => t.endSpent id
      | _ => t)

/-- SUBSCRIBE (R254). -/
def execSubscribe (dt : Nat) (m : UMsg) (s : State) : Host.Outcome State Fault Refusal :=
  ursinRow dt m 0x20 (subOk 0x20 2) (fun w q s => s.opSubscribe w q) s

/-- UNSUBSCRIBE (R254). -/
def execUnsubscribe (dt : Nat) (m : UMsg) (s : State) : Host.Outcome State Fault Refusal :=
  ursinRow dt m 0x21 (subOk 0x21 0) (fun w q s =>
    let r := s.unsubscribe w.src q.object q.count
    (q.plain r.1, r.2)) s

/-! ## Commits and tacks (R101, R272, R273) -/

/-- The form of a COMMIT: STITCH, MODE 0 or 1, three reserved bytes. -/
def commitOk (q : Req) : Bool :=
  q.headOk 0x30 && q.payload.length == 12 && decide ((q.payload.getD 8 0).toNat ≤ 1) && (q.payload.drop 9).all (· == 0)

/-- COMMIT's answer carries a stitch where R266 gives one. -/
def State.opCommit (s : State) (w : Writer) (q : Req) : Ans × State :=
  let at_ := if q.payload.getD 8 0 = 1 then none else some (leNat (q.payload.take 8))
  let (st, v, t) := s.commitRequest w q.object at_
  let has := st == St.ok || st == St.commitLate || st == St.commitBusy
  (⟨st, q.count, if has then leBytes 8 v else []⟩, t)

/-- COMMIT (R101). -/
def execCommit (dt : Nat) (m : UMsg) (s : State) : Host.Outcome State Fault Refusal :=
  ursinRow dt m 0x30 commitOk (fun w q s => s.opCommit w q) s

/-- TACK's operation. -/
def State.opTack (s : State) (w : Writer) (q : Req) : Ans × State :=
  let last := leNat (q.payload.take 4)
  let lease := leNat (q.payload.drop 4)
  let (st, num) := s.tackCheck w.src w.role q.object last lease
  let t := s.countOps (tackOps q.object last)
  if st = St.noRight then (⟨st, q.count, leBytes 4 num⟩, t)
  else if st ≠ St.ok then (q.plain st, t)
  else
    let (id, rec_, u) := t.grantTack w.src q.object last lease
    let body := leBytes 2 id ++ [0, 0] ++ leBytes 4 lease
    match rec_ with
    | some r => (⟨St.broken, q.count, body ++ r.bytes⟩, u)
    | none => (⟨St.ok, q.count, body⟩, u)

/-- TACK (R272). -/
def execTack (dt : Nat) (m : UMsg) (s : State) : Host.Outcome State Fault Refusal :=
  ursinRow dt m 0x40 (fun q => q.headOk 0x40 && q.payload.length == 8) (fun w q s => s.opTack w q) s

/-- The form of RENEW and UNTACK: TACK_ID, two reserved bytes, and what follows. -/
def tackIdOk (op n : Nat) (q : Req) : Bool :=
  q.headOk op && q.payload.length == n && ((q.payload.drop 2).take 2).all (· == 0)

/-- RENEW's operation. -/
def State.opRenew (s : State) (w : Writer) (q : Req) : Ans × State :=
  let id := leNat (q.payload.take 2)
  let lease := leNat (q.payload.drop 4)
  if (s.tackOf w.src id).isNone then (q.plain St.tackNone, s)
  else if decide (lease < 50) || decide (60000 < lease) then (q.plain St.range, s)
  else (⟨St.ok, q.count, leBytes 4 lease⟩, s.renewTack id lease)

/-- RENEW (R272). -/
def execRenew (dt : Nat) (m : UMsg) (s : State) : Host.Outcome State Fault Refusal :=
  ursinRow dt m 0x41 (tackIdOk 0x41 8) (fun w q s => s.opRenew w q) s

/-- UNTACK (R272). -/
def execUntack (dt : Nat) (m : UMsg) (s : State) : Host.Outcome State Fault Refusal :=
  ursinRow dt m 0x42 (tackIdOk 0x42 4) (fun w q s =>
    match s.tackOf w.src (leNat (q.payload.take 2)) with
    | some t => (q.plain St.ok, s.dropTack t)
    | none => (q.plain St.tackNone, s)) s

/-- BYE (R270): its reply is the last message of the session. -/
def execBye (dt : Nat) (m : UMsg) (s : State) : Host.Outcome State Fault Refusal :=
  ursinRow dt m 0x7F (fun q => q.headOk 0x7F && q.payload.isEmpty) (fun w q s =>
    (q.plain St.ok, match w.src with
      | .session id => s.endSession id 1
      | _ => s)) s

/-! ## Frames of the serial port (R262, R274, R298–R302) -/

/-- The opcodes that a client's messages may carry (R266). -/
def clientOps : List Nat := [0x01, 0x02, 0x03, 0x10, 0x11, 0x12, 0x13, 0x20, 0x21, 0x30, 0x40, 0x41, 0x42, 0x50, 0x51, 0x52, 0x7F]

/-- The opcode of a message's bytes (R260). -/
def opcodeOf (l : List Byte) : Nat := (l.getD 12 0).toNat

/-- A message of the serial port from its bytes (R260). -/
def serialMsg (l : List Byte) : UMsg :=
  let f (k n : Nat) : Nat := leNat ((l.drop k).take n)
  ⟨4, 0, 0, BitVec.ofNat 16 (beNat (l.take 2)), l.getD 2 0, l.getD 3 0, BitVec.ofNat 32 (f 4 4), BitVec.ofNat 32 (f 8 4), l.getD 13 0,
    BitVec.ofNat 16 (f 14 2), BitVec.ofNat 32 (f 16 4), BitVec.ofNat 16 (f 20 2), BitVec.ofNat 16 (f 22 2),
    (l.drop 24).take (l.length - 40), (l.drop 24).drop (l.length - 40), false, ⟨0, 0, 0, [], 0⟩⟩

/-- The oldest frame of the receive buffer is taken where its opcode is none a client may send: no command of its own takes it, and it
draws FORMAT once it passes the checks before (R262). -/
def State.sweepFrame (s : State) : State :=
  match s.ser.frames with
  | [] => s
  | l :: t =>
    if clientOps.contains (opcodeOf l) then s
    else
      let u := s.modSer (fun p => { p with frames := t })
      if u.boot.admitted then u.named (serialMsg l) (opcodeOf l) (fun _ => false) (fun _ q s => (q.plain St.format, s)) else u

/-- Every such frame at the head of the receive buffer, which holds two. -/
def State.sweepFrames (s : State) : State := s.sweepFrame.sweepFrame

/-- SEL_IN_ASSERT (R298): an idle port becomes slave; a master's transaction is aborted with every line released, to be repeated
from its first byte. -/
def execSelInAssert (dt : Nat) (s : State) : Host.Outcome State Fault Refusal :=
  whenRunning dt s (fun s0 =>
    let s := s0.sweepFrames
    let fault := s.ser.role == 1
    let s1 := (s.modSer (fun p => { p with
      role := 2, selIn := true, again := p.running.orElse (fun _ => p.again), running := none, own := false, used := p.selIn && p.used })).showSer
    if fault then ((s1.setBit Obj.serStatus 0 0 true).bump Obj.serModeFaultHem).emit .spiStop else s1)

/-- SERIAL_WRITE_FRAME (R274, R301, R302): the first frame of an assertion of SEL_IN. While the receive buffer holds two messages the
port is not ready, and the frame ends when the host gives up. A read request is a command of its own. -/
def execSerialWriteFrame (dt : Nat) (kind : Byte) (bytes : List Byte) (s : State) : Host.Outcome State Fault Refusal :=
  whenRunning dt s (fun s =>
    let (ready, t) := s.readyPhase
    if s.ser.role ≠ 2 || s.ser.used || kind == 0x7F then s
    else if kind != 0x7E then (s.bump Obj.serFrameErrHem).frameOver
    else if 2 ≤ s.ser.frames.length then ((t.emit (.serial (ready.dropLast))).bump Obj.serAbortHem).frameOver
    else ((t.emit (.serial ready)).takeFrame bytes).sweepFrames.frameOver)

/-! ## Recovery (R332) -/

/-- A recovery request is admitted: in RECOVERY, on Shuttle A or the serial port, from SERVICE or VENDOR. -/
def State.recoveryCheck (s : State) (w : Writer) (via : Nat) : Nat :=
  if s.nat Obj.bootState ≠ 4 || (via != 0 && via != 4) then St.notRecovery
  else if w.role == some 3 || w.role == some 4 then St.ok else St.noRight

/-- The id of a session source. -/
def srcId (w : Writer) : Nat :=
  match w.src with
  | .session id => id
  | _ => 0

/-- A recovery write is open on another session that lives. -/
def State.recoveryElsewhere (s : State) (w : Writer) : Bool :=
  s.boot.session.any (fun id => id != srcId w && (s.session? id).isSome)

/-- RECOVERY_OPEN's operation. -/
def State.opRecoveryOpen (s : State) (w : Writer) (via : Nat) (q : Req) : Ans × State :=
  let st := s.recoveryCheck w via
  let slot := (q.payload.getD 0 0).toNat
  if st ≠ St.ok then (q.plain st, s)
  else if 1 < slot then (q.plain St.range, s)
  else if s.recoveryElsewhere w then (q.plain St.updState, s)
  else (q.plain St.ok, s.openUpdate slot (some (srcId w)))

/-- RECOVERY_OPEN (R332). -/
def execRecoveryOpen (dt : Nat) (m : UMsg) (s : State) : Host.Outcome State Fault Refusal :=
  ursinRow dt m 0x50 (fun q => q.headOk 0x50 && q.payload.length == 4 && (q.payload.drop 1).all (· == 0))
    (fun w q s => s.opRecoveryOpen w m.via.val q) s

/-- RECOVERY_DATA's operation: OFFSET, then bytes. -/
def State.opRecoveryData (s : State) (w : Writer) (via : Nat) (q : Req) : Ans × State :=
  let st := s.recoveryCheck w via
  let l := q.payload.drop 4
  let c := s.updDataCheck (leNat (q.payload.take 4)) l.length
  if st ≠ St.ok then (q.plain st, s)
  else if s.recoveryElsewhere w then (q.plain St.updState, s)
  else if c ≠ St.ok then (q.plain c, s)
  else (q.plain St.ok, s.updData l)

/-- RECOVERY_DATA (R332). -/
def execRecoveryData (dt : Nat) (m : UMsg) (s : State) : Host.Outcome State Fault Refusal :=
  ursinRow dt m 0x51 (fun q => q.headOk 0x51 && decide (4 ≤ q.payload.length))
    (fun w q s => s.opRecoveryData w m.via.val q) s

/-- RECOVERY_CLOSE's operation: as VALIDATE, and on success the reset of TRIAL_RESET. -/
def State.opRecoveryClose (s : State) (w : Writer) (via : Nat) (readOk : Bool) (q : Req) : Ans × State :=
  let st := s.recoveryCheck w via
  if st ≠ St.ok then (q.plain st, s)
  else
    match s.boot.target with
    | none => (q.plain St.updState, s)
    | some slot =>
      if s.recoveryElsewhere w || s.boot.validating.isSome then (q.plain St.updState, s)
      else
        let r := s.validate slot readOk
        if r.2 then (q.plain St.ok, r.1.resetIn100ms 5) else (q.plain St.imageBad, r.1)

/-- RECOVERY_CLOSE (R332). -/
def execRecoveryClose (dt : Nat) (m : UMsg) (readOk : Bool) (s : State) : Host.Outcome State Fault Refusal :=
  ursinRow dt m 0x52 (fun q => q.headOk 0x52 && q.payload.isEmpty)
    (fun w q s => s.opRecoveryClose w m.via.val readOk q) s

end Sys2Proof.Machine
end

