-- ==== Sys2Proof/Machine/Window.lean ====
section
/-!
DEFINITION. The object window of the control cores (R20, R21), their message path (R22), and the rows that are stores of a
core to an object of its own.
-/

namespace Sys2Proof.Machine

/-- Core n as a source: SERVICE, with the priority of DICT_CC_PRIORITYn (R20, R22, R243). -/
def State.coreWriter (s : State) (n : Nat) : Writer := ⟨.core n, some 3, s.nat (Obj.dictCcPriority0 + n)⟩

/-- A role right is VENDOR's alone (R20), judged for loads by the read right and for stores by the write right: a store to an object
that others may read but only VENDOR may write faults (DESIGN CHOICE, assumption 186). -/
def ODesc.vendorOnly (d : ODesc) (kind : Nat) : Bool :=
  d.grants kind 4 && !(d.grants kind 0 || d.grants kind 1 || d.grants kind 2 || d.grants kind 3)

/-- The access forms of R20: 8 bytes at offset 0, or 4 for an object of 32 bits or fewer; no atomic; a scalar that is not
VENDOR-only. -/
def ODesc.windowForm (d : ODesc) (kind off size : Nat) (atomic : Bool) : Bool :=
  !atomic && off == 0 && (size == 3 || (size == 2 && decide (d.ty.size ≤ 4))) && !d.inHeap && !d.vendorOnly kind

/-! ## Loads (R21) -/

/-- A load: the value extended by its type, or a fault. -/
def State.windowLoad (s : State) (core num off size : Nat) (atomic : Bool) (rep : DictRep) : State :=
  let fault := s.emit (.core core .accessFault)
  match s.desc? num with
  | none => fault
  | some d =>
    if !d.windowForm 0 off size atomic || !d.may 0 (some 3) then fault
    else
      let t := (s.applyRep rep).countOps 1
      let (v, u) := if d.wo then ((0 : Int), t) else t.sample num 0
      u.emit (.core core (.value (v % 2 ^ (8 * 2 ^ size)).toNat))

/-- OBJECT_WINDOW_LOAD (R20, R21). -/
def execObjectWindowLoad (dt : Nat) (core : Fin 4) (num : BitVec 25) (off : BitVec 3) (size : Fin 4) (atomic : Bool)
    (rep : DictRep) (s : State) : Host.Outcome State Fault Refusal :=
  whenRunning dt s (fun s => s.windowLoad core.val num.toNat off.toNat size.val atomic rep)

/-! ## The message path (R22) -/

/-- Bytes of a request's buffer; the reply stands at half of it. -/
def msgBuffer : Nat := 16384

/-- The request in core n's buffer is handled and its reply written. -/
def State.coreMessage (s : State) (n o span : Nat) : State :=
  let f (k len : Nat) : Nat := leNat (s.pmBytes (o + k) len)
  let len := f 0x14 2
  let op := f 0x0C 1
  let q : Req := ⟨f 3 1, f 0x0D 1, f 0x0E 2, f 0x10 4, f 0x16 2, if len ≤ maxPayload then s.pmBytes (o + 24) len else []⟩
  let good := s.pmBytes o 3 == [0x55, 0x52, 0x01] && decide (len ≤ maxPayload) && decide (Op.read ≤ op) &&
    decide (op ≤ Op.blockWrite) && q.dataOk op
  let (a, t) := if good then s.opData (s.coreWriter n) op span q else (q.plain St.format, s)
  if t.phase != .running then t
  else t.setPmBytes (o + 8192) ([0x55, 0x52, 0x01, 0x01] ++ s.pmBytes (o + 4) 9 ++ leBytes 1 a.status ++ leBytes 2 a.count ++
    leBytes 4 q.object ++ leBytes 2 a.payload.length ++ leBytes 2 q.first ++ a.payload)

/-- A store of v to CC_MSG_GOk by core n. -/
def State.messageGo (s : State) (n k v span : Nat) : State :=
  if k ≠ n then s.retireStore n St.noRight
  else if v % 64 ≠ 0 || !s.inFirmware v msgBuffer then s.retireStore n St.range
  else
    let t := s.coreMessage n v span
    if t.phase != .running then t else t.retireStore n St.ok

/-- CC_MSG_GO (R22). -/
def execCcMsgGo (dt : Nat) (core n : Fin 4) (v : BitVec 64) (rep : DictRep) (s : State) :
    Host.Outcome State Fault Refusal :=
  whenRunning dt s (fun s => ((s.applyRep rep).countOps 1).messageGo core.val n.val v.toNat rep.span)

/-! ## Stores (R20, R21) -/

/-- The value a store of 2^size bytes gives an object of a type. -/
def storeVal (t : Ty) (size v : Nat) : Int :=
  let w := 8 * 2 ^ size
  let n := v % 2 ^ w
  if t.signed && decide (2 ^ (w - 1) ≤ n) then Int.ofNat n - 2 ^ w else Int.ofNat n

/-- The write a store makes: one that the type cannot hold is refused with RANGE (R238). -/
def State.storeScalar (s : State) (core num : Nat) (d : ODesc) (v : Int) : State :=
  let w := s.coreWriter core
  let q : WReq := ⟨num, 0, 1, d.code, d.ty.encode v⟩
  if d.ty.decode q.bytes = v then s.rowWrite w q
  else (s.countOps 1).retireStore core (firstBad [d.rightCheck w q, St.range])

/-- A store: a form R20 does not allow faults and changes nothing. -/
def State.windowStore (s : State) (core num off size : Nat) (atomic : Bool) (v : Nat) (rep : DictRep) : State :=
  let fault := s.emit (.core core .accessFault)
  match s.desc? num with
  | none => fault
  | some d =>
    if !d.windowForm 1 off size atomic then fault
    else
      let t := s.applyRep rep
      if Obj.ccMsgGo0 ≤ num && decide (num < Obj.ccMsgGo0 + 4) then
        (t.countOps 1).messageGo core (num - Obj.ccMsgGo0) (v % 2 ^ (8 * 2 ^ size)) rep.span
      else t.storeScalar core num d (storeVal d.ty size v)

/-- OBJECT_WINDOW_STORE (R20, R21). -/
def execObjectWindowStore (dt : Nat) (core : Fin 4) (num : BitVec 25) (off : BitVec 3) (size : Fin 4) (atomic : Bool)
    (v : BitVec 64) (rep : DictRep) (s : State) : Host.Outcome State Fault Refusal :=
  whenRunning dt s (fun s => s.windowStore core.val num.toNat off.toNat size.val atomic v.toNat rep)

/-! ## Objects of a core's own -/

/-- A row in which core c stores v to an object. -/
def coreRow (dt core num v : Nat) (s : State) : Host.Outcome State Fault Refusal :=
  whenRunning dt s (fun s => s.windowStore core num 0 3 false v ⟨0, 0, 0, [], 0⟩)

/-- CC_COMMIT_GO (R113–R116): the group and NEXT. -/
def execCcCommitGo (dt : Nat) (core n : Fin 4) (v : BitVec 32) (s : State) : Host.Outcome State Fault Refusal :=
  coreRow dt core.val (Obj.ccCommitGo0 + n.val) v.toNat s

/-- DICT_CC_SUB (R255). -/
def execDictCcSub (dt : Nat) (core n : Fin 4) (v : BitVec 64) (s : State) : Host.Outcome State Fault Refusal :=
  coreRow dt core.val (Obj.dictCcSub0 + n.val) v.toNat s

/-- CC_TACK_GO (R272): the lease. -/
def execCcTackGo (dt : Nat) (core n : Fin 4) (lease : BitVec 16) (s : State) : Host.Outcome State Fault Refusal :=
  coreRow dt core.val (Obj.ccTackGo0 + n.val) lease.toNat s

/-- CC_UNTACK (R272): CC_TACK_GOn with UNTACK set. -/
def execCcUntack (dt : Nat) (core n : Fin 4) (s : State) : Host.Outcome State Fault Refusal :=
  coreRow dt core.val (Obj.ccTackGo0 + n.val) (2 ^ 31) s

/-- THM_OP (R338): the record's offset. -/
def execThmOp (dt : Nat) (core n : Fin 4) (v : BitVec 64) (s : State) : Host.Outcome State Fault Refusal :=
  coreRow dt core.val (Obj.thmOp0 + n.val) v.toNat s

/-- SER_M_GO (R300): an element of an ARRAY, written through the message path. -/
def execSerMGo (dt : Nat) (core n : Fin 4) (v : BitVec 64) (s : State) : Host.Outcome State Fault Refusal :=
  whenRunning dt s (fun s => s.rowWrite (s.coreWriter core.val) (s.elemReq Obj.serMGo n.val (Int.ofNat v.toNat)))

end Sys2Proof.Machine
end

