-- ==== Sys2Proof/Machine/CoreMap.lean ====
section
/-!
DEFINITION. The physical map of the control cores (R18) and the requests for the channels of package memory (R159, R165).
-/

namespace Sys2Proof.Machine

/-- What an address of a control core names (R18): the ROM, a byte of a bobbin, of package memory or of an object's slot, or
nothing. -/
inductive CorePlace where
  | rom
  | bobbin (b off : Nat)
  | pm (off : Nat)
  | object (num off : Nat)
  | nothing
  deriving DecidableEq, Repr

/-- The place of an access of n bytes at an address; nothing where it leaves its range (R18). -/
def State.corePlace (s : State) (addr n : Nat) : CorePlace :=
  if addr + n ≤ 0x20000 then .rom
  else if 0x10000000 ≤ addr && decide (addr + n ≤ 0x14000000) then
    .bobbin ((addr - 0x10000000) / 524288) ((addr - 0x10000000) % 524288)
  else if 0x400000000 ≤ addr && decide (addr + n ≤ 0x400000000 + s.pmSize) then .pm (addr - 0x400000000)
  else if 0x1000000000 ≤ addr && decide (addr + n ≤ 0x1010000000) then .object ((addr - 0x1000000000) / 8) ((addr - 0x1000000000) % 8)
  else .nothing

/-- An access of 2^size bytes of a control core (R18–R22, R159, R322). The ROM's bytes are not the spec's: free values. Neither
window can be executed, and neither takes an atomic operation. -/
def State.coreAt (s : State) (core addr : Nat) (kind : CoreKind) (size v : Nat) (hit : Bool) : State :=
  let n := 2 ^ size
  let fault := s.emit (.core core .accessFault)
  match s.corePlace addr n with
  | .nothing => fault
  | .rom =>
    if kind = .load || kind = .fetch then
      let (w, t) := s.fresh
      t.emit (.core core (.value (w % 2 ^ (8 * n))))
    else fault
  | .bobbin b off =>
    if kind = .fetch then fault
    else s.bobWindow ⟨core, b, off, n, if kind = .store then some v else none⟩ (kind == .atomic) 0 []
  | .object num off =>
    match kind with
    | .fetch => fault
    | .load => s.windowLoad core num off size false ⟨0, 0, 0, [], 0⟩
    | .store => s.windowStore core num off size false v ⟨0, 0, 0, [], 0⟩
    | .atomic => s.windowLoad core num off size true ⟨0, 0, 0, [], 0⟩
  | .pm off => s.corePm ⟨core, off, kind, n, v % 2 ^ (8 * n)⟩ hit

/-- A requester may ask for a burst at an offset (R158, R159, R305): a Shuttle in its half of the spill region, the spool engine
in the spool region, the DMA engine in the firmware region, for the piece in turn (R307). -/
def State.requesterMay (s : State) (r o : Nat) : Bool :=
  if s.pmSize ≤ o then false
  else if r < 2 then
    decide (s.regionBase 1 + r * s.spillHalf ≤ o) && decide (o < s.regionBase 1 + (r + 1) * s.spillHalf)
  else if r = 2 then s.inFirmware o 1 && s.dmaNeeds.contains (pmChannel o)
  else if r = 3 then decide (s.regionBase 2 ≤ o) && decide (o < s.regionBase 3)
  else true

/-- The requests of a channel that arrive together, but for the cores' accesses (R165). -/
def State.burstsFor (s : State) (ch : Nat) (l : List ArbReq) : List Nat :=
  l.filterMap (fun q => match q with
    | .burst r off => if pmChannel off.toNat = ch && s.requesterMay r.val off.toNat then some r.val else none
    | .access _ _ _ _ _ _ => none)

/-- A spool block more for every request of the spool engine (R163). -/
def State.blocksFor (s : State) (ch : Nat) (l : List Nat) : State :=
  if l.contains 3 then s.setArb ch { s.arbOf ch with blocks := (s.arbOf ch).blocks + 1 } else s

/-- ARB_REQUEST (R18, R159, R165): requests that arrive together. -/
def execArbRequest (dt : Nat) (l : List ArbReq) (s : State) : Host.Outcome State Fault Refusal :=
  whenRunning dt s (fun s =>
    let s1 := l.foldl (fun s q => match q with
      | .burst _ _ => s
      | .access core addr kind size v hit => s.coreAt core.val addr.toNat kind size.val v.toNat hit) s
    [0, 1].foldl (fun s ch => let r := s.burstsFor ch l; (s.blocksFor ch r).arrive ch (r ++ s.coresFor ch)) s1)

end Sys2Proof.Machine
end

