-- ==== Sys2Proof/Machine/Debug.lean ====
section
/-!
DEFINITION. The debug port (R339–R345): its instructions, sessions, and the access each lifecycle, level and power state
grants.
-/

namespace Sys2Proof.Machine

/-! ## What is granted (R344) -/

/-- The kinds of debug access (R343). -/
inductive DbgKind where
  | scan | obj | core | fabric | mem | priv | key
  deriving DecidableEq, Repr

/-- The role of OBJ accesses: the session's in DEVELOP, SERVICE in DEPLOYED, VENDOR where the level is OPEN. -/
def State.dbgRole (s : State) : Nat :=
  if s.debugLevelNow = 2 then 4
  else if s.nat Obj.lifecycle = 2 then 3
  else ((s.dbg.session).map (·.1)).getD 0

/-- The matrix: kinds granted beside TAP. -/
def State.granted (s : State) (k : DbgKind) : Bool :=
  match s.debugLevelNow with
  | 0 => false
  | 1 => if s.nat Obj.lifecycle = 2 then k == .obj || k == .core || k == .fabric || k == .mem else k != .scan
  | _ => true

/-! ## The TAP's instructions (R339) -/

/-- The instructions of the TAP, but for BYPASS. -/
inductive TapIns where
  | idcode | sample | extest | challenge | response | access
  deriving DecidableEq, Repr

/-- The instruction of a code; none for BYPASS's, and for every other code, which acts as it. -/
def tapIns (code : Byte) : Option TapIns :=
  [(0x01, TapIns.idcode), (0x02, .sample), (0x03, .extest), (0x10, .challenge), (0x11, .response), (0x12, .access)].lookup code.toNat

/-- The instruction register takes a code (R339). -/
def State.tapLoad (s : State) (code : Byte) : State := { s with dbg := { s.dbg with ir := code } }

/-- IDCODE. -/
def execIdcode (dt : Nat) (s : State) : Host.Outcome State Fault Refusal :=
  whenRunning dt s (fun s => (s.tapLoad 0x01).emit (.jtag 32 0xB96405AB))

/-- BYPASS, and every code that acts as it: one bit, captured as 0. -/
def State.bypass (s : State) : State := s.emit (.jtag 1 0)

/-- BYPASS, by its own code or another that names no instruction; the instructions' codes have commands of their own. -/
def execBypass (dt : Nat) (code : Byte) (s : State) : Host.Outcome State Fault Refusal :=
  whenRunning dt s (fun s => if (tapIns code).isNone then (s.tapLoad code).bypass else s)

/-- The boundary register as captured; its length and the pins' levels are free. -/
def State.scan (s : State) : State :=
  let (w, s1) := s.fresh
  let (v, s2) := s1.fresh
  s2.emit (.jtag w v)

/-- SAMPLE/PRELOAD: BYPASS unless SCAN is granted. -/
def execSamplePreload (dt : Nat) (s : State) : Host.Outcome State Fault Refusal :=
  whenRunning dt s (fun s => if s.granted .scan then (s.tapLoad 0x02).scan else (s.tapLoad 0x02).bypass)

/-- EXTEST: the pins are driven and captured; BYPASS unless SCAN is granted. -/
def execExtest (dt : Nat) (pins : Nat) (s : State) : Host.Outcome State Fault Refusal :=
  whenRunning dt s (fun s =>
    if s.granted .scan then ((s.tapLoad 0x03).emit (.pins pins)).scan else (s.tapLoad 0x03).bypass)

/-! ## Sessions (R341, R342) -/

/-- Challenges are locked out. -/
def State.lockedOut (s : State) : Bool := s.dbg.lockout.any (fun t => decide (s.now < t))

/-- DBG_CHALLENGE: a fresh nonce and the public key of a fresh private key, or zeros while a session is open or refusals lock it
out. -/
def execDbgChallenge (dt : Nat) (s : State) : Host.Outcome State Fault Refusal :=
  whenRunning dt s (fun s0 =>
    let s := s0.tapLoad 0x10
    if s.dbg.session.isSome || s.lockedOut then s.emit (.debug false (List.replicate 129 0))
    else
      let (n, s1) := s.freshBytes 32
      let (v, s2) := s1.fresh
      let d := v % (p384n - 1) + 1
      State.emit { s2 with dbg := { s2.dbg with asked := some (n, d) } } (.debug false (n ++ p384Public d)))

/-- A response is refused: the third in a row locks challenges out for 10 s. -/
def State.refuseDebug (s : State) : State :=
  let n := s.dbg.refusals + 1
  State.bump { s with dbg := { s.dbg with
    asked := none
    refusals := if n = 3 then 0 else n
    lockout := if n = 3 then some (s.now + 10000 * msPs) else s.dbg.lockout } } Obj.dbgFailHem

/-- The leaf's role opens a session in this lifecycle state. -/
def State.dbgRoleOk (s : State) (k : KeyRep) : Bool :=
  match s.nat Obj.lifecycle with
  | 1 => k.role == some 3 || (k.role == some 4 && k.vendorRoot)
  | 2 => k.role == some 3
  | _ => false

/-- What a host signs: the nonce, the device's key and its own. -/
def dbgHash (n : List Byte) (d : Nat) (hostKey : List Byte) : List Byte := sha384 (n ++ p384Public d ++ hostKey)

/-- A response to a challenge stands: the chain and the signature as R269 sets, and the role. -/
def State.dbgAuth (s : State) (k : KeyRep) (n : List Byte) (d : Nat) (hostKey sig : List Byte) : Bool :=
  s.dbg.session.isNone && k.chainOk && (!s.tbs.locked || k.inTime) && inRoots k.root 8 (s.blob Obj.trustRoots) &&
    ecdsaOk k.leafKey (dbgHash n d hostKey) sig && s.dbgRoleOk k

/-- The keys of a debug session: as R263, with salt N and info `ursin dbg`. -/
def debugKeys (secret n : List Byte) : Keys :=
  keysOf (hkdf384 72 secret n [0x75, 0x72, 0x73, 0x69, 0x6E, 0x20, 0x64, 0x62, 0x67])

/-- A debug session opens with a role and the keys of its shared secret, which is free where the host's key names no point of
the curve. -/
def State.openDebug (s : State) (role : Nat) (n : List Byte) (d : Nat) (hostKey : List Byte) : State :=
  let (z, t) := match ecdh384 d hostKey with
    | some z => (z, s)
    | none => s.freshBytes 48
  (State.setNat { t with dbg := { t.dbg with
    asked := none, refusals := 0, session := some (role, t.now), keys := debugKeys z n, frames := 0 } } Obj.dbgRole 0 role).showDebug

/-- DBG_RESPONSE: a session opens, or the response is refused. -/
def execDbgResponse (dt : Nat) (k : KeyRep) (hostKey sig : List Byte) (s : State) : Host.Outcome State Fault Refusal :=
  whenRunning dt s (fun s0 =>
    let s := s0.tapLoad 0x11
    match s.dbg.asked with
    | some (n, d) =>
      if s.dbgAuth k n d hostKey sig then s.openDebug ((k.role.map (·.val)).getD 0) n d hostKey else s.refuseDebug
    | none => s.refuseDebug)

/-- DBG_END (R342): the session's own frame. -/
def execDbgEnd (dt : Nat) (tagOk : Bool) (s : State) : Host.Outcome State Fault Refusal :=
  whenRunning dt s (fun s => if tagOk && s.dbg.session.isSome then s.endDebug 1 else s)

/-- TRST_N, or Test-Logic-Reset (R342): the instruction register is IDCODE again (PRESUMED, assumption 198). -/
def execTrstN (dt : Nat) (s : State) : Host.Outcome State Fault Refusal :=
  whenRunning dt s (fun s => if s.dbg.session.isSome then (s.tapLoad 0x01).endDebug 6 else s.tapLoad 0x01)

/-- DEBUG_SESSION_TIMEOUT (R342): 60 s without a frame that passes. -/
def execDebugSessionTimeout (dt : Nat) (s : State) : Host.Outcome State Fault Refusal :=
  whenRunning dt s (fun s =>
    match s.dbg.session with
    | some (_, t) => if t + 60000 * msPs ≤ s.now then s.endDebug 3 else s
    | none => s)

/-- CHALLENGE_LOCKOUT_END (R341). -/
def execChallengeLockoutEnd (dt : Nat) (s : State) : Host.Outcome State Fault Refusal :=
  whenRunning dt s (fun s =>
    if s.dbg.lockout.any (fun t => decide (t ≤ s.now)) then { s with dbg := { s.dbg with lockout := none } } else s)

/-! ## Frames (R343–R345) -/

/-- The live copies of PRIVATE pieces (R119). -/
def State.privCopies (s : State) : List Copy :=
  match s.last.pat with
  | none => []
  | some p => s.last.copies.filter (fun c => (p.pieces[c.piece]?).any (·.priv))

/-- A word range holds e. -/
def inSpan (e lo n : Nat) : Bool := decide (lo ≤ e) && decide (e < lo + n)

/-- A word of X or Y, pages included, that a PRIVATE piece holds. -/
def State.privWord (s : State) (n : Nat) (y : Bool) (e : Nat) : Bool :=
  s.privCopies.any (fun c => c.needle == n &&
    (inSpan e (if y then c.yBase else c.xBase)
        ((((s.last.pat.bind (fun p => p.pieces[c.piece]?)).map (fun d => if y then d.yWords else d.xWords)).getD 0))
      || c.blocks.any (fun b => b.y == y && (inSpan e b.a b.size || inSpan e b.b b.size))))

/-- A slot that a PRIVATE piece's program holds. -/
def State.privSlot (s : State) (n slot : Nat) : Bool :=
  s.privCopies.any (fun c => c.needle == n && inSpan slot c.slotFirst c.slots)

/-- A byte of a bobbin in a region or a spool's window of a PRIVATE piece. -/
def State.privBob (s : State) (b off : Nat) : Bool :=
  s.privCopies.any (fun c => c.regions.any (fun r => r.bobbin == b && inSpan off r.off r.bytes))

/-- A byte of package memory in a spool of a PRIVATE piece. -/
def State.privPm (s : State) (o : Nat) : Bool :=
  s.last.spools.any (fun q => s.privCopies.any (fun c => c.piece == q.piece) && inSpan o (s.regionBase 2 + q.base) (4 * q.words))

/-- The kind of an access (R343). -/
def dbgKind : DbgOp → DbgKind
  | .read _ _ _ | .write _ _ _ _ | .commit _ _ | .tack _ _ _ | .untack _ => .obj
  | .halt _ | .step _ | .resume _ | .breakpoint _ _ | .coreRead _ _ | .coreWrite _ _ _ | .reset => .core
  | .needleReg _ _ | .needleProg _ _ | .needleX _ _ | .needleY _ _ | .needleSeam _ _ | .tape _ => .fabric
  | .bobRead _ _ | .bobWrite _ _ _ | .pmRead _ | .pmWrite _ _ => .mem
  | .key _ => .key

/-- An access reaches what is PRIV's (R343). -/
def State.isPriv (s : State) (op : DbgOp) : Bool :=
  match op with
  | .needleProg n slot => s.privSlot n.val slot.val
  | .needleX n e => s.privWord n.val false e.toNat
  | .needleY n e => s.privWord n.val true e.toNat
  | .bobRead b off => s.privBob b.val off.toNat
  | .bobWrite b off _ => s.privBob b.val off.toNat
  | .pmRead o => s.privPm o.toNat
  | .pmWrite o _ => s.privPm o.toNat
  | _ => false

/-- HUSH refuses the fabric, and bobbins of unpowered pleats (R344). -/
def State.hushBars (s : State) (op : DbgOp) : Bool :=
  s.pw.hush &&
    (match op with
      | .bobRead b _ => !s.pleatOn (b.val / 8)
      | .bobWrite b _ _ => !s.pleatOn (b.val / 8)
      | _ => dbgKind op == .fabric)

/-- The access is granted. -/
def State.mayDebug (s : State) (op : DbgOp) : Bool :=
  s.granted (dbgKind op) && (!s.isPriv op || s.granted .priv) && !s.hushBars op

/-- Answer a frame. -/
def State.dbgSay (s : State) (l : List Byte) : State := s.emit (.debug false l)

/-- Answer with a status alone. -/
def State.dbgStatus (s : State) (st : Nat) : State := s.dbgSay (leBytes 1 st)

/-- The debug port as a source: its role, with the role's ROLE_PRIO_MAX (R343). -/
def State.dbgWriter (s : State) : Writer := ⟨.debug, some s.dbgRole, s.nat Obj.rolePrioMax s.dbgRole⟩

/-- OBJ: a tack of a lease. -/
def State.dbgTack (s : State) (lo hi lease : Nat) : State :=
  let w := s.dbgWriter
  let st := (s.tackCheck w.src w.role lo hi lease).1
  let t := s.countOps (tackOps lo hi)
  if st ≠ St.ok then t.dbgStatus st
  else
    let (id, rec_, u) := t.grantTack w.src lo hi lease
    u.dbgSay (leBytes 1 (if rec_.isSome then St.broken else St.ok) ++ leBytes 2 id ++ ((rec_.map TackRec.bytes).getD []))

/-- A free answer of n bytes: what a core's registers hold, and what no part of the model holds. -/
def State.dbgFree (s : State) (st n : Nat) : State :=
  let (l, t) := s.freshBytes n
  t.dbgSay (leBytes 1 st ++ l)

/-- An offset lies in the dictionary's regions (R24, R241). -/
def State.inDictRegion (s : State) (o : Nat) : Bool := decide (s.regionBase 3 ≤ o) && decide (o < s.deviceBase)

/-- A byte of package memory as a debug read finds it: in the descriptor region, which begins where the configurable regions end
(DESIGN CHOICE, assumption 112), a byte of a record (R235); in the heap, where the engine places things as it chooses, a free
byte (R241). -/
def State.dbgPmByte (s : State) (o : Nat) : Byte × State :=
  if !s.inDictRegion o then (s.pmByte o, s)
  else
    let i := o - s.regionBase 3
    if i < 0x40000000 then ((s.recordBytes (i / 32)).1.getD (i % 32) 0, s)
    else
      let (v, t) := s.fresh
      (BitVec.ofNat 8 v, t)

/-- CORE: halting, stepping, resuming, breakpoints, registers, and the device reset. -/
def State.dbgCore (s : State) (op : DbgOp) : State :=
  let d := s.dbg
  match op with
  | .halt c => State.dbgStatus { s with dbg := { d with halted := c.val :: d.halted.filter (· != c.val) } } St.ok
  | .resume c => State.dbgStatus { s with dbg := { d with halted := d.halted.filter (· != c.val) } } St.ok
  | .breakpoint c a => State.dbgStatus { s with dbg := { d with breaks := d.breaks ++ [(c.val, a.toNat)] } } St.ok
  | .coreRead _ _ => s.dbgFree St.ok 8
  | .reset => s.deviceReset 7
  | _ => s.dbgStatus St.ok

/-- A register's bytes, little-endian: a pointer is its address, base and length in two bytes each; predicate Pi is bit i
(R26, R400; DESIGN CHOICE, assumption 129). -/
def Needle.regBytes (nd : Needle) (r : NdlReg) : List Byte :=
  match r with
  | .d i => leBytes 4 nd.d[i].toNat
  | .a i => leBytes 10 nd.acc[i].toNat
  | .ptr i => let q := nd.ptr i; leBytes 2 q.a.toNat ++ leBytes 2 q.b.toNat ++ leBytes 2 q.l.toNat
  | .m i => leBytes 2 nd.m[i].toNat
  | .p => leBytes 1 ((List.range 7).map (fun i => if nd.pred (Fin.ofNat 8 i) then 2 ^ i else 0)).sum
  | .stc => leBytes 8 nd.stc.toNat

/-- FABRIC: one register or word of a needle, or its Tape record: the latest completion code and the smallest margin of the hem. -/
def State.dbgFabric (s : State) (op : DbgOp) : State :=
  let word (w : Word) : State := s.dbgSay (leBytes 1 St.ok ++ leBytes 4 w.toNat)
  match op with
  | .needleReg n r => s.dbgSay (leBytes 1 St.ok ++ (s.needle n.val).regBytes r)
  | .needleProg n k => s.dbgSay (leBytes 1 St.ok ++ leBytes 8 (look (fun _ => 0) (s.needle n.val).prog k.val).toNat)
  | .needleX n e => word ((s.needle n.val).xw e.toNat)
  | .needleY n e => word ((s.needle n.val).yw e.toNat)
  | .needleSeam n j => word (look (fun _ => 0) (s.needle n.val).pub j.val)
  | .tape n => s.dbgSay (leBytes 1 St.ok ++ leBytes 2 (s.nat (ndlObj n.val 2)) ++ Ty.i16.encode (s.obj (ndlObj n.val 4)))
  | _ => s

/-- MEM: one byte of a bobbin, on port 1, or of package memory, by a preemption for which the access waits (R166, R345). -/
def State.dbgMem (s : State) (op : DbgOp) : State :=
  match op with
  | .bobRead b off =>
    (s.bobParity b.val (s.badReads b.val off.toNat 1)).dbgSay
      (leBytes 1 St.ok ++ (if s.bobBadAt b.val off.toNat then [0] else s.bobBytes b.val off.toNat 1))
  | .bobWrite b off v => (s.setBobBytes b.val off.toNat [v]).dbgStatus St.ok
  | .pmRead o => { s with dbg := { s.dbg with waits := s.dbg.waits ++ [(o.toNat, none)] } }
  | .pmWrite o v => { s with dbg := { s.dbg with waits := s.dbg.waits ++ [(o.toNat, some v)] } }
  | _ => s

/-- OBJ: what the dictionary answers. -/
def State.dbgObj (s : State) (op : DbgOp) : State :=
  let w := s.dbgWriter
  match op with
  | .read num first count =>
    let (a, t) := s.opRead w.role ⟨0, 0, count, num.toNat, first, []⟩
    t.dbgSay (leBytes 1 a.status ++ a.payload)
  | .write num first ty l =>
    let (st, t) := s.write1 w ⟨num.toNat, first, s.countOf num.toNat l.length, ty.toNat, l⟩
    if t.phase != .running then t else t.dbgStatus st
  | .commit g at_ =>
    let (st, v, t) := s.commitRequest w g at_
    t.dbgSay (leBytes 1 st ++ leBytes 8 v)
  | .tack lo hi lease => s.dbgTack lo.toNat hi.toNat lease
  | .untack lo =>
    match s.dict.tacks.find? (fun t => t.src == .debug && t.lo == lo.toNat) with
    | some t => (s.dropTack t).dbgStatus St.ok
    | none => s.dbgStatus St.tackNone
  | _ => s

/-- KEY: the operation of a record, as THM_OPn performs it (R338); in RETURNED every one ends in KEY_EMPTY (R344). -/
def State.dbgKey (s : State) (o : Nat) : State :=
  if s.nat Obj.lifecycle = 3 then s.dbgStatus 5 else ((s.thmRun o).2).dbgStatus (s.thmRun o).1

/-- The burst of a debug access to package memory: a read that is delivered bad is taken as 0, and what a write leaves that failed
twice is not defined (R160, R364). A write to the dictionary's regions, or past the end, changes nothing (DESIGN CHOICE,
assumption 199). -/
def State.dbgBurst (s : State) (a : Nat × Option Byte) (bad : Bool) : State :=
  match a.2 with
  | none =>
    let (v, t) := if bad then (0, s) else s.dbgPmByte a.1
    t.dbgSay (leBytes 1 St.ok ++ [v])
  | some v =>
    let t := if s.inDictRegion a.1 || decide (s.pmSize ≤ a.1) then s
      else if bad then s.undefBurst a.1
      else s.setPmBytes a.1 [v]
    t.dbgStatus St.ok

/-- DEBUG_PREEMPT (R160, R166): the oldest access of the debug port that waits for the channel moves its burst, once no refresh is
due, which goes first, and at least 256 ns after the debug port's last one on the channel. The matrix granted the access when
its frame began (R345). -/
def execDebugPreempt (dt : Nat) (ch : Fin 2) (bad1 bad2 : Bool) (s : State) : Host.Outcome State Fault Refusal :=
  whenRunning dt s (fun s =>
    let a := s.arbOf ch.val
    match s.dbg.waits.find? (fun x => pmChannel x.1 == ch.val) with
    | none => s
    | some x =>
      if s.refreshDue ch.val || a.debugAt.any (fun t => decide (s.now < t + 256000)) then s
      else
        let s1 := (s.setArb ch.val { a with debugAt := some s.now }).bump (grantsObj ch.val) 11
        let s2 : State := { s1 with dbg := { s1.dbg with waits := s1.dbg.waits.erase x } }
        (s2.linkReport 11 x.2.isSome x.1 bad1 bad2).dbgBurst x (bad1 && bad2))

/-- What a granted frame does. -/
def State.debugOp (s : State) (op : DbgOp) : State :=
  match dbgKind op, op with
  | .key, .key o => s.dbgKey o.toNat
  | .obj, _ => s.dbgObj op
  | .core, _ => s.dbgCore op
  | .fabric, _ => s.dbgFabric op
  | .mem, _ => s.dbgMem op
  | _, _ => s

/-- A frame has the session it needs: in BLANK and RETURNED none (R341). -/
def State.dbgOpenTo (s : State) : Bool :=
  s.dbg.session.isSome || s.nat Obj.lifecycle == 0 || s.nat Obj.lifecycle == 3

/-- DBG_ACCESS (R341, R345): a frame whose tag fails has no effect; one whose kind is not granted is answered DENIED. In DEVELOP
at level OPEN a frame of no session has no key to pass under (DEDUCED, assumption 77). -/
def execDbgAccess (dt : Nat) (tagOk : Bool) (op : DbgOp) (s : State) : Host.Outcome State Fault Refusal :=
  whenRunning dt s (fun s0 =>
    let s := s0.tapLoad 0x12
    if !tagOk || (s.mayDebug op && !s.dbgOpenTo) then s
    else
      let s1 : State := { s with dbg := { s.dbg with session := s.dbg.session.map (fun x => (x.1, s.now)), frames := s.dbg.frames + 1 } }
      if s1.mayDebug op then s1.debugOp op else (s1.bump Obj.dbgDeniedHem).emit (.debug true []))

end Sys2Proof.Machine
end

