-- ==== Sys2Proof/Machine/Journal.lean ====
section
/-!
DEFINITION. The journal in the boot flash (R251–R253), the hem boundary's part in it (R371), and the restore at boot.
-/

namespace Sys2Proof.Machine

/-! ## What is journalled (R96, R251, R371) -/

/-- Numbers of the PERSIST rows of a block, each moved by `by_`. -/
def persistOf (l : List Desc) (by_ : Nat) : List Nat :=
  (l.filter (fun d => d.persist || d.cls == .life)).flatMap (fun d => (List.range (d.hi + 1 - d.lo)).map (fun i => d.lo + i + by_))

/-- Every PERSIST object in ascending number: the device's, and those of the placed pattern. -/
def State.persistNums (s : State) : List Nat :=
  let low := [0, 1, 2, 3, 4].flatMap (fun b => persistOf (Obj.rowsOf (4096 * b)) 0)
  let shb := (persistOf (Obj.rowsOf 0x4000) 0x2000).filter (fun n => (Obj.desc? n).isSome)
  let mid := [8, 9, 10, 11].flatMap (fun b => persistOf (Obj.rowsOf (4096 * b)) 0)
  let ndl := (List.range 128).flatMap (fun n => persistOf (Obj.rowsOf 0xC000) (64 * n))
  let high := [14, 15, 17].flatMap (fun b => persistOf (Obj.rowsOf (4096 * b)) 0)
  let par := match s.last.pat with
    | none => []
    | some p => (p.params.zipIdx.filter (fun e => e.1.flags.testBit 1)).map (fun e => paramBase + e.2)
  low ++ shb ++ mid ++ ndl ++ high ++ par

/-- A flash entry, aligned to 4 bytes: NUMBER, PATTERN_ID, LENGTH, CRC and the value (R251). -/
def journalEntry (num pid : Nat) (l : List Byte) : List Byte :=
  let head := leBytes 4 num ++ leBytes 4 pid ++ leBytes 2 l.length
  head ++ leBytes 2 (crc16 (head ++ [0, 0] ++ l)) ++ l ++ padTo4 l.length

/-- The entry of one object: a basted one keeps its committed value (R96). -/
def State.entryFor (s : State) (num : Nat) : List Byte :=
  match s.desc? num with
  | none => []
  | some d =>
    let pid := if (s.param? num).isSome then ((s.last.pat.map (·.id)).getD 0) else 0
    journalEntry num pid (s.encodeValue d num 0 d.elems true).1

/-- Bytes of a journal area, and of an image at most. -/
def journalSize : Nat := 0x100000
/-- See `journalSize`. -/
def imageSize : Nat := 0x40000

/-- An area's header (R251). -/
def areaHeader (seq : Nat) : List Byte :=
  let h : List Byte := [0x55, 0x4A, 0x4E, 0x4C] ++ leBytes 4 seq ++ List.replicate 6 0
  h ++ leBytes 2 (crc16 h)

/-- The CLOSE entry (R251). -/
def closeEntry : List Byte := journalEntry (2 ^ 31) 0 []

/-! ## A batch (R252) -/

/-- Entries in ascending number as far as they fit an image, with the last number left out, which is the first by descending
number. -/
def fitImage : List (Nat × List Byte) → Nat → List Byte × Option Nat
  | [], _ => ([], none)
  | (n, e) :: t, room =>
    if room < e.length then ([], some ((t.map (·.1)).getLastD n))
    else
      let (l, out) := fitImage t (room - e.length)
      (e ++ l, out)

/-- The numbers of an image's entries: those that `fitImage` keeps. -/
def fitNums : List (Nat × List Byte) → Nat → List Nat
  | [], _ => []
  | (n, e) :: t, room => if room < e.length then [] else n :: fitNums t (room - e.length)

/-- Journalled parameter values that still wait for their pattern keep their entries until a placement (R253). -/
def State.keptEntries (s : State) : List (Nat × List Byte) :=
  if s.last.pat.isSome then [] else s.last.kept.map (fun e => (e.2.1, journalEntry e.2.1 e.1 e.2.2))

/-- JOURNAL_STATE from the journal's inner state: 0 IDLE, 1 PENDING, 3 COMPACTING, 4 FAULT (R257). -/
def State.showJournal (s : State) : State :=
  let j := s.dict.journal
  (s.setNat Obj.journalState 0 (if j.fault then 4 else if j.erasing then 3 else if j.dirty.isEmpty then 0 else 1)).setNat
    Obj.journalUsed 0 j.used

/-- The flash reports a failed program or erase at offset o (R252). -/
def State.journalFails (s : State) (o : Nat) : State :=
  (((s.bump Obj.journalFailHem).log 0x54 o).modJournal (fun j => { j with fault := true, dirty := [] })).showJournal

/-- Program the journal; a program that fails leaves free values. -/
def State.journalProgram (s : State) (o : Nat) (l : List Byte) (failed : Bool) : State :=
  if failed then
    let (f, t) := s.freshBytes l.length
    ((t.setFlash o f).selectBank o).journalFails o
  else s.ownProgram o l

/-- The lifetime counters among the numbers have entries from now on (R371). -/
def State.lifeWritten (s : State) (l : List Nat) : State :=
  s.modJournal (fun j => { j with
    lifeAt := (l.filter (fun n => (Obj.desc? n).any (fun d => d.cls == .life))).foldl (fun m n => put (fun _ => 0) m n s.now) j.lifeAt })

/-- A batch is appended to the active area. -/
def State.appendBatch (s : State) (l : List Byte) (failed : Bool) : State :=
  let j := s.dict.journal
  let t := s.journalProgram (flashJournal j.area + j.used) l failed
  if failed then t else ((t.lifeWritten j.dirty).modJournal (fun j => { j with used := j.used + l.length, dirty := [] })).showJournal

/-- Compaction (R252): the other area gets a header, an image, the batch and CLOSE; the old area is erased afterwards. -/
def State.compact (s : State) (batch : List Byte) (failed : Bool) : State :=
  let j := s.dict.journal
  let other := 1 - j.area
  let entries := s.persistNums.map (fun n => (n, s.entryFor n)) ++ s.keptEntries
  let (image, out) := fitImage entries imageSize
  let l := areaHeader ((j.seq + 1) % 2 ^ 32) ++ image ++ batch ++ closeEntry
  let s1 := match out with
    | some n => s.log 0x53 n
    | none => s
  let t := (s1.ownErase (flashJournal other) journalSize).journalProgram (flashJournal other) l failed
  if failed then t
  else
    let u := t.lifeWritten (fitNums entries imageSize ++ j.dirty)
    (State.modJournal { u with last := { u.last with kept := if s.last.pat.isSome then [] else u.last.kept } } (fun j => { j with
      area := other, seq := (j.seq + 1) % 2 ^ 32, used := l.length, dirty := [], erasing := true })).showJournal

/-- JOURNAL_BATCH (R252): 1 s after the change that started it, or at once in a STANDBY entry, the batch is written; while
the port cannot master, or a batch that must compact finds the other area still erasing, it waits. -/
def execJournalBatch (dt : Nat) (failed : Bool) (s : State) : Host.Outcome State Fault Refusal :=
  whenRunning dt s (fun s =>
    let j := s.dict.journal
    if j.dirty.isEmpty || j.fault || (decide (s.now < j.began + 1000 * msPs) && !s.pw.standby) then s
    else s.onFlash (fun s =>
      let batch := j.dirty.flatMap s.entryFor
      if j.used ≠ 0 && decide (j.used + batch.length ≤ journalSize) then s.appendBatch batch failed
      else if j.erasing then s
      else s.compact batch failed))

/-- JOURNAL_ERASE_DONE (R252): the old area has been erased; an erase that fails leaves free values. -/
def execJournalEraseDone (dt : Nat) (failed : Bool) (s : State) : Host.Outcome State Fault Refusal :=
  whenRunning dt s (fun s =>
    let j := s.dict.journal
    let o := flashJournal (1 - j.area)
    if !j.erasing then s
    else
      let s1 := s.modJournal (fun j => { j with erasing := false })
      if failed then
        let (f, t) := s1.freshBytes journalSize
        (t.setFlash o f).journalFails o
      else (s1.eraseFlash o journalSize).showJournal)

/-! ## The hem boundary (R367, R368, R371) -/

/-- At the first hem boundary at least 3 600 s after its last entry, a lifetime counter joins a batch; one with no entry since
reset counts from there (DEDUCED, assumption 66). -/
def State.journalLife (s : State) : State :=
  (s.lifeNums.filter (fun n => look (fun _ => 0) s.dict.journal.lifeAt n + 3600000 * msPs ≤ s.now)).foldl State.markDirty s

/-- The boundary with the journal's part in it. -/
def State.takeHem (s : State) : State := if s.hemReached then s.hemBoundary.journalLife else s

/-- HEM_BOUNDARY (R367, R368, R371), at the boundary's strobe: nothing when none has been reached, or when the strobe has
taken it. -/
def execHemBoundary (dt : Nat) (s : State) : Host.Outcome State Fault Refusal := whenRunning dt s State.takeHem

/-! ## The restore (R253) -/

/-- One entry as the flash holds it: NUMBER word, PATTERN_ID and value. -/
abbrev JEntry := Nat × Nat × List Byte

/-- The entry at the head of an area's bytes and what follows; none where its CRC fails, it does not fit, or the flash is
erased there. -/
def headEntry (l : List Byte) : Option (JEntry × List Byte) :=
  let num := leNat (l.take 4)
  let len := leNat ((l.drop 8).take 2)
  let v := (l.drop 12).take len
  let next := 12 + len + (4 - len % 4) % 4
  if l.length < next || num = 0xFFFFFFFF || crc16 (l.take 10 ++ [0, 0] ++ v) ≠ leNat ((l.drop 10).take 2) then none
  else some ((num, leNat ((l.drop 4).take 4), v), l.drop next)

/-- Entries from the head on, up to the first that does not hold: the entries, and the bytes they take. -/
def readEntries : Nat → List Byte → List JEntry × Nat
  | 0, _ => ([], 0)
  | k + 1, l =>
    match headEntry l with
    | none => ([], 0)
    | some (e, t) =>
      let (r, n) := readEntries k t
      (e :: r, n + (l.length - t.length))

/-- An area: its SEQ, entries and bytes used, where its header and a CLOSE entry are valid. -/
def State.readArea (s : State) (i : Nat) : Option (Nat × List JEntry × Nat) :=
  let l := s.flashBytes (flashJournal i) journalSize
  let (es, n) := readEntries (journalSize / 12) (l.drop 16)
  if l.take 4 == [0x55, 0x4A, 0x4E, 0x4C] && crc16 (l.take 14) == leNat ((l.drop 14).take 2) && es.any (fun e => e.1.testBit 31) then
    some (leNat ((l.drop 4).take 4), es, 16 + n)
  else none

/-- The area R253 chooses, with its number. -/
def State.chosenArea (s : State) : Option (Nat × Nat × List JEntry × Nat) :=
  match s.readArea 0, s.readArea 1 with
  | some a, some b => if serialLater b.1 a.1 then some (1, b) else some (0, a)
  | some a, none => some (0, a)
  | none, some b => some (1, b)
  | none, none => none

/-- The latest entry of each number, in order. -/
def latestEntries : List JEntry → List JEntry
  | [] => []
  | e :: t => if e.1.testBit 31 then latestEntries t
    else if t.any (fun x => x.1 % 0x2000000 == e.1 % 0x2000000) then latestEntries t else e :: latestEntries t

/-- The part itself as a writer. -/
def partWriter : Writer := ⟨.part, some 4, 0⟩

/-- A restored value becomes the object's, and what hangs on it follows; a profile's defaults do not, since its domain,
intervals and timeout are restored for themselves, the active PTP port after reset is the preferred one (R220), and the role acts
when the time source is restored too (R215). -/
def State.restoreElems (s : State) (num i : Nat) : List Int → State
  | [] => s
  | v :: t =>
    let old := s.obj num i
    let s1 := s.setObj num i v
    let s2 := if num = Obj.ptpProfile || num = Obj.tbRole then s1
      else if num = Obj.ptpPortCfg then s1.setNat Obj.ptpPortActive 0 (v.toNat % 2)
      else s1.chapterEffect partWriter num i old v []
    s2.restoreElems num (i + 1) t

/-- One device object is restored under the check of R238, or keeps its default with PERSIST_RANGE logged. -/
def State.restoreObject (s : State) (num : Nat) (l : List Byte) : State :=
  match s.desc? num with
  | none => s
  | some d =>
    let q : WReq := ⟨num, 0, d.elems, d.code, l⟩
    if !d.flags.testBit 1 then s
    else if d.typeCheck q ≠ St.ok || d.rangeCheck q ≠ St.ok then s.log 0x55 num
    else if d.ty.isBytes then s.setBlob num l
    else s.restoreElems num 0 (d.values q)

/-- One restored entry: a device object's at once, a pattern parameter's kept until placement. -/
def State.restoreEntry (s : State) (e : JEntry) : State :=
  let num := e.1 % 0x2000000
  if num < paramBase then s.restoreObject num e.2.2
  else { s with last := { s.last with kept := s.last.kept ++ [(e.2.1, num, e.2.2)] } }

/-- The split of package memory in force from this reset on, UNIV_BASE and the hem length in force (R159, R253, R276). -/
def State.takeForce (s : State) : State :=
  let fw := s.nat Obj.pmFwMib * 1048576
  let spill := s.nat Obj.pmSpillMib * 1048576
  let spool := s.nat Obj.pmSpoolMib
  let s1 := ((s.setNat Obj.pmRegionBase 1 fw).setNat Obj.pmRegionBase 2 (fw + spill)).setNat Obj.pmRegionBase 3
    (fw + spill + spool * 1048576)
  let s2 := s1.setNat Obj.freeSpoolKib 0 (spool * 1024)
  { s2 with ven := { s2.ven with base := s2.nat Obj.univBase }, hem := { s2.hem with n := s2.nat Obj.hemSeconds } }

/-- What the ROM restores: the entries of the chosen area, and the journal's own place in it; a 9640 whose restored role is to lead
only leads (R215). -/
def State.restoreJournal (s : State) : State :=
  match s.chosenArea with
  | none => s
  | some (i, seq, es, used) =>
    let t := ((latestEntries es).foldl State.restoreEntry s).modJournal (fun j => { j with area := i, seq := seq, used := used })
    if t.nat Obj.tbRole = 2 then t.lead else t

/-- JOURNAL_RESTORE (R253, R313, R314): once after reset, after the slot records; control traffic is admitted from here on. -/
def execJournalRestore (dt : Nat) (s : State) : Host.Outcome State Fault Refusal :=
  whenRunning dt s (fun s =>
    if s.boot.admitted || !s.boot.chosen then s
    else s.onFlash (fun s =>
      let t := (s.selectBank 0).restoreJournal.takeForce.showJournal
      { t with boot := { t.boot with admitted := true }, safe := { t.safe with journal := true } }))

end Sys2Proof.Machine
end

