-- ==== Sys2Proof/Machine/NeedleAcc.lean ====
section
/-!
DEFINITION. Needle instructions on the multipliers and accumulators (R31–R35, R38–R45, R51, R60).
-/

namespace Sys2Proof.Machine

/-- An accumulator's new value from the products' sum and the conditions they met (R32, R38). -/
def accumulate (md : AccMode) (old : Acc) (sum : Int) (f : Flags) (sat : Bool) : Acc × Flags :=
  let r := accResult (accStart md old + accSign md sum) sat
  (r.1, f.or r.2)

/-- The sum of four lane products (R39). -/
def dotSum (x y : Fin 4 → Word) : Int × Flags :=
  let p0 := product (x 0) (y 0)
  let p1 := product (x 1) (y 1)
  let p2 := product (x 2) (y 2)
  let p3 := product (x 3) (y 3)
  (p0.1 + p1.1 + p2.1 + p3.1, ((p0.2.or p1.2).or p2.2).or p3.2)

/-- MAC4.DOT (R39). -/
def execMac4Dot (n : Fin 128) (g : Gate) (ad : Fin 4) (md : AccMode) (xq yq : QuadSrc) (s : State) :
    Host.Outcome State Fault Refusal :=
  slot (.mac4Dot n g ad md xq yq) n g (xq.ok g.fetchesX && yq.ok g.fetchesY) 5
    (toA ad (fun i =>
      let p := dotSum (i.xQuad xq) (i.yQuad yq)
      accumulate md (i.ar ad) p.1 p.2 i.sat)) s

/-- The four accumulators, each with one product of its own (R40, R41). -/
def fourAcc (md : AccMode) (x y : SlotIn → Fin 4 → Word) : SlotOp :=
  onNeedle (fun i nd =>
    let r (l : Fin 4) : Acc × Flags :=
      let p := product (x i l) (y i l)
      accumulate md (i.ar l) p.1 p.2 i.sat
    ({ nd with acc := ((((nd.acc.set 0 (r 0).1).set 1 (r 1).1).set 2 (r 2).1).set 3 (r 3).1) },
      (((r 0).2.or (r 1).2).or (r 2).2).or (r 3).2))

/-- MAC4.FAN (R40). -/
def execMac4Fan (n : Fin 128) (g : Gate) (md : AccMode) (sc : ScalarSrc) (yq : QuadSrc) (s : State) :
    Host.Outcome State Fault Refusal :=
  slot (.mac4Fan n g md sc yq) n g (sc.ok g.fetchesX && yq.ok g.fetchesY) 5
    (fourAcc md (fun i _ => i.scalar sc) (fun i l => i.yQuad yq l)) s

/-- MAC4.LANE (R41). -/
def execMac4Lane (n : Fin 128) (g : Gate) (md : AccMode) (xq yq : QuadSrc) (s : State) :
    Host.Outcome State Fault Refusal :=
  slot (.mac4Lane n g md xq yq) n g (xq.ok g.fetchesX && yq.ok g.fetchesY) 5
    (fourAcc md (fun i l => i.xQuad xq l) (fun i l => i.yQuad yq l)) s

/-- CMAC into A0 and A1; `cj` conjugates Y (R42). -/
def cmacOp (cj : Bool) (md : AccMode) (xp yp : PairSrc) : SlotOp :=
  onNeedle (fun i nd =>
    let x := i.xPair xp
    let y := i.yPair yp
    let rr := product x.1 y.1
    let ii := product x.2 y.2
    let ri := product x.1 y.2
    let ir := product x.2 y.1
    let re := if cj then rr.1 + ii.1 else rr.1 - ii.1
    let im := if cj then ir.1 - ri.1 else ri.1 + ir.1
    let a0 := accumulate md (i.ar 0) re (rr.2.or ii.2) i.sat
    let a1 := accumulate md (i.ar 1) im (ri.2.or ir.2) i.sat
    ((nd.setA 0 a0.1).setA 1 a1.1, a0.2.or a1.2))

/-- CMAC (R42). -/
def execCmac (n : Fin 128) (g : Gate) (md : AccMode) (xp yp : PairSrc) (s : State) :
    Host.Outcome State Fault Refusal :=
  slot (.cmac n g md xp yp) n g (xp.ok g.fetchesX && yp.ok g.fetchesY) 5 (cmacOp false md xp yp) s

/-- CMAC.CJ (R42). -/
def execCmacCj (n : Fin 128) (g : Gate) (md : AccMode) (xp yp : PairSrc) (s : State) :
    Host.Outcome State Fault Refusal :=
  slot (.cmacCj n g md xp yp) n g (xp.ok g.fetchesX && yp.ok g.fetchesY) 5 (cmacOp true md xp yp) s

/-- MSQ: Ad := acc_result(Ad + p(Dx, Dx)) (R51). -/
def execMsq (n : Fin 128) (g : Gate) (ad : Fin 4) (x : Fin 16) (s : State) : Host.Outcome State Fault Refusal :=
  slot (.msq n g ad x) n g true 0
    (toA ad (fun i =>
      let p := product (i.dr x) (i.dr x)
      accumulate .acc (i.ar ad) p.1 p.2 i.sat)) s

/-- BFLY; `half` halves the four sums before write-back (R43). -/
def bflyOp (half : Bool) (dm dk : Fin 8) (a b w : PairSrc) : SlotOp :=
  onNeedle (fun i nd =>
    let av := i.xPair a
    let bv := i.xPair b
    let wv := i.yPair w
    let rr := product wv.1 bv.1
    let ii := product wv.2 bv.2
    let ri := product wv.1 bv.2
    let ir := product wv.2 bv.1
    let tr := rr.1 - ii.1
    let ti := ri.1 + ir.1
    let out (v : Int) : Word × Flags := writeback (if half then v.fdiv 2 else v) i.sat i.full
    let mr := out (av.1.toInt * 2 ^ 32 + tr)
    let mi := out (av.2.toInt * 2 ^ 32 + ti)
    let kr := out (av.1.toInt * 2 ^ 32 - tr)
    let ki := out (av.2.toInt * 2 ^ 32 - ti)
    ((((nd.setD (pairReg dm 0) mr.1).setD (pairReg dm 1) mi.1).setD (pairReg dk 0) kr.1).setD (pairReg dk 1) ki.1,
      ((((((rr.2.or ii.2).or ri.2).or ir.2).or mr.2).or mi.2).or kr.2).or ki.2))

/-- The encoding rules of BFLY (R59, R61). -/
def bflyLegal (g : Gate) (dm dk : Fin 8) (a b w : PairSrc) : Bool :=
  bflyDests dm dk && bflyPairs a b && a.ok g.fetchesX && b.ok g.fetchesX && w.ok g.fetchesY

/-- BFLY (R43). -/
def execBfly (n : Fin 128) (g : Gate) (dm dk : Fin 8) (a b w : PairSrc) (s : State) :
    Host.Outcome State Fault Refusal :=
  slot (.bfly n g dm dk a b w) n g (bflyLegal g dm dk a b w) 6 (bflyOp false dm dk a b w) s

/-- BFLY.H (R43). -/
def execBflyH (n : Fin 128) (g : Gate) (dm dk : Fin 8) (a b w : PairSrc) (s : State) :
    Host.Outcome State Fault Refusal :=
  slot (.bflyH n g dm dk a b w) n g (bflyLegal g dm dk a b w) 6 (bflyOp true dm dk a b w) s

/-- A word as an accumulator holds it: acc[63:32], sign-extended, acc[31:0] = 0 (R30). -/
def accOfWord (w : Word) : Acc := BitVec.ofInt 80 (w.toInt * 2 ^ 32)

/-- LDA. -/
def execLda (n : Fin 128) (g : Gate) (ad : Fin 4) (x : Fin 16) (s : State) : Host.Outcome State Fault Refusal :=
  slot (.lda n g ad x) n g true 0 (toA ad (fun i => (accOfWord (i.dr x), .none))) s

/-- ACLR: Ad := 0. -/
def execAclr (n : Fin 128) (g : Gate) (ad : Fin 4) (s : State) : Host.Outcome State Fault Refusal :=
  slot (.aclr n g ad) n g true 0 (toA ad (fun _ => (0, .none))) s

/-- AADD: Ad := acc_result(Aa + Ab). -/
def execAadd (n : Fin 128) (g : Gate) (ad a b : Fin 4) (s : State) : Host.Outcome State Fault Refusal :=
  slot (.aadd n g ad a b) n g true 0 (toA ad (fun i => accResult ((i.ar a).toInt + (i.ar b).toInt) i.sat)) s

/-- ASUB: Ad := acc_result(Aa − Ab). -/
def execAsub (n : Fin 128) (g : Gate) (ad a b : Fin 4) (s : State) : Host.Outcome State Fault Refusal :=
  slot (.asub n g ad a b) n g true 0 (toA ad (fun i => accResult ((i.ar a).toInt - (i.ar b).toInt) i.sat)) s

/-- AASL: Ad := acc_result(Aa · 2ⁿ). -/
def execAasl (n : Fin 128) (g : Gate) (ad a : Fin 4) (k : Fin 64) (s : State) : Host.Outcome State Fault Refusal :=
  slot (.aasl n g ad a k) n g true 0 (toA ad (fun i => accResult ((i.ar a).toInt * 2 ^ k.val) i.sat)) s

/-- AASR: Ad := floor(Aa / 2ⁿ). -/
def execAasr (n : Fin 128) (g : Gate) (ad a : Fin 4) (k : Fin 64) (s : State) : Host.Outcome State Fault Refusal :=
  slot (.aasr n g ad a k) n g true 0 (toA ad (fun i => ((i.ar a).sshiftRight k.val, .none))) s

/-- ASEL: Ad := Aa if Pc, else Ab (R62). -/
def execAsel (n : Fin 128) (g : Gate) (ad a b : Fin 4) (pc : Fin 8) (s : State) :
    Host.Outcome State Fault Refusal :=
  slot (.asel n g ad a b pc) n g true 0 (toA ad (fun i => (if i.nd.pred pc then i.ar a else i.ar b, .none))) s

/-- WB: Dd := writeback(As). -/
def execWb (n : Fin 128) (g : Gate) (d : Fin 16) (a : Fin 4) (s : State) : Host.Outcome State Fault Refusal :=
  slot (.wb n g d a) n g true 0 (toD d (fun i => writeback (i.ar a).toInt i.sat i.full)) s

/-- Register quad q takes four words. -/
def Needle.setQuad (nd : Needle) (q : Fin 4) (w : Fin 4 → Word) : Needle :=
  (((nd.setD (quadReg q 0) (w 0)).setD (quadReg q 1) (w 1)).setD (quadReg q 2) (w 2)).setD (quadReg q 3) (w 3)

/-- WB4: D(4d + i) := writeback(Ai). -/
def execWb4 (n : Fin 128) (g : Gate) (q : Fin 4) (s : State) : Host.Outcome State Fault Refusal :=
  slot (.wb4 n g q) n g true 0
    (onNeedle (fun i nd =>
      let r (l : Fin 4) : Word × Flags := writeback (i.ar l).toInt i.sat i.full
      (nd.setQuad q (fun l => (r l).1), (((r 0).2.or (r 1).2).or (r 2).2).or (r 3).2))) s

/-- STA.X: X[e] := writeback(As). -/
def execStaX (n : Fin 128) (g : Gate) (a : Fin 4) (s : State) : Host.Outcome State Fault Refusal :=
  slot (.staX n g a) n g g.fetchesX 5
    (onNeedle (fun i nd =>
      let r := writeback (i.ar a).toInt i.sat i.full
      (nd.setX i.xe r.1, r.2))) s

/-- STA.Y: Y[e] := writeback(As). -/
def execStaY (n : Fin 128) (g : Gate) (a : Fin 4) (s : State) : Host.Outcome State Fault Refusal :=
  slot (.staY n g a) n g g.fetchesY 5
    (onNeedle (fun i nd =>
      let r := writeback (i.ar a).toInt i.sat i.full
      (nd.setY i.ye r.1, r.2))) s

/-- RDAG: Dd := As[79:64] sign-extended (R45). -/
def execRdag (n : Fin 128) (g : Gate) (d : Fin 16) (a : Fin 4) (s : State) : Host.Outcome State Fault Refusal :=
  slot (.rdag n g d a) n g true 0 (toDPlain d (fun i => ((i.ar a).extractLsb' 64 16).signExtend 32)) s

/-- RDAH: Dd := As[63:32] (R45). -/
def execRdah (n : Fin 128) (g : Gate) (d : Fin 16) (a : Fin 4) (s : State) : Host.Outcome State Fault Refusal :=
  slot (.rdah n g d a) n g true 0 (toDPlain d (fun i => (i.ar a).extractLsb' 32 32)) s

/-- RDAL: Dd := As[31:0] (R45). -/
def execRdal (n : Fin 128) (g : Gate) (d : Fin 16) (a : Fin 4) (s : State) : Host.Outcome State Fault Refusal :=
  slot (.rdal n g d a) n g true 0 (toDPlain d (fun i => (i.ar a).extractLsb' 0 32)) s

/-- WRAG: As[79:64] := Dn[15:0] (R45). -/
def execWrag (n : Fin 128) (g : Gate) (a : Fin 4) (x : Fin 16) (s : State) : Host.Outcome State Fault Refusal :=
  slot (.wrag n g a x) n g true 0 (toA a (fun i => ((i.dr x).extractLsb' 0 16 ++ (i.ar a).extractLsb' 0 64, .none))) s

/-- WRAH: As[63:32] := Dn (R45). -/
def execWrah (n : Fin 128) (g : Gate) (a : Fin 4) (x : Fin 16) (s : State) : Host.Outcome State Fault Refusal :=
  slot (.wrah n g a x) n g true 0
    (toA a (fun i => ((i.ar a).extractLsb' 64 16 ++ i.dr x ++ (i.ar a).extractLsb' 0 32, .none))) s

/-- WRAL: As[31:0] := Dn (R45). -/
def execWral (n : Fin 128) (g : Gate) (a : Fin 4) (x : Fin 16) (s : State) : Host.Outcome State Fault Refusal :=
  slot (.wral n g a x) n g true 0 (toA a (fun i => ((i.ar a).extractLsb' 32 48 ++ i.dr x, .none))) s

end Sys2Proof.Machine
end

