-- ==== Sys2Proof/Machine/NeedleAlu.lean ====
section
/-!
DEFINITION. Needle instructions on D registers and predicates (R29, R35, R60–R64): moves, immediates, arithmetic,
logic, shifts, compares and SELECT.
-/

namespace Sys2Proof.Machine

/-- NOP: nothing beyond its access fields. -/
def execNop (n : Fin 128) (g : Gate) (s : State) : Host.Outcome State Fault Refusal :=
  slot (.nop n g) n g true 0 (onNeedle (fun _ nd => (nd, .none))) s

/-- STCL: Dd := STC[31:0] (R29). -/
def execStcl (n : Fin 128) (g : Gate) (d : Fin 16) (s : State) : Host.Outcome State Fault Refusal :=
  slot (.stcl n g d) n g true 0 (toDPlain d (fun i => i.nd.stc.setWidth 32)) s

/-- STCH: Dd := STC[63:32] (R29). -/
def execStch (n : Fin 128) (g : Gate) (d : Fin 16) (s : State) : Host.Outcome State Fault Refusal :=
  slot (.stch n g d) n g true 0 (toDPlain d (fun i => i.nd.stc.extractLsb' 32 32)) s

/-- GSL: Dd := STC mod g (R64). -/
def execGsl (n : Fin 128) (g : Gate) (d : Fin 16) (period : BitVec 16) (s : State) :
    Host.Outcome State Fault Refusal :=
  slot (.gsl n g d period) n g (gslOk period) 7 (toDPlain d (fun i => BitVec.ofNat 32 (i.nd.stc.toNat % period.toNat))) s

/-- LDIH: Dd := imm · 2¹⁶, bits [15:0] become 0. -/
def execLdih (n : Fin 128) (g : Gate) (d : Fin 16) (imm : BitVec 16) (s : State) :
    Host.Outcome State Fault Refusal :=
  slot (.ldih n g d imm) n g true 0 (toDPlain d (fun _ => imm ++ (0 : BitVec 16))) s

/-- LDIL: Dd[15:0] := imm, bits [31:16] unchanged. -/
def execLdil (n : Fin 128) (g : Gate) (d : Fin 16) (imm : BitVec 16) (s : State) :
    Host.Outcome State Fault Refusal :=
  slot (.ldil n g d imm) n g true 0 (toDPlain d (fun i => (i.dr d).extractLsb' 16 16 ++ imm)) s

/-- MOV: Dd := Da. -/
def execMov (n : Fin 128) (g : Gate) (d a : Fin 16) (s : State) : Host.Outcome State Fault Refusal :=
  slot (.mov n g d a) n g true 0 (toDPlain d (fun i => i.dr a)) s

/-- ADD: Dd := Da + Db (R35). -/
def execAdd (n : Fin 128) (g : Gate) (d a b : Fin 16) (s : State) : Host.Outcome State Fault Refusal :=
  slot (.add n g d a b) n g true 0 (toD d (fun i => dResult ((i.dr a).toInt + (i.dr b).toInt) i.sat)) s

/-- SUB: Dd := Da − Db (R35). -/
def execSub (n : Fin 128) (g : Gate) (d a b : Fin 16) (s : State) : Host.Outcome State Fault Refusal :=
  slot (.sub n g d a b) n g true 0 (toD d (fun i => dResult ((i.dr a).toInt - (i.dr b).toInt) i.sat)) s

/-- ADDI: Dd := Da + imm, imm sign-extended (R35). -/
def execAddi (n : Fin 128) (g : Gate) (d a : Fin 16) (imm : BitVec 16) (s : State) :
    Host.Outcome State Fault Refusal :=
  slot (.addi n g d a imm) n g true 0 (toD d (fun i => dResult ((i.dr a).toInt + imm.toInt) i.sat)) s

/-- NEG: Dd := −Da (R35). -/
def execNeg (n : Fin 128) (g : Gate) (d a : Fin 16) (s : State) : Host.Outcome State Fault Refusal :=
  slot (.neg n g d a) n g true 0 (toD d (fun i => dResult (-(i.dr a).toInt) i.sat)) s

/-- ABS: Dd := |Da| (R35). -/
def execAbs (n : Fin 128) (g : Gate) (d a : Fin 16) (s : State) : Host.Outcome State Fault Refusal :=
  slot (.abs n g d a) n g true 0 (toD d (fun i => dResult ((i.dr a).toInt.natAbs : Int) i.sat)) s

/-- MIN: the signed minimum. -/
def execMin (n : Fin 128) (g : Gate) (d a b : Fin 16) (s : State) : Host.Outcome State Fault Refusal :=
  slot (.min n g d a b) n g true 0 (toDPlain d (fun i => if (i.dr a).toInt ≤ (i.dr b).toInt then i.dr a else i.dr b)) s

/-- MAX: the signed maximum. -/
def execMax (n : Fin 128) (g : Gate) (d a b : Fin 16) (s : State) : Host.Outcome State Fault Refusal :=
  slot (.max n g d a b) n g true 0 (toDPlain d (fun i => if (i.dr a).toInt ≥ (i.dr b).toInt then i.dr a else i.dr b)) s

/-- AND: bitwise. -/
def execAnd (n : Fin 128) (g : Gate) (d a b : Fin 16) (s : State) : Host.Outcome State Fault Refusal :=
  slot (.and n g d a b) n g true 0 (toDPlain d (fun i => i.dr a &&& i.dr b)) s

/-- OR: bitwise. -/
def execOr (n : Fin 128) (g : Gate) (d a b : Fin 16) (s : State) : Host.Outcome State Fault Refusal :=
  slot (.or n g d a b) n g true 0 (toDPlain d (fun i => i.dr a ||| i.dr b)) s

/-- XOR: bitwise. -/
def execXor (n : Fin 128) (g : Gate) (d a b : Fin 16) (s : State) : Host.Outcome State Fault Refusal :=
  slot (.xor n g d a b) n g true 0 (toDPlain d (fun i => i.dr a ^^^ i.dr b)) s

/-- NOT: bitwise complement. -/
def execNot (n : Fin 128) (g : Gate) (d a : Fin 16) (s : State) : Host.Outcome State Fault Refusal :=
  slot (.not n g d a) n g true 0 (toDPlain d (fun i => ~~~ i.dr a)) s

/-- SELECT: Dd := Da if Pc, else Db (R62). -/
def execSelect (n : Fin 128) (g : Gate) (d a b : Fin 16) (pc : Fin 8) (s : State) :
    Host.Outcome State Fault Refusal :=
  slot (.select n g d a b pc) n g true 0 (toDPlain d (fun i => if i.nd.pred pc then i.dr a else i.dr b)) s

/-- The shift count: the immediate, or Db[4:0] (R60). -/
def shiftCount (i : SlotIn) (b : Fin 16) (rs : Bool) (k : Fin 32) : Nat :=
  if rs then (i.dr b).toNat % 32 else k.val

/-- ASL: Dd := Da · 2^k, exact before R35. -/
def execAsl (n : Fin 128) (g : Gate) (d a b : Fin 16) (rs : Bool) (k : Fin 32) (s : State) :
    Host.Outcome State Fault Refusal :=
  slot (.asl n g d a b rs k) n g true 0 (toD d (fun i => dResult ((i.dr a).toInt * 2 ^ shiftCount i b rs k) i.sat)) s

/-- ASR: Dd := floor(Da / 2^k). -/
def execAsr (n : Fin 128) (g : Gate) (d a b : Fin 16) (rs : Bool) (k : Fin 32) (s : State) :
    Host.Outcome State Fault Refusal :=
  slot (.asr n g d a b rs k) n g true 0 (toDPlain d (fun i => (i.dr a).sshiftRight (shiftCount i b rs k))) s

/-- LSL: logical left shift, zero fill. -/
def execLsl (n : Fin 128) (g : Gate) (d a b : Fin 16) (rs : Bool) (k : Fin 32) (s : State) :
    Host.Outcome State Fault Refusal :=
  slot (.lsl n g d a b rs k) n g true 0 (toDPlain d (fun i => i.dr a <<< shiftCount i b rs k)) s

/-- LSR: logical right shift, zero fill. -/
def execLsr (n : Fin 128) (g : Gate) (d a b : Fin 16) (rs : Bool) (k : Fin 32) (s : State) :
    Host.Outcome State Fault Refusal :=
  slot (.lsr n g d a b rs k) n g true 0 (toDPlain d (fun i => i.dr a >>> shiftCount i b rs k)) s

/-- CMP: Pd := (Da cc Db). -/
def execCmp (n : Fin 128) (g : Gate) (pd : Fin 8) (a b : Fin 16) (cc : Cond) (s : State) :
    Host.Outcome State Fault Refusal :=
  slot (.cmp n g pd a b cc) n g true 0 (toP pd (fun i => condD cc (i.dr a) (i.dr b))) s

/-- The immediate of CMPI: sign-extended for cc 0–5, zero-extended for cc 6–7 (R60). -/
def cmpImm (cc : Cond) (imm : BitVec 16) : Word := if cc.signed then imm.signExtend 32 else imm.setWidth 32

/-- CMPI: Pd := (Da cc imm). -/
def execCmpi (n : Fin 128) (g : Gate) (pd : Fin 8) (a : Fin 16) (cc : Cond) (imm : BitVec 16) (s : State) :
    Host.Outcome State Fault Refusal :=
  slot (.cmpi n g pd a cc imm) n g true 0 (toP pd (fun i => condD cc (i.dr a) (cmpImm cc imm))) s

/-- ACMP: Pd := (Aa cc Ab), 80-bit signed. -/
def execAcmp (n : Fin 128) (g : Gate) (pd : Fin 8) (a b : Fin 4) (cc : Cond) (s : State) :
    Host.Outcome State Fault Refusal :=
  slot (.acmp n g pd a b cc) n g cc.signed 3 (toP pd (fun i => condA cc (i.ar a) (i.ar b))) s

/-- PLOG: Pd := Pa op Pb. -/
def execPlog (n : Fin 128) (g : Gate) (pd pa pb : Fin 8) (op : PredOp) (s : State) :
    Host.Outcome State Fault Refusal :=
  slot (.plog n g pd pa pb op) n g true 0 (toP pd (fun i => predOp op (i.nd.pred pa) (i.nd.pred pb))) s

end Sys2Proof.Machine
end

