-- ==== Sys2Proof/Machine/NeedleIo.lean ====
section
/-!
DEFINITION. Needle instructions on the inlet and outlet windows, the seams and the bobbins (R65–R67, R69, R154, R360,
R363).
-/

namespace Sys2Proof.Machine

/-- Inlet word i of a needle (R65). -/
def Needle.inletWord (nd : Needle) (i : Nat) : Word := look (fun _ => 0) nd.inlet (i % 256)
/-- Give an outlet word its value (R65). -/
def Needle.setOutlet (nd : Needle) (i : Nat) (w : Word) : Needle :=
  { nd with outlet := put (fun _ => 0) nd.outlet (i % 256) w }

/-- IN: Dd := inlet word i. -/
def execInW (n : Fin 128) (g : Gate) (d : Fin 16) (i : Fin 256) (s : State) : Host.Outcome State Fault Refusal :=
  slot (.inW n g d i) n g true 0 (toDPlain d (fun q => q.nd.inletWord i.val)) s

/-- INQ: D(4d + j) := inlet word i + j. -/
def execInq (n : Fin 128) (g : Gate) (q : Fin 4) (i : Fin 256) (s : State) : Host.Outcome State Fault Refusal :=
  slot (.inq n g q i) n g (i.val % 4 == 0) 7
    (onNeedle (fun si nd => (nd.setQuad q (fun l => si.nd.inletWord (i.val + l.val)), .none))) s

/-- OUT: outlet word i := Dn. -/
def execOutW (n : Fin 128) (g : Gate) (x : Fin 16) (i : Fin 256) (s : State) : Host.Outcome State Fault Refusal :=
  slot (.outW n g x i) n g true 0 (onNeedle (fun si nd => (nd.setOutlet i.val (si.dr x), .none))) s

/-- OUTQ: outlet word i + j := D(4n + j). -/
def execOutq (n : Fin 128) (g : Gate) (q : Fin 4) (i : Fin 256) (s : State) : Host.Outcome State Fault Refusal :=
  slot (.outq n g q i) n g (i.val % 4 == 0) 7
    (onNeedle (fun si nd =>
      ((((nd.setOutlet i.val (si.dr (quadReg q 0))).setOutlet (i.val + 1) (si.dr (quadReg q 1))).setOutlet (i.val + 2)
        (si.dr (quadReg q 2))).setOutlet (i.val + 3) (si.dr (quadReg q 3)), .none))) s

/-- SOUT: own seam-out word j := Dn (R66). -/
def execSout (n : Fin 128) (g : Gate) (x : Fin 16) (j : Fin 64) (s : State) : Host.Outcome State Fault Refusal :=
  slot (.sout n g x j) n g true 0
    (onNeedle (fun si nd => (nd.setSeam j.val (si.dr x), .none))) s

/-- The published bank is not the one of stitch k − 1, which a read in a run of stitch k expects (R66). -/
def heldRead (reader producer : Needle) : Bool :=
  match reader.run with
  | some r => producer.pubAt.map (· + 1) != some r.stitch
  | none => false

/-- SIN: word j of the bank NDL[src] has published; a bank other than that of stitch k − 1 counts (R66). A word with
bad parity is replaced from the publication before it, else by 0, counts so alone, and stays bad (R358, R363). -/
def execSin (n : Fin 128) (g : Gate) (d : Fin 16) (src : Fin 128) (j : Fin 64) (par : SeamPar) (s : State) :
    Host.Outcome State Fault Refusal :=
  slot (.sin n g d src j par) n g true 0
    (fun si nd s =>
      let pr := if src = n then nd else s.needle src.val
      let r := pr.readPub j.val par
      let s1 := if r.2.1 then s.seamReplaced n.val true
        else if heldRead si.nd pr then s.bump (ndlObj n.val 0x28) else s
      ((if src = n then r.2.2 else nd).setD d r.1, .none, s1.setNeedle src.val r.2.2)) s

/-- The word a release slot left for a run of stitch k (R67). -/
def Needle.fwdWord (nd : Needle) (k j : Nat) : Option Word :=
  (nd.fwd.find? (fun e => e.stitch == k && e.j == j)).map (·.w)

/-- The deadline of stitch k has passed (R15): a later stitch is in progress, or this one's deadline has come. -/
def State.pastDeadline (s : State) (k : Nat) : Bool :=
  decide (k < s.stitch) || (k == s.stitch && s.deadlineOf == some k)

/-- SINF: a forward read of the same stitch (R67): the word the release slot left; else a wait until it retires or the
deadline comes; after the deadline the published word, counted as held. -/
def execSinf (n : Fin 128) (g : Gate) (d : Fin 16) (src : Fin 128) (j : Fin 64) (par : SeamPar) (s : State) :
    Host.Outcome State Fault Refusal :=
  let k := ((s.needle n.val).run.map (·.stitch)).getD s.stitch
  let pr := s.needle src.val
  let legal := decide (n.val / 8 = src.val / 8) && decide (n ≠ src)
  match pr.fwdWord k j.val with
  | some w =>
    let r := pr.readRun k j.val w par
    slot (.sinf n g d src j par) n g legal 11
      (fun _ nd s => (nd.setD d r.1, .none, (s.setNeedle src.val r.2.2).seamReplaced n.val r.2.1)) s
  | none =>
    if s.pastDeadline k then
      let r := pr.readPub j.val par
      slot (.sinf n g d src j par) n g legal 11
        (fun _ nd s => (nd.setD d r.1, .none,
          (if r.2.1 then s.seamReplaced n.val true else s.bump (ndlObj n.val 0x28)).setNeedle src.val r.2.2)) s
    else if !(g.ok && legal) then .refused (.illegalEncoding (if g.ok then 11 else 4))
    else if !s.canRun n.val then .next s
    else if (s.needle n.val).wait ≠ .none || !(s.needle n.val).comesTo (.sinf n g d src j par) then .next s
    else if g.fetch ≠ .good then .next (s.modNeedle n.val (fun nd => { nd with wait := fetchWait g.fetch }))
    else if s.slotOpen n.val g then
      .next (s.modNeedle n.val (fun nd => { nd.stepPtrs g with wait := .sinf d src j par s.now }))
    else .next ((s.modNeedle n.val (fun nd => nd.stepPtrs g)).retire n.val)

/-! ## Bobbin loads and stores (R69) -/

/-- The bobbin and byte a bobbin instruction addresses: b = Db[25:19], x = (Db[18:0] + off) mod 2¹⁹. -/
def bobTarget (db : Word) (off : BitVec 12) : Nat × Nat :=
  (db.toNat / 524288 % 128, ((Int.ofNat (db.toNat % 524288) + off.toInt) % 524288).toNat)

/-- Two accesses: a 32-bit one off a word boundary, a 24-bit one with x mod 4 above 1 (R69). -/
def twoAccesses (t : Bool) (x : Nat) : Bool := if t then decide (1 < x % 4) else decide (x % 4 ≠ 0)

/-- The register a load makes of its bytes: 32 bits, or 24 bits in the upper container (R69). -/
def bobWord (t : Bool) (bytes : List Byte) : Word :=
  BitVec.ofNat 32 (if t then leNat bytes * 256 else leNat bytes)

/-- The bytes a store makes of its register (R69). -/
def bobStored (t : Bool) (w : Word) : List Byte := if t then leBytes 3 (w.toNat / 256) else leBytes 4 w.toNat

/-- The bytes a report finds with bad parity: in the first word, and in the second where there are two accesses, which may lie
at the bobbin's start (R69). -/
def bobBytesBad (rep : BobReport) (x : Nat) (two : Bool) : List Nat :=
  laneBytes x rep.bad1 ++ if two then laneBytes ((x + 4) % 524288) rep.bad2 else []

/-- The meetings of a report: one for each access at most. -/
def bobMet (rep : BobReport) (two : Bool) : List BobMeet := rep.meets.take (if two then 2 else 1)

/-- A bobbin load: refused and counted when the needle does not own the bobbin; 0 when an access meets bad parity
(R69, R154, R155, R156, R360). -/
def bobLoad (t : Bool) (n : Nat) (d : Fin 16) (b : Fin 16) (off : BitVec 12) (rep : BobReport) : SlotOp :=
  fun i nd s =>
    let at_ := bobTarget (i.dr b) off
    let two := twoAccesses t at_.2
    let len := if t then 3 else 4
    if s.bobOwner at_.1 ≠ n then (nd.setD d 0, .none, s.denied n)
    else
      let s0 := (s.markBad at_.1 (bobBytesBad rep at_.2 two)).meets n (bobMet rep two)
      let bad := s0.badReads at_.1 at_.2 len
      let s1 := s0.bobParity at_.1 bad
      let s2 := if two then s1.bump (ndlObj n 0x2A) else s1
      (nd.setD d (if bad = 0 then bobWord t (s0.bobBytes at_.1 at_.2 len) else 0), .none, s2)

/-- A bobbin store, on port 0: its own bytes alone; nothing when the needle does not own the bobbin (R69, R154, R156). -/
def bobStore (t : Bool) (n : Nat) (x : Fin 16) (b : Fin 16) (off : BitVec 12) (rep : BobReport) : SlotOp :=
  fun i nd s =>
    let at_ := bobTarget (i.dr b) off
    if s.bobOwner at_.1 ≠ n then (nd, .none, s.denied n)
    else
      let two := twoAccesses t at_.2
      let s1 := (s.markBad at_.1 (bobBytesBad rep at_.2 two)).setBobBytes at_.1 at_.2 (bobStored t (i.dr x))
      let s2 := s1.meets n (bobMet rep two)
      (nd, .none, if two then s2.bump (ndlObj n 0x2A) else s2)

/-- The slot of a bobbin instruction: one that would execute while the bobbin is handed to its needle waits for the end of the
hand-over (R152). -/
def bobSlot (i : Instr) (n : Fin 128) (g : Gate) (b : Fin 16) (off : BitVec 12) (op : SlotOp) (s : State) :
    Host.Outcome State Fault Refusal :=
  let nd := s.needle n.val
  let bob := (bobTarget (nd.d[b]) off).1
  if g.ok && s.canRun n.val && nd.wait == .none && nd.comesTo i && g.fetch == .good && s.slotOpen n.val g
      && s.bobOwner bob == n.val && s.mapBit Obj.handoverBusy bob then
    .next (s.modNeedle n.val (fun nd => { nd with wait := .bob bob }))
  else slot i n g true 0 op s

/-- BLD.W: 32-bit bobbin load. -/
def execBldW (n : Fin 128) (g : Gate) (d b : Fin 16) (off : BitVec 12) (rep : BobReport) (s : State) :
    Host.Outcome State Fault Refusal := bobSlot (.bldW n g d b off rep) n g b off (bobLoad false n.val d b off rep) s

/-- BLD.T: 24-bit bobbin load. -/
def execBldT (n : Fin 128) (g : Gate) (d b : Fin 16) (off : BitVec 12) (rep : BobReport) (s : State) :
    Host.Outcome State Fault Refusal := bobSlot (.bldT n g d b off rep) n g b off (bobLoad true n.val d b off rep) s

/-- BST.W: 32-bit bobbin store. -/
def execBstW (n : Fin 128) (g : Gate) (x b : Fin 16) (off : BitVec 12) (rep : BobReport) (s : State) :
    Host.Outcome State Fault Refusal := bobSlot (.bstW n g x b off rep) n g b off (bobStore false n.val x b off rep) s

/-- BST.T: 24-bit bobbin store. -/
def execBstT (n : Fin 128) (g : Gate) (x b : Fin 16) (off : BitVec 12) (rep : BobReport) (s : State) :
    Host.Outcome State Fault Refusal := bobSlot (.bstT n g x b off rep) n g b off (bobStore true n.val x b off rep) s

end Sys2Proof.Machine
end

