-- ==== Sys2Proof/Machine/NeedleMem.lean ====
section
/-!
DEFINITION. Needle loads and stores of X and Y memory, and the pointer and modifier instructions (R54–R58, R60).
-/

namespace Sys2Proof.Machine

/-- LDX: Dd := lane of the fetched X quad. -/
def execLdx (n : Fin 128) (g : Gate) (d : Fin 16) (lane : Fin 4) (s : State) : Host.Outcome State Fault Refusal :=
  slot (.ldx n g d lane) n g g.fetchesX 5 (toDPlain d (fun i => i.xLane lane.val)) s

/-- LDY: Dd := lane of the fetched Y quad. -/
def execLdy (n : Fin 128) (g : Gate) (d : Fin 16) (lane : Fin 4) (s : State) : Host.Outcome State Fault Refusal :=
  slot (.ldy n g d lane) n g g.fetchesY 5 (toDPlain d (fun i => i.yLane lane.val)) s

/-- LDQX: D(4d + i) := lane i of the fetched X quad. -/
def execLdqx (n : Fin 128) (g : Gate) (q : Fin 4) (s : State) : Host.Outcome State Fault Refusal :=
  slot (.ldqx n g q) n g g.fetchesX 5 (onNeedle (fun i nd => (nd.setQuad q (fun l => i.xLane l.val), .none))) s

/-- LDQY: D(4d + i) := lane i of the fetched Y quad. -/
def execLdqy (n : Fin 128) (g : Gate) (q : Fin 4) (s : State) : Host.Outcome State Fault Refusal :=
  slot (.ldqy n g q) n g g.fetchesY 5 (onNeedle (fun i nd => (nd.setQuad q (fun l => i.yLane l.val), .none))) s

/-- STX: X[e] := Dn. -/
def execStx (n : Fin 128) (g : Gate) (x : Fin 16) (s : State) : Host.Outcome State Fault Refusal :=
  slot (.stx n g x) n g g.fetchesX 5 (onNeedle (fun i nd => (nd.setX i.xe (i.dr x), .none))) s

/-- STY: Y[e] := Dn. -/
def execSty (n : Fin 128) (g : Gate) (x : Fin 16) (s : State) : Host.Outcome State Fault Refusal :=
  slot (.sty n g x) n g g.fetchesY 5 (onNeedle (fun i nd => (nd.setY i.ye (i.dr x), .none))) s

/-- An operation that writes pointer PTR. -/
def toPtr (p : Fin 8) (f : SlotIn → Ptr → Ptr) : SlotOp :=
  onNeedle (fun i nd => (nd.setPtr p (f i (i.nd.ptr p)), .none))

/-- The encoding rule of the unpredicated pointer instructions (R57), and the pointer rule of R56. -/
def ptrLegal (g : Gate) (p : Fin 8) : Bool := g.always && !g.updatesPtr p

/-- SETA: a := imm (R57). -/
def execSeta (n : Fin 128) (g : Gate) (p : Fin 8) (imm : BitVec 14) (s : State) :
    Host.Outcome State Fault Refusal :=
  slot (.seta n g p imm) n g (ptrLegal g p) (if g.always then 6 else 4) (toPtr p (fun _ q => { q with a := imm })) s

/-- SETA.D: a := B + (Dn[13:0] mod L) (R57). -/
def execSetaD (n : Fin 128) (g : Gate) (p : Fin 8) (x : Fin 16) (s : State) : Host.Outcome State Fault Refusal :=
  slot (.setaD n g p x) n g (!g.updatesPtr p) 6
    (toPtr p (fun i q => { q with a := q.b + BitVec.ofNat 14 ((i.dr x).toNat % 16384 % q.len) })) s

/-- SETB: B := imm; a and L are unchanged (R57). -/
def execSetb (n : Fin 128) (g : Gate) (p : Fin 8) (imm : BitVec 14) (s : State) :
    Host.Outcome State Fault Refusal :=
  slot (.setb n g p imm) n g (ptrLegal g p) (if g.always then 6 else 4) (toPtr p (fun _ q => { q with b := imm })) s

/-- The page of a parameter block that the run in progress reads: the select bit in force, or the one before a flip that
came at a later stitch than the run's own (R58, R106). -/
def ParamBlock.activeBase (b : ParamBlock) (stitch : Nat) : Nat :=
  if (if b.flip ≤ stitch then b.sel else !b.sel) then b.baseB else b.baseA

/-- The base SETB.P gives: the active page of block blk; 0 for a block the table does not hold (R58). -/
def Needle.pageBase (nd : Needle) (blk : Nat) : Nat :=
  match nd.blocks.find? (fun b => b.blk == blk) with
  | some b => b.activeBase nd.stc.toNat
  | none => 0

/-- SETB.P: B := base of the active page of block blk; a := B (R57, R58). -/
def execSetbP (n : Fin 128) (g : Gate) (p : Fin 8) (blk : Fin 256) (s : State) :
    Host.Outcome State Fault Refusal :=
  slot (.setbP n g p blk) n g (ptrLegal g p) (if g.always then 6 else 4)
    (toPtr p (fun i q =>
      let base := BitVec.ofNat 14 (i.nd.pageBase blk.val)
      { q with b := base, a := base })) s

/-- SETL: L := imm, 1–16 384 (R57). -/
def execSetl (n : Fin 128) (g : Gate) (p : Fin 8) (imm : BitVec 15) (s : State) :
    Host.Outcome State Fault Refusal :=
  slot (.setl n g p imm) n g (ptrLegal g p && setlOk imm) (if !g.always then 4 else if g.updatesPtr p then 6 else 7)
    (toPtr p (fun _ q => { q with l := imm })) s

/-- SETM: Mk := imm (R57). -/
def execSetm (n : Fin 128) (g : Gate) (m : Fin 8) (imm : BitVec 16) (s : State) :
    Host.Outcome State Fault Refusal :=
  slot (.setm n g m imm) n g g.always 4 (onNeedle (fun _ nd => (nd.setM m imm, .none))) s

/-- SETM.D: Mk := Dn[15:0] (R57). -/
def execSetmD (n : Fin 128) (g : Gate) (m : Fin 8) (x : Fin 16) (s : State) : Host.Outcome State Fault Refusal :=
  slot (.setmD n g m x) n g true 0 (onNeedle (fun i nd => (nd.setM m ((i.dr x).extractLsb' 0 16), .none))) s

/-- RDP: Dd := (a − B) mod 16 384, zero-extended (R57). -/
def execRdp (n : Fin 128) (g : Gate) (d : Fin 16) (p : Fin 8) (s : State) : Host.Outcome State Fault Refusal :=
  slot (.rdp n g d p) n g true 0 (toDPlain d (fun i => ((i.nd.ptr p).a - (i.nd.ptr p).b).setWidth 32)) s

end Sys2Proof.Machine
end

