-- ==== Sys2Proof/Machine/NeedleSpecial.lean ====
section
/-!
DEFINITION. Needle special functions (R44, R46–R51).
-/

namespace Sys2Proof.Machine

/-- LOG2 (R44). -/
def execLog2 (n : Fin 128) (g : Gate) (d a : Fin 16) (s : State) : Host.Outcome State Fault Refusal :=
  slot (.log2 n g d a) n g true 0 (toD d (fun i => log2Fn (i.dr a))) s

/-- EXP2 (R46). -/
def execExp2 (n : Fin 128) (g : Gate) (d a : Fin 16) (s : State) : Host.Outcome State Fault Refusal :=
  slot (.exp2 n g d a) n g true 0 (toD d (fun i => exp2Fn (i.dr a))) s

/-- RSQE (R47). -/
def execRsqe (n : Fin 128) (g : Gate) (d a : Fin 16) (s : State) : Host.Outcome State Fault Refusal :=
  slot (.rsqe n g d a) n g true 0 (toD d (fun i => rsqeFn (i.dr a))) s

/-- DIVS: one step of restoring division (R48). -/
def execDivs (n : Fin 128) (g : Gate) (q : Fin 16) (r : Fin 4) (d : Fin 16) (s : State) :
    Host.Outcome State Fault Refusal :=
  slot (.divs n g q r d) n g true 0
    (onNeedle (fun i nd =>
      let o := divStep (i.dr q) (i.ar r) (i.dr d)
      ((nd.setD q o.1).setA r o.2.1, o.2.2))) s

/-- TLU: interpolation of a table in [B, B + L) of YPn; the pointer's current address is neither used nor changed
(R49). -/
def execTlu (n : Fin 128) (g : Gate) (d p : Fin 16) (yp : Fin 4) (s : State) : Host.Outcome State Fault Refusal :=
  slot (.tlu n g d p yp) n g (!g.fetchesY) 5
    (toDPlain d (fun i =>
      let pt := i.nd.yp[yp]
      let pos := (i.dr p).toNat
      let t0 := i.nd.yw (pt.b.toNat + pos / 65536 % pt.len)
      let t1 := i.nd.yw (pt.b.toNat + (pos / 65536 + 1) % pt.len)
      interpolate t0 t1 (pos % 65536))) s

/-- GLIDE: one move of Dv toward Dt by Ds, and Pk := arrived (R50). -/
def execGlide (n : Fin 128) (g : Gate) (v t st : Fin 16) (pk : Fin 8) (s : State) :
    Host.Outcome State Fault Refusal :=
  slot (.glide n g v t st pk) n g true 0
    (onNeedle (fun i nd =>
      let w := glideTo (i.dr v) (i.dr t) (i.dr st)
      ((nd.setD v w).setPred pk (w == i.dr t), .none))) s

/-- MPEAK: Dm := max(Dm, |Dx|) (R51). -/
def execMpeak (n : Fin 128) (g : Gate) (m x : Fin 16) (s : State) : Host.Outcome State Fault Refusal :=
  slot (.mpeak n g m x) n g true 0 (toDPlain m (fun i => BitVec.ofInt 32 (max (i.dr m).toInt (peakAbs (i.dr x))))) s

end Sys2Proof.Machine
end

