-- ==== Sys2Proof/Machine/Osc.lean ====
section
/-!
DEFINITION. OSC (R293–R295): datagrams from the peers, their expiry, and the mapping entries that send.
-/

namespace Sys2Proof.Machine

/-! ## Peers and conversions (R293) -/

/-- The peer a datagram comes from: the first element of OSC_PEERS with its address, whose port is 0 or the datagram's. -/
def State.oscPeer? (s : State) (ip udp : Nat) : Option Nat :=
  (List.range 8).find? (fun p =>
    let v := s.nat Obj.oscPeers p
    bits v 47 16 != 0 && bits v 47 16 == ip && (bits v 15 0 == 0 || bits v 15 0 == udp))

/-- The mapping entry an address names: no pattern characters, DIR IN or BOTH, and the same bytes. -/
def State.oscEntry? (s : State) (addr : List Byte) : Option (List Byte) :=
  if addr.any (fun b => [0x2A, 0x3F, 0x5B, 0x7B].contains b.toNat) then none
  else (s.ven.map.find? (fun e => oscDir e.2 % 2 == 1 && oscAddr e.2 == addr)).map (·.2)

/-- A finite binary32 pattern times 2^k, rounded to the nearest integer, ties away from 0; none where it is no number. -/
def f32Round (w k : Nat) : Option Int :=
  let e := bits w 30 23
  if e = 255 then none
  else
    let m := if e = 0 then bits w 22 0 else 2 ^ 23 + bits w 22 0
    let x := max e 1 + k
    let r := if 150 ≤ x then m * 2 ^ (x - 150) else (m * 2 + 2 ^ (150 - x)) / 2 ^ (151 - x)
    some (if w.testBit 31 then -(Int.ofNat r) else Int.ofNat r)

/-- The binary32 pattern of v·2^−k, k ≤ 32, for |v| < 2^32: a magnitude that needs more than 24 bits takes the pattern
below it or the one above, which `up` chooses. -/
def f32Of (v : Int) (k : Nat) (up : Bool) : Nat :=
  let n := v.natAbs
  if n = 0 then 0
  else
    let b := Nat.log2 n
    let sh := b - 23
    let low := n / 2 ^ sh * 2 ^ (23 - b)
    (if v < 0 then 2 ^ 31 else 0) + (126 + b - k) * 2 ^ 23 + low + (if n % 2 ^ sh ≠ 0 && up then 1 else 0)

/-- The value an argument stands for in an object's type; none where it is ignored or is no number (R293). -/
def oscNum (t : Ty) (a : OscArg) (up : Bool) : Option Int :=
  let b (on : Bool) : Int := if on then 1 else 0
  match t, a with
  | .bool, .int v => some (b (v != 0))
  | .bool, .float v => some (b (bits v.toNat 30 0 != 0))
  | .gain, .int v => some v.toInt
  | .gain, .float v => f32Round v.toNat 8
  | .gain, _ => none
  | .f32, .int v => some (Int.ofNat (f32Of v.toInt 0 up))
  | .f32, .float v => some (Int.ofNat v.toNat)
  | .f32, .yes => some 0x3F800000
  | .f32, .no => some 0
  | .q31, .float v => f32Round v.toNat 31
  | .str, _ | .blob, _ | .time, _ | .u64, _ | .i64, _ => none
  | _, .int v => some v.toInt
  | _, .float v => f32Round v.toNat 0
  | _, .yes => some 1
  | _, .no => some 0
  | _, _ => none

/-- The bytes of the converted argument, where the type can hold it. -/
def oscBytes (t : Ty) (a : OscArg) (up : Bool) : Option (List Byte) :=
  match t, a with
  | .str, .str l => some l
  | .str, _ => none
  | _, _ =>
    match oscNum t a up with
    | some v => if decide (t.signed && (v < t.lo || t.hi < v)) || decide (v < 0 && !t.signed) || decide (2 ^ (8 * t.size) ≤ v) then none
        else some (t.encode v)
    | none => none

/-! ## Reception (R293) -/

/-- One message of an accepted datagram. -/
def State.oscMessage (s : State) (peer : Nat) (m : OscMsg) : State :=
  match s.oscEntry? m.addr with
  | none => s.bump Obj.oscUnmatchedHem
  | some e =>
    let num := leNat (e.take 4)
    let (v, s1) := s.fresh
    match (s1.desc? num).bind (fun d => if d.arr then none else m.arg.bind (fun a =>
        (oscBytes d.ty a (v.testBit 0)).map (fun l => (⟨num, 0, 1, d.code, l⟩ : WReq)))) with
    | none => s1.bump Obj.oscRefusedHem
    | some q =>
      let r := s1.write1 ⟨.osc peer, some (s.nat Obj.oscRole), s.nat Obj.oscPrio⟩ q
      if r.1 = St.ok then r.2.modVen (fun v => { v with oscAt := setAt v.oscAt peer (some s.now) })
      else r.2.bump Obj.oscRefusedHem

/-- OSC_PACKET (R293, R295): the messages of a datagram, with its bundles flattened, are one step. -/
def execOscPacket (dt : Nat) (port : Fin 4) (ip : BitVec 32) (udp : BitVec 16) (l : List OscMsg) (s : State) :
    Host.Outcome State Fault Refusal :=
  whenRunning dt s (fun s =>
    if !s.boot.admitted then s
    else
      s.arrives port.val .osc (fun s =>
        match s.oscPeer? ip.toNat udp.toNat with
        | none => s.bump Obj.oscStrangerHem
        | some p => l.foldl (fun s m => if s.phase = .running then s.oscMessage p m else s) (s.bump Obj.oscRxHem)))

/-- OSC_PEER_EXPIRE (R293): 10 s with no accepted message. -/
def execOscPeerExpire (dt : Nat) (peer : Fin 8) (s : State) : Host.Outcome State Fault Refusal :=
  whenRunning dt s (fun s =>
    if ((s.ven.oscAt.getD peer.val none).any (fun t => decide (t + 10000 * msPs ≤ s.now))) then
      (s.endSource (.osc peer.val)).modVen (fun v => { v with oscAt := setAt v.oscAt peer.val none })
    else s)

/-! ## Sending (R294, R295) -/

/-- The argument of a value under a tag, OSC's own encoding: R293's table read the other way, and free bytes where that
table names no such argument. A tag 'T'/'F' carries no bytes: 1 stands for 'T' and 0 for 'F'. -/
def State.oscArg (s : State) (t : Ty) (tag : Nat) (l : List Byte) : List Byte × State :=
  let (f, s1) := s.fresh
  let v := t.decode l
  let pattern := leNat l
  match t, tag with
  | .str, 3 => (l, s)
  | .str, _ => (beBytes 4 f, s1)
  | .bool, 2 => (leBytes 1 pattern, s)
  | .f32, 1 => (beBytes 4 pattern, s)
  | .f32, _ => (if tag = 2 then leBytes 1 (f % 2) else beBytes 4 f, s1)
  | .q31, 1 => (beBytes 4 (f32Of v 31 (f.testBit 0)), s1)
  | .gain, 1 => (beBytes 4 (f32Of v 8 (f.testBit 0)), s1)
  | _, 0 => (beBytes 4 (v % 2 ^ 32).toNat, s)
  | _, 1 => (beBytes 4 (f32Of v 0 (f.testBit 0)), s1)
  | _, 2 => (leBytes 1 (f % 2), s1)
  | _, _ => (beBytes 4 f, s1)

/-- The port that reaches a peer: the first in use whose network holds its address, and else a Shuttle with a gateway; a
segment has none (R291). -/
def State.oscPort? (s : State) (ip : Nat) : Option Nat :=
  let net (p : Nat) : Bool :=
    let own := if p < 2 then s.shIp p else s.nat Obj.t1sIp (p - 2)
    let mask := if p = 0 && s.tableAddress then s.safeLe 0x10 4
      else if p < 2 then s.nat (shObj p Obj.shMask) else s.nat Obj.t1sMask (p - 2)
    (own &&& mask) == (ip &&& mask)
  ((List.range 4).find? (fun p => s.portUp p && net p)).orElse
    (fun _ => (List.range 2).find? (fun p => s.portUp p && s.gatewayOf p != 0))

/-- One message to each peer with a port; a full segment queue drops it (R292). -/
def State.oscSendAll (s : State) (full : Nat) (addr : List Byte) (tag : Nat) (arg : List Byte) : State :=
  (List.range 8).foldl (fun s p =>
    let v := s.nat Obj.oscPeers p
    if bits v 15 0 = 0 then s
    else
      match s.oscPort? (bits v 47 16) with
      | none => s
      | some port =>
        if 2 ≤ port && full.testBit (port - 2) then s.bump Obj.t1sTxDropHem (port - 2)
        else (s.emitNet port (some 2) (.osc (bits v 47 16) (bits v 15 0) addr tag arg)).bump Obj.oscTxHem) s

/-- A boundary of OSC_INTERVAL has come for a mapping entry, as for a subscription accepted when it was written (R254, R294). -/
def State.oscDue (s : State) (i : Nat) : Bool :=
  boundaryPassed (look (fun _ => 0) s.ven.mapAt i) (look (fun _ => 0) s.ven.mapTold i) (s.nat Obj.oscInterval) s.now

/-- One mapping entry at a boundary: a change of its object since the last is sent, where OSC_ROLE may subscribe. -/
def State.oscEntrySend (s : State) (full : Nat) (i : Nat) (e : List Byte) : State :=
  let num := leNat (e.take 4)
  match s.desc? num with
  | none => s
  | some d =>
    if d.arr || !d.may 2 (some (s.nat Obj.oscRole)) then s
    else
      let (l, s1) := s.oscValue e
      let changed := decide (look (fun _ => 0) s.ven.mapLast i < look (fun _ => 0) s.chg num)
        || (sampled num d && look (fun _ => []) s.ven.mapSeen i != l)
      if !changed then s1
      else
        let (arg, s2) := s1.oscArg d.ty (e.getD 5 0).toNat l
        (s2.oscSendAll full (oscAddr e) (e.getD 5 0).toNat arg).modVen (fun v => { v with
          mapLast := put (fun _ => 0) v.mapLast i s.chgSeq
          mapSeen := put (fun _ => []) v.mapSeen i l })

/-- OSC_SEND (R294, R295): a boundary of OSC_INTERVAL, for the entries it has come for. -/
def execOscSend (dt : Nat) (full : BitVec 2) (s : State) : Host.Outcome State Fault Refusal :=
  whenRunning dt s (fun s =>
    if s.venueGated then s
    else
      (s.ven.map.filter (fun e => decide (2 ≤ oscDir e.2) && s.oscDue e.1)).foldl (fun s e =>
        (s.oscEntrySend full.toNat e.1 e.2).modVen (fun v => { v with mapTold := put (fun _ => 0) v.mapTold e.1 s.now })) s)

end Sys2Proof.Machine
end

