-- ==== Sys2Proof/Machine/Strobe.lean ====
section
/-!
DEFINITION. The stitch strobe (R16, R72, R73): what was due takes effect, migrations switch, pages flip, and every placed
needle starts; and the regulator's answers to AVSBus writes (R89).
-/

namespace Sys2Proof.Machine

/-! ## The regulator (R87, R89) -/

/-- An acknowledged voltage of 780 mV or more ends the wait of a placement or a test at 384 kHz (R87, R354). -/
def State.raiseDone (s : State) : State :=
  if s.nat Obj.vcoreNow < 780 then s
  else
    let s1 : State := { s with last := { s.last with waitRaise := false } }
    if s1.pw.testWait then (s1.modPw (fun p => { p with testWait := false })).addDue .testEntry else s1

/-- AVS_ACK (R89). -/
def execAvsAck (dt : Nat) (s : State) : Host.Outcome State Fault Refusal :=
  whenRunning dt s (fun s => if s.fab.avs.isEmpty then s else s.avsAck.raiseDone)

/-- A write of a target failed twice: FAULT is set, and what waited for it ends (R87, R89, R354). -/
def State.avsFails (s : State) (a : AvsWrite) : State :=
  let s1 := s.setBit Obj.avsStatus 0 2 true
  let s2 := if decide (780 ≤ a.mv) then s1.raiseFailed else s1
  if s2.pw.testWait && decide (780 ≤ a.mv) then s2.testLapse else s2

/-- AVS_ACK_TIMEOUT (R89): the oldest write is retried once, and then fails. -/
def execAvsAckTimeout (dt : Nat) (s : State) : Host.Outcome State Fault Refusal :=
  whenRunning dt s (fun s =>
    match s.fab.avs with
    | [] => s
    | a :: t =>
      if a.retry then State.avsFails { s with fab := { s.fab with avs := t } } a
      else State.emit { s with fab := { s.fab with avs := { a with retry := true } :: t } } (.avsWrite s.avsRail a.mv))

/-! ## What was due (R4, R16) -/

/-- An accepted write to an unbasted parameter reaches both pages of its block, and is the committed value (R95, R123). -/
def State.writePagesOf (s : State) (key : Nat) (v : Int) : State :=
  match s.param? (key / 2048) with
  | none => s
  | some p =>
    ((s.paramPlaces p).foldl (fun s q => s.modNeedle q.1 (fun nd =>
      (nd.setPage q.2.1.y (q.2.1.baseA + q.2.2 + key % 2048) (paramWord v)).setPage q.2.1.y (q.2.1.baseB + q.2.2 + key % 2048)
        (paramWord v))) s).setCommitted key v

/-- Pieces shed together at the strobe of stitch k (R90). -/
def State.shedAll (s : State) (k : Nat) (l : List Nat) : State :=
  let s1 := (l.filter s.pieceLive).foldl (fun s i => s.shedPiece k i) s
  State.showPlacement { s1 with fab := { s1.fab with shedPending := false, shedAt := k, sinceShed := true, fitSinceShed := false } }

/-- The voltage acknowledged last is too low for a rate: no 384 kHz stitch runs below 780 mV (R87). -/
def State.lowFor (s : State) (rate : Nat) : Bool := rate == 6 && decide (s.nat Obj.vcoreNow < 780)

/-- One change due at the strobe of stitch k; `trim` and `hush` say that TRIM and that HUSH is entered at it. A placement's
strobes wait for the end of HUSH and of TEST (R349, R354), and T1 does not come at a strobe that enters TRIM (R4). A request
for TEST lapses at a strobe that enters HUSH, which is never entered from TEST (R347; DESIGN CHOICE, assumption 182). -/
def State.dueAt (s : State) (k : Nat) (trim hush : Bool) (d : Due) : State :=
  match d with
  | .trim => s
  | .testEntry =>
    if s.lowFor ((s.pw.testReq.map (·.2.2)).getD 1) && !trim && !hush && !s.pw.hush then
      (if s.avsFault then s.testLapse else (s.modPw (fun p => { p with testWait := true })).setVcore 780)
    else s.testEntryAt (trim || hush)
  | .testReturn => s.testReturnAt
  | .t0 =>
    if hush || s.pw.hush || s.level = 2 then s.addDue .t0
    else
      let s1 := (s.modPw (fun p => { p with reload := false })).strobeT0
      if s1.avsFault then s1.raiseFailed else s1
  | .t1 =>
    if hush || s.pw.hush || s.level = 2 || trim then s.addDue .t1
    else if s.lowFor ((s.last.next.map (·.rate)).getD 1) then
      let s1 := (State.setVcore { s with last := { s.last with waitRaise := true } } 780).addDue .t1
      if s1.avsFault then s1.raiseFailed else s1
    else s.strobeT1 k
  | .shed l => s.shedAll k l
  | .remove i => if (s.pieceSt i).state = 0 then s.placeEnd ⟨14, 0, i, 0⟩ else (s.removePiece i Rsn.edit).placeEnd ⟨0, 0, i, 0⟩
  | .dropLost i => if s.pieceLive i then s.removePiece i 0 else s
  | .restore i => s.restoreAt k i
  | .tap i d => s.tapAt k i d
  | .pages key v => s.writePagesOf key v
  | .unbaste num i => s.unbaste num i
  | .hush => s.hushAt

/-- Everything that was due: TRIM entry first, and the rest in the order asked. -/
def State.takeDues (s : State) (k : Nat) : State :=
  let l := s.fab.due
  let trim := l.contains .trim
  let s1 : State := { s with fab := { s.fab with due := [] } }
  l.foldl (fun s d => s.dueAt k trim (l.contains .hush) d) (if trim then s1.trimAt else s1)

/-! ## The happenings of the strobe -/

/-- The safety matrix starts at the first strobe in TRIM with its program loaded, with PLEAT[0] ready and not needed by a
placement in progress (R129, R313, R315, R349). The ROM's program runs 1 024 slots; its budget lies within R398's bound
and is free. -/
def State.startMatrix (s : State) : State :=
  let taken := decide (3 ≤ s.last.stage) && s.last.nextCopies.any (fun c => c.needle / 8 == 0)
  if s.level ≠ 1 || s.last.safety || !s.safe.loaded || s.pw.hush || !s.pleatOn 0 || taken then s
  else
    let s1 := (List.range 8).foldl (fun s n =>
      let (v, t) := s.fresh
      ((t.modNeedle n (fun nd => { nd.anew with placed := true })).setNat (ndlObj n 0xA) 0 1024).setNat (ndlObj n 9) 0
        (budgetTape 1 (1024 + v % 257))) s
    let s2 : State := { s1 with last := { s1.last with safety := true }, safe := { s1.safe with since := some s1.stitch } }
    (((s2.setNat Obj.safeState 0 (if s1.safe.valid then 1 else 2)).showAll).adjustPower).startPorts

/-- HISTORY_VALID rises at the strobe after the H-th completed run (R93). -/
def State.raiseHistory (s : State) : State :=
  let rise := s.last.pieces.filter (fun e => (e.2.state == 1 || e.2.state == 2) && !e.2.valid &&
    (s.pieceDesc e.1).any (fun d => decide (d.history ≤ e.2.runs)))
  if rise.isEmpty then s
  else (rise.foldl (fun s e => s.setPieceSt e.1 { e.2 with valid := true }) s).showHistory.showTable

/-- Step 3 of R16, with the journal's part in it: applied values of PERSIST members are journalled (R96, R252). -/
def State.flipAndMark (s : State) (k : Nat) : State :=
  let nums := distinct ((s.baste.commits.filter (fun c => decide (c.stitch ≤ k) && c.copied)).flatMap
    (fun c => c.frozen.map (fun e => e.1 / 2048)))
  (nums.filter (fun n => (s.desc? n).any (fun d => d.flags.testBit 1))).foldl State.markDirty (s.flipPages k)

/-- What a change of rate or of service level brings to the ports (R72, R174, R202, R205, R295). -/
def State.portsFollow (s : State) (level rate : Nat) : State :=
  let s1 := if s.nat Obj.stitchRate ≠ rate then s.recheckStreams.recheckPorts else s
  if s1.level = level then s1
  else
    let s2 := (s1.startPorts.venueLevel level).showStreams
    let s3 := if s2.level = 0 then (List.range 16).foldl State.applyTables s2 else s2
    if s3.level = 1 then s3 else s3.setNat Obj.safeState 0 3

/-- The clock's marks at the strobe of stitch k: its number and times, and a fitting's first strobe (R73, R82). -/
def State.markStrobe (s : State) (k : Nat) : State :=
  let s1 := s.setNat Obj.stitchNow 0 k
  { s1 with
    deadlineOf := none
    clk := { s1.clk with strobeUp := s1.clk.up, strobeTb := crossingTime s.nextStrobe s.nextRate }
    fab :=
      let f := { s1.fab with windows := (s.stitch, s.windowOf s.stitch) :: s1.fab.windows.filter (fun e =>
        s.ndl.any (fun n => n.2.run.any (fun r => decide (r.stitch ≤ e.1)))) }
      if k % 256 = 0 then { f with lastFitTb := f.fitTb, fitTb := s1.clk.tb } else f }

/-- The strobe that starts stitch k = STITCH_NOW + 1 (R16, R73), with the happenings of R16 in their order. A hem boundary
that has been reached is taken before anything at the strobe counts (R368). -/
def State.strobe (s0 : State) : State :=
  let s := s0.takeHem
  let k := s.stitch + 1
  let level := s.level
  let rate := s.nat Obj.stitchRate
  let s1 := (s.realignPorts.markStrobe k).takeDues k
  let s2 := if s1.mayUnhush then s1.unhushAt k else s1
  let s3 := if s2.mayReload then s2.reloadAt k else s2
  let s4 := ((s3.beginTest k).startMatrix.portsFollow level rate).raiseHistory
  let inside := (s4.level != level || s4.nat Obj.stitchRate != rate) && k % 256 != 0
  let s5 : State := { s4 with fab := { s4.fab with changedInFit := s.fab.changedInFit || inside } }
  ((((s5.switchMigs k).flipAndMark k).startRuns k).spoolsReach k).strobeTb.reachHem

/-- STITCH_STROBE (R16, R210): the strobe comes once the timebase has reached its grid crossing. -/
def execStitchStrobe (dt : Nat) (s : State) : Host.Outcome State Fault Refusal :=
  whenRunning dt s (fun s => if s.strobeDue then s.strobe else s)

end Sys2Proof.Machine
end

