-- ==== Sys2Proof/Machine/Dispatch.lean ====
section
/-!
DEFINITION. Which meaning each command has: one arm a constructor, one direct call an arm.
-/

namespace Sys2Proof.Machine

/-- The effect of a command on everything but the queue. -/
def exec (i : Instr) (s : State) : Host.Outcome State Fault Refusal :=
  match i with
  | .stitchStrobe dt => Sys2Proof.Machine.execStitchStrobe dt s
  | .inletCutoff dt late => Sys2Proof.Machine.execInletCutoff dt late s
  | .inletDistribution dt => Sys2Proof.Machine.execInletDistribution dt s
  | .windowFillDone dt n => Sys2Proof.Machine.execWindowFillDone dt n s
  | .deadline dt => Sys2Proof.Machine.execDeadline dt s
  | .runComplete dt n t => Sys2Proof.Machine.execRunComplete dt n t s
  | .fittingEnd dt => Sys2Proof.Machine.execFittingEnd dt s
  | .avsAck dt => Sys2Proof.Machine.execAvsAck dt s
  | .avsAckTimeout dt => Sys2Proof.Machine.execAvsAckTimeout dt s
  | .shed dt => Sys2Proof.Machine.execShed dt s
  | .hemBoundary dt => Sys2Proof.Machine.execHemBoundary dt s
  | .nop n g => Sys2Proof.Machine.execNop n g s
  | .progRefetchDone dt n imageOk patternOk => Sys2Proof.Machine.execProgRefetchDone dt n imageOk patternOk s
  | .stcl n g d => Sys2Proof.Machine.execStcl n g d s
  | .stch n g d => Sys2Proof.Machine.execStch n g d s
  | .gsl n g d period => Sys2Proof.Machine.execGsl n g d period s
  | .ldih n g d imm => Sys2Proof.Machine.execLdih n g d imm s
  | .ldil n g d imm => Sys2Proof.Machine.execLdil n g d imm s
  | .mov n g d a => Sys2Proof.Machine.execMov n g d a s
  | .add n g d a b => Sys2Proof.Machine.execAdd n g d a b s
  | .sub n g d a b => Sys2Proof.Machine.execSub n g d a b s
  | .addi n g d a imm => Sys2Proof.Machine.execAddi n g d a imm s
  | .neg n g d a => Sys2Proof.Machine.execNeg n g d a s
  | .abs n g d a => Sys2Proof.Machine.execAbs n g d a s
  | .min n g d a b => Sys2Proof.Machine.execMin n g d a b s
  | .max n g d a b => Sys2Proof.Machine.execMax n g d a b s
  | .and n g d a b => Sys2Proof.Machine.execAnd n g d a b s
  | .or n g d a b => Sys2Proof.Machine.execOr n g d a b s
  | .xor n g d a b => Sys2Proof.Machine.execXor n g d a b s
  | .not n g d a => Sys2Proof.Machine.execNot n g d a s
  | .select n g d a b pc => Sys2Proof.Machine.execSelect n g d a b pc s
  | .asl n g d a b rs k => Sys2Proof.Machine.execAsl n g d a b rs k s
  | .asr n g d a b rs k => Sys2Proof.Machine.execAsr n g d a b rs k s
  | .lsl n g d a b rs k => Sys2Proof.Machine.execLsl n g d a b rs k s
  | .lsr n g d a b rs k => Sys2Proof.Machine.execLsr n g d a b rs k s
  | .cmp n g pd a b cc => Sys2Proof.Machine.execCmp n g pd a b cc s
  | .cmpi n g pd a cc imm => Sys2Proof.Machine.execCmpi n g pd a cc imm s
  | .acmp n g pd a b cc => Sys2Proof.Machine.execAcmp n g pd a b cc s
  | .plog n g pd pa pb op => Sys2Proof.Machine.execPlog n g pd pa pb op s
  | .mac4Dot n g ad md xq yq => Sys2Proof.Machine.execMac4Dot n g ad md xq yq s
  | .mac4Fan n g md sc yq => Sys2Proof.Machine.execMac4Fan n g md sc yq s
  | .mac4Lane n g md xq yq => Sys2Proof.Machine.execMac4Lane n g md xq yq s
  | .cmac n g md xp yp => Sys2Proof.Machine.execCmac n g md xp yp s
  | .cmacCj n g md xp yp => Sys2Proof.Machine.execCmacCj n g md xp yp s
  | .msq n g ad x => Sys2Proof.Machine.execMsq n g ad x s
  | .bfly n g dm dk a b w => Sys2Proof.Machine.execBfly n g dm dk a b w s
  | .bflyH n g dm dk a b w => Sys2Proof.Machine.execBflyH n g dm dk a b w s
  | .lda n g ad x => Sys2Proof.Machine.execLda n g ad x s
  | .aclr n g ad => Sys2Proof.Machine.execAclr n g ad s
  | .aadd n g ad a b => Sys2Proof.Machine.execAadd n g ad a b s
  | .asub n g ad a b => Sys2Proof.Machine.execAsub n g ad a b s
  | .aasl n g ad a k => Sys2Proof.Machine.execAasl n g ad a k s
  | .aasr n g ad a k => Sys2Proof.Machine.execAasr n g ad a k s
  | .asel n g ad a b pc => Sys2Proof.Machine.execAsel n g ad a b pc s
  | .wb n g d a => Sys2Proof.Machine.execWb n g d a s
  | .wb4 n g q => Sys2Proof.Machine.execWb4 n g q s
  | .staX n g a => Sys2Proof.Machine.execStaX n g a s
  | .staY n g a => Sys2Proof.Machine.execStaY n g a s
  | .rdag n g d a => Sys2Proof.Machine.execRdag n g d a s
  | .rdah n g d a => Sys2Proof.Machine.execRdah n g d a s
  | .rdal n g d a => Sys2Proof.Machine.execRdal n g d a s
  | .wrag n g a x => Sys2Proof.Machine.execWrag n g a x s
  | .wrah n g a x => Sys2Proof.Machine.execWrah n g a x s
  | .wral n g a x => Sys2Proof.Machine.execWral n g a x s
  | .log2 n g d a => Sys2Proof.Machine.execLog2 n g d a s
  | .exp2 n g d a => Sys2Proof.Machine.execExp2 n g d a s
  | .rsqe n g d a => Sys2Proof.Machine.execRsqe n g d a s
  | .divs n g q r d => Sys2Proof.Machine.execDivs n g q r d s
  | .tlu n g d p yp => Sys2Proof.Machine.execTlu n g d p yp s
  | .glide n g v t st pk => Sys2Proof.Machine.execGlide n g v t st pk s
  | .mpeak n g m x => Sys2Proof.Machine.execMpeak n g m x s
  | .ldx n g d lane => Sys2Proof.Machine.execLdx n g d lane s
  | .xyRefetchDone dt n y e twinOk recordOk imageOk => Sys2Proof.Machine.execXyRefetchDone dt n y e twinOk recordOk imageOk s
  | .ldy n g d lane => Sys2Proof.Machine.execLdy n g d lane s
  | .ldqx n g q => Sys2Proof.Machine.execLdqx n g q s
  | .ldqy n g q => Sys2Proof.Machine.execLdqy n g q s
  | .stx n g x => Sys2Proof.Machine.execStx n g x s
  | .sty n g x => Sys2Proof.Machine.execSty n g x s
  | .seta n g p imm => Sys2Proof.Machine.execSeta n g p imm s
  | .setaD n g p x => Sys2Proof.Machine.execSetaD n g p x s
  | .setb n g p imm => Sys2Proof.Machine.execSetb n g p imm s
  | .setbP n g p blk => Sys2Proof.Machine.execSetbP n g p blk s
  | .setl n g p imm => Sys2Proof.Machine.execSetl n g p imm s
  | .setm n g m imm => Sys2Proof.Machine.execSetm n g m imm s
  | .setmD n g m x => Sys2Proof.Machine.execSetmD n g m x s
  | .rdp n g d p => Sys2Proof.Machine.execRdp n g d p s
  | .inW n g d ix => Sys2Proof.Machine.execInW n g d ix s
  | .inq n g q ix => Sys2Proof.Machine.execInq n g q ix s
  | .outW n g x ix => Sys2Proof.Machine.execOutW n g x ix s
  | .outq n g q ix => Sys2Proof.Machine.execOutq n g q ix s
  | .sout n g x j => Sys2Proof.Machine.execSout n g x j s
  | .sin n g d src j par => Sys2Proof.Machine.execSin n g d src j par s
  | .sinf n g d src j par => Sys2Proof.Machine.execSinf n g d src j par s
  | .bldW n g d b off rep => Sys2Proof.Machine.execBldW n g d b off rep s
  | .bldT n g d b off rep => Sys2Proof.Machine.execBldT n g d b off rep s
  | .bstW n g x b off rep => Sys2Proof.Machine.execBstW n g x b off rep s
  | .bstT n g x b off rep => Sys2Proof.Machine.execBstT n g x b off rep s
  | .commit dt m => Sys2Proof.Machine.execCommit dt m s
  | .ccCommitGo dt core n v => Sys2Proof.Machine.execCcCommitGo dt core n v s
  | .group0Commit dt => Sys2Proof.Machine.execGroup0Commit dt s
  | .pageCopyDone dt g => Sys2Proof.Machine.execPageCopyDone dt g s
  | .commitCancel dt w g => Sys2Proof.Machine.execCommitCancel dt w g s
  | .groupTableWrite dt w num ix v => Sys2Proof.Machine.execGroupTableWrite dt w num ix v s
  | .placeFull dt w => Sys2Proof.Machine.execPlaceFull dt w s
  | .placementDecided dt => Sys2Proof.Machine.execPlacementDecided dt s
  | .placementLoaded dt => Sys2Proof.Machine.execPlacementLoaded dt s
  | .placeRemove dt w piece => Sys2Proof.Machine.execPlaceRemove dt w piece s
  | .placeRestore dt w piece => Sys2Proof.Machine.execPlaceRestore dt w piece s
  | .placeMove dt w piece target => Sys2Proof.Machine.execPlaceMove dt w piece target s
  | .placeSetTap dt w spool => Sys2Proof.Machine.execPlaceSetTap dt w spool s
  | .placeRebalance dt w => Sys2Proof.Machine.execPlaceRebalance dt w s
  | .patStageData dt w l => Sys2Proof.Machine.execPatStageData dt w l s
  | .resourceMapWrite dt w ix v => Sys2Proof.Machine.execResourceMapWrite dt w ix v s
  | .bobbinMapWrite dt w ix v => Sys2Proof.Machine.execBobbinMapWrite dt w ix v s
  | .migrationDecision dt => Sys2Proof.Machine.execMigrationDecision dt s
  | .migrationCopyDone dt piece => Sys2Proof.Machine.execMigrationCopyDone dt piece s
  | .migForced dt piece => Sys2Proof.Machine.execMigForced dt piece s
  | .spoolFetch dt rec_ second b => Sys2Proof.Machine.execSpoolFetch dt rec_ second b s
  | .spoolFetchDone dt rec_ second b bad meets => Sys2Proof.Machine.execSpoolFetchDone dt rec_ second b bad meets s
  | .spoolLate dt rec_ second b => Sys2Proof.Machine.execSpoolLate dt rec_ second b s
  | .spoolDrain dt rec_ second b => Sys2Proof.Machine.execSpoolDrain dt rec_ second b s
  | .spoolDrainDone dt rec_ second b badBytes meets => Sys2Proof.Machine.execSpoolDrainDone dt rec_ second b badBytes meets s
  | .bobbinOwnerWrite dt w b v => Sys2Proof.Machine.execBobbinOwnerWrite dt w b v s
  | .handoverDone dt b => Sys2Proof.Machine.execHandoverDone dt b s
  | .bobbinWindowAccess dt core b off size store bad meets atomic => Sys2Proof.Machine.execBobbinWindowAccess dt core b off size store bad meets atomic s
  | .objectWindowLoad dt core num off size atomic rep => Sys2Proof.Machine.execObjectWindowLoad dt core num off size atomic rep s
  | .objectWindowStore dt core num off size atomic v rep => Sys2Proof.Machine.execObjectWindowStore dt core num off size atomic v rep s
  | .ccMsgGo dt core n v rep => Sys2Proof.Machine.execCcMsgGo dt core n v rep s
  | .arbRequest dt l => Sys2Proof.Machine.execArbRequest dt l s
  | .burstDone dt done wr off bad1 bad2 => Sys2Proof.Machine.execBurstDone dt done wr off bad1 bad2 s
  | .grantEnd dt ch drops => Sys2Proof.Machine.execGrantEnd dt ch drops s
  | .refresh dt ch => Sys2Proof.Machine.execRefresh dt ch s
  | .debugPreempt dt ch bad1 bad2 => Sys2Proof.Machine.execDebugPreempt dt ch bad1 bad2 s
  | .linkDown dt sh => Sys2Proof.Machine.execLinkDown dt sh s
  | .linkUp dt sh => Sys2Proof.Machine.execLinkUp dt sh s
  | .rxFrame dt sh symbols fcsOk vid csumOk src kind => Sys2Proof.Machine.execRxFrame dt sh symbols fcsOk vid csumOk src kind s
  | .rtpPacket dt sh src dest port pt seq ts payload meets => Sys2Proof.Machine.execRtpPacket dt sh src dest port pt seq ts payload meets s
  | .arpFrame dt sh reply src target mac => Sys2Proof.Machine.execArpFrame dt sh reply src target mac s
  | .icmpEcho dt sh src => Sys2Proof.Machine.execIcmpEcho dt sh src s
  | .igmpQuery dt sh v2 => Sys2Proof.Machine.execIgmpQuery dt sh v2 s
  | .igmpFallbackEnd dt sh => Sys2Proof.Machine.execIgmpFallbackEnd dt sh s
  | .inletPoolWrite dt sh faults meets => Sys2Proof.Machine.execInletPoolWrite dt sh faults meets s
  | .outletPoolRead dt sh ix k meets => Sys2Proof.Machine.execOutletPoolRead dt sh ix k meets s
  | .txPacket dt sh ix faults meets => Sys2Proof.Machine.execTxPacket dt sh ix faults meets s
  | .auditRecordExpire dt sh ix seq => Sys2Proof.Machine.execAuditRecordExpire dt sh ix seq s
  | .streamEnable dt w sh tx ix on => Sys2Proof.Machine.execStreamEnable dt w sh tx ix on s
  | .shRxMapCommit dt w sh ix => Sys2Proof.Machine.execShRxMapCommit dt w sh ix s
  | .shTxMapCommit dt w sh ix => Sys2Proof.Machine.execShTxMapCommit dt w sh ix s
  | .shPairMode dt w on => Sys2Proof.Machine.execShPairMode dt w on s
  | .tdmRxFrame dt p bclk words => Sys2Proof.Machine.execTdmRxFrame dt p bclk words s
  | .tdmTxFrame dt p bclk => Sys2Proof.Machine.execTdmTxFrame dt p bclk s
  | .tdmNoClock dt p => Sys2Proof.Machine.execTdmNoClock dt p s
  | .tdmMapCommit dt w p => Sys2Proof.Machine.execTdmMapCommit dt w p s
  | .tdmCfgWrite dt w p v => Sys2Proof.Machine.execTdmCfgWrite dt w p v s
  | .ptpSync dt h leader seq twoStep origin corr => Sys2Proof.Machine.execPtpSync dt h leader seq twoStep origin corr s
  | .ptpFollowUp dt h leader seq origin corr => Sys2Proof.Machine.execPtpFollowUp dt h leader seq origin corr s
  | .ptpDelayResp dt h leader seq interval received corr => Sys2Proof.Machine.execPtpDelayResp dt h leader seq interval received corr s
  | .delayReqSend dt => Sys2Proof.Machine.execDelayReqSend dt s
  | .ptpAnnounce dt h leader prio1 cls accuracy variance prio2 steps => Sys2Proof.Machine.execPtpAnnounce dt h leader prio1 cls accuracy variance prio2 steps s
  | .ptpLeaderSend dt => Sys2Proof.Machine.execPtpLeaderSend dt s
  | .announceTimeout dt => Sys2Proof.Machine.execAnnounceTimeout dt s
  | .syncTimeout dt => Sys2Proof.Machine.execSyncTimeout dt s
  | .tbStep dt => Sys2Proof.Machine.execTbStep dt s
  | .freqStep dt ref => Sys2Proof.Machine.execFreqStep dt ref s
  | .tbSet dt w ns => Sys2Proof.Machine.execTbSet dt w ns s
  | .ptpProfileWrite dt w v => Sys2Proof.Machine.execPtpProfileWrite dt w v s
  | .xtalFail dt => Sys2Proof.Machine.execXtalFail dt s
  | .xtalRestore dt => Sys2Proof.Machine.execXtalRestore dt s
  | .refPresent dt r => Sys2Proof.Machine.execRefPresent dt r s
  | .refLost dt r => Sys2Proof.Machine.execRefLost dt r s
  | .ppsEdge dt => Sys2Proof.Machine.execPpsEdge dt s
  | .lockLost dt pll => Sys2Proof.Machine.execLockLost dt pll s
  | .pllRelock dt pll => Sys2Proof.Machine.execPllRelock dt pll s
  | .clkPhaseWrite dt w ix v => Sys2Proof.Machine.execClkPhaseWrite dt w ix v s
  | .hello dt m => Sys2Proof.Machine.execHello dt m s
  | .cert dt m => Sys2Proof.Machine.execCert dt m s
  | .key dt m k => Sys2Proof.Machine.execKey dt m k s
  | .handshakeTimeout dt id => Sys2Proof.Machine.execHandshakeTimeout dt id s
  | .read dt m => Sys2Proof.Machine.execRead dt m s
  | .write dt m => Sys2Proof.Machine.execWrite dt m s
  | .blockRead dt m => Sys2Proof.Machine.execBlockRead dt m s
  | .blockWrite dt m => Sys2Proof.Machine.execBlockWrite dt m s
  | .subscribe dt m => Sys2Proof.Machine.execSubscribe dt m s
  | .unsubscribe dt m => Sys2Proof.Machine.execUnsubscribe dt m s
  | .notify dt src first count => Sys2Proof.Machine.execNotify dt src first count s
  | .tack dt m => Sys2Proof.Machine.execTack dt m s
  | .renew dt m => Sys2Proof.Machine.execRenew dt m s
  | .untack dt m => Sys2Proof.Machine.execUntack dt m s
  | .tackExpire dt id => Sys2Proof.Machine.execTackExpire dt id s
  | .tackRecordExpire dt => Sys2Proof.Machine.execTackRecordExpire dt s
  | .bye dt m => Sys2Proof.Machine.execBye dt m s
  | .sessTimeout dt id => Sys2Proof.Machine.execSessTimeout dt id s
  | .sessKick dt w id => Sys2Proof.Machine.execSessKick dt w id s
  | .reassemblyTimeout dt id => Sys2Proof.Machine.execReassemblyTimeout dt id s
  | .dictCcSub dt core n v => Sys2Proof.Machine.execDictCcSub dt core n v s
  | .dictCcRingConfig dt w n which v => Sys2Proof.Machine.execDictCcRingConfig dt w n which v s
  | .ccTackGo dt core n lease => Sys2Proof.Machine.execCcTackGo dt core n lease s
  | .ccUntack dt core n => Sys2Proof.Machine.execCcUntack dt core n s
  | .journalBatch dt failed => Sys2Proof.Machine.execJournalBatch dt failed s
  | .journalEraseDone dt failed => Sys2Proof.Machine.execJournalEraseDone dt failed s
  | .serialWriteFrame dt kind bytes => Sys2Proof.Machine.execSerialWriteFrame dt kind bytes s
  | .serialReadRequest dt whole extra => Sys2Proof.Machine.execSerialReadRequest dt whole extra s
  | .selInAssert dt => Sys2Proof.Machine.execSelInAssert dt s
  | .selInDeassert dt => Sys2Proof.Machine.execSelInDeassert dt s
  | .serMGo dt core n v => Sys2Proof.Machine.execSerMGo dt core n v s
  | .serialMasterStart dt => Sys2Proof.Machine.execSerialMasterStart dt s
  | .serialMasterDone dt rx => Sys2Proof.Machine.execSerialMasterDone dt rx s
  | .dmaGo dt w c => Sys2Proof.Machine.execDmaGo dt w c s
  | .dmaStop dt w c => Sys2Proof.Machine.execDmaStop dt w c s
  | .dmaPieceDone dt bad badBytes meets => Sys2Proof.Machine.execDmaPieceDone dt bad badBytes meets s
  | .sacnDataPacket dt port p full => Sys2Proof.Machine.execSacnDataPacket dt port p full s
  | .sacnSyncPacket dt port valid cid addr seq => Sys2Proof.Machine.execSacnSyncPacket dt port valid cid addr seq s
  | .sacnSyncTimeout dt cid addr => Sys2Proof.Machine.execSacnSyncTimeout dt cid addr s
  | .sacnSourceExpire dt cid u => Sys2Proof.Machine.execSacnSourceExpire dt cid u s
  | .sacnCuePoint dt slow full => Sys2Proof.Machine.execSacnCuePoint dt slow full s
  | .sacnTxLate dt => Sys2Proof.Machine.execSacnTxLate dt s
  | .sacnDiscovery dt => Sys2Proof.Machine.execSacnDiscovery dt s
  | .univCfgWrite dt w u v => Sys2Proof.Machine.execUnivCfgWrite dt w u v s
  | .dmxCuePoint dt p => Sys2Proof.Machine.execDmxCuePoint dt p s
  | .dmxFrameReceived dt p f => Sys2Proof.Machine.execDmxFrameReceived dt p f s
  | .dmxSourceExpire dt p => Sys2Proof.Machine.execDmxSourceExpire dt p s
  | .dmxCfgWrite dt w timing p v => Sys2Proof.Machine.execDmxCfgWrite dt w timing p v s
  | .rdmCmd dt w p l => Sys2Proof.Machine.execRdmCmd dt w p l s
  | .rdmTransaction dt p => Sys2Proof.Machine.execRdmTransaction dt p s
  | .rdmResponse dt p r => Sys2Proof.Machine.execRdmResponse dt p r s
  | .rdmTimeout dt p => Sys2Proof.Machine.execRdmTimeout dt p s
  | .rdmDiscover dt w p => Sys2Proof.Machine.execRdmDiscover dt w p s
  | .t1sBeacon dt g => Sys2Proof.Machine.execT1sBeacon dt g s
  | .t1sBeaconLoss dt g => Sys2Proof.Machine.execT1sBeaconLoss dt g s
  | .t1sCollision dt g attempt => Sys2Proof.Machine.execT1sCollision dt g attempt s
  | .oscPacket dt port ip udp l => Sys2Proof.Machine.execOscPacket dt port ip udp l s
  | .oscPeerExpire dt peer => Sys2Proof.Machine.execOscPeerExpire dt peer s
  | .oscMapEntry dt w l => Sys2Proof.Machine.execOscMapEntry dt w l s
  | .oscSend dt full => Sys2Proof.Machine.execOscSend dt full s
  | .powerOn dt => Sys2Proof.Machine.execPowerOn dt s
  | .resetRelease dt straps => Sys2Proof.Machine.execResetRelease dt straps s
  | .safetyMatrixStart dt => Sys2Proof.Machine.execSafetyMatrixStart dt s
  | .slotChoice dt => Sys2Proof.Machine.execSlotChoice dt s
  | .journalRestore dt => Sys2Proof.Machine.execJournalRestore dt s
  | .manifestCheck dt => Sys2Proof.Machine.execManifestCheck dt s
  | .chunkLoaded dt readOk => Sys2Proof.Machine.execChunkLoaded dt readOk s
  | .coreRelease dt w v => Sys2Proof.Machine.execCoreRelease dt w v s
  | .trialWdog dt => Sys2Proof.Machine.execTrialWdog dt s
  | .accept dt w v => Sys2Proof.Machine.execAccept dt w v s
  | .keyRevoke dt w v => Sys2Proof.Machine.execKeyRevoke dt w v s
  | .updBegin dt w => Sys2Proof.Machine.execUpdBegin dt w s
  | .validate dt w => Sys2Proof.Machine.execValidate dt w s
  | .trialReset dt w => Sys2Proof.Machine.execTrialReset dt w s
  | .updData dt w l => Sys2Proof.Machine.execUpdData dt w l s
  | .recoveryOpen dt m => Sys2Proof.Machine.execRecoveryOpen dt m s
  | .recoveryData dt m => Sys2Proof.Machine.execRecoveryData dt m s
  | .recoveryClose dt m readOk => Sys2Proof.Machine.execRecoveryClose dt m readOk s
  | .safeStageData dt w l => Sys2Proof.Machine.execSafeStageData dt w l s
  | .safeWrite dt w v => Sys2Proof.Machine.execSafeWrite dt w v s
  | .measExtGo dt w ix => Sys2Proof.Machine.execMeasExtGo dt w ix s
  | .delayedReset dt => Sys2Proof.Machine.execDelayedReset dt s
  | .resetN dt => Sys2Proof.Machine.execResetN dt s
  | .pgoodLoss dt => Sys2Proof.Machine.execPgoodLoss dt s
  | .resetCmd dt w v => Sys2Proof.Machine.execResetCmd dt w v s
  | .ccReset dt w v => Sys2Proof.Machine.execCcReset dt w v s
  | .ownerKeyHash dt w l => Sys2Proof.Machine.execOwnerKeyHash dt w l s
  | .lcAdvance dt w v => Sys2Proof.Machine.execLcAdvance dt w v s
  | .thmOp dt core n v => Sys2Proof.Machine.execThmOp dt core n v s
  | .thmOpDone dt n => Sys2Proof.Machine.execThmOpDone dt n s
  | .debugOpen dt w v => Sys2Proof.Machine.execDebugOpen dt w v s
  | .idcode dt => Sys2Proof.Machine.execIdcode dt s
  | .bypass dt code => Sys2Proof.Machine.execBypass dt code s
  | .samplePreload dt => Sys2Proof.Machine.execSamplePreload dt s
  | .extest dt pins => Sys2Proof.Machine.execExtest dt pins s
  | .dbgChallenge dt => Sys2Proof.Machine.execDbgChallenge dt s
  | .dbgResponse dt k hostKey sig => Sys2Proof.Machine.execDbgResponse dt k hostKey sig s
  | .dbgAccess dt tagOk op => Sys2Proof.Machine.execDbgAccess dt tagOk op s
  | .dbgEnd dt tagOk => Sys2Proof.Machine.execDbgEnd dt tagOk s
  | .trstN dt => Sys2Proof.Machine.execTrstN dt s
  | .debugSessionTimeout dt => Sys2Proof.Machine.execDebugSessionTimeout dt s
  | .challengeLockoutEnd dt => Sys2Proof.Machine.execChallengeLockoutEnd dt s
  | .powerCmdRun dt w => Sys2Proof.Machine.execPowerCmdRun dt w s
  | .powerCmdHush dt w force => Sys2Proof.Machine.execPowerCmdHush dt w force s
  | .powerCmdStandby dt w force => Sys2Proof.Machine.execPowerCmdStandby dt w force s
  | .wake dt pins => Sys2Proof.Machine.execWake dt pins s
  | .pleatWakeStart dt => Sys2Proof.Machine.execPleatWakeStart dt s
  | .pleatReady dt p => Sys2Proof.Machine.execPleatReady dt p s
  | .needleBist dt w pleats rate force => Sys2Proof.Machine.execNeedleBist dt w pleats rate force s
  | .memoryBist dt w pleats rate force => Sys2Proof.Machine.execMemoryBist dt w pleats rate force s
  | .analog dt w pleats rate force => Sys2Proof.Machine.execAnalog dt w pleats rate force s
  | .testEnd dt w => Sys2Proof.Machine.execTestEnd dt w s
  | .testLengthEnd dt r => Sys2Proof.Machine.execTestLengthEnd dt r s
  | .sensorUpdate dt pleats drams => Sys2Proof.Machine.execSensorUpdate dt pleats drams s
  | .ndlStickyWrite dt w n v => Sys2Proof.Machine.execNdlStickyWrite dt w n v s
  | .ndlTapeStatusWrite dt w n v => Sys2Proof.Machine.execNdlTapeStatusWrite dt w n v s
  | .avsStatusWrite dt w v => Sys2Proof.Machine.execAvsStatusWrite dt w v s
  | .vcoreLimitWrite dt w max v => Sys2Proof.Machine.execVcoreLimitWrite dt w max v s
  | .objectWrite dt w num first ty l => Sys2Proof.Machine.execObjectWrite dt w num first ty l s
  | .delayReqReceived dt h follower seq corr => Sys2Proof.Machine.execDelayReqReceived dt h follower seq corr s
  | .clkSlewDone dt ix => Sys2Proof.Machine.execClkSlewDone dt ix s
  | .updValidateDone dt readOk => Sys2Proof.Machine.execUpdValidateDone dt readOk s
  | .standbyEntryDone dt => Sys2Proof.Machine.execStandbyEntryDone dt s
  | .vkeepLoss dt => Sys2Proof.Machine.execVkeepLoss dt s
  | .historyZeroingDone dt => Sys2Proof.Machine.execHistoryZeroingDone dt s
  | .dmxFrameSent dt p => Sys2Proof.Machine.execDmxFrameSent dt p s

end Sys2Proof.Machine
end

