-- ==== Sys2Proof/Safety.lean ====
section
/-!
DEFINITION. What counts as a safe run: every command takes effect (nothing is refused, nothing faults), and the
addressed memories stay in their one canonical form, so that equal memories are equal data.
-/

namespace Sys2Proof.Machine

/-- The canonical form of an addressed memory: addresses strictly rising, and no entry equal to the zero an unlisted
address reads as. -/
def Memory.wf (m : List Host.Cell) : Bool := canonical (fun _ => (0 : Byte)) m

/-- The bobbins, the package memory and the boot flash are in canonical form. -/
def State.memWf (s : State) : Bool :=
  Memory.wf s.bob && Memory.wf s.pm && canonical (fun _ => (0xFF : Byte)) s.flash

/-- A step is safe when it answers a next state whose memories are in canonical form. -/
def SafeStep (s : State) : Prop := ∃ t, step s = .next t ∧ t.memWf = true

end Sys2Proof.Machine
end

