-- ==== Sys2Proof/Certificates/Slice0/Obligations.lean ====
section
/-!
DEFINITION. The statements for the provers. `Answers c s P` says that the command c completes in state s, in a next
state of which P holds; every command that has a meaning is the subject of at least one such conclusion.
-/

namespace Sys2Proof.Claim

open Sys2Proof.Machine

/-- The command completes: it answers a next state, of which P holds. -/
def Answers (c : Instr) (s : State) (P : State → Prop) : Prop := ∃ t, exec c s = .next t ∧ P t

/-- A hem counter has counted k: it stands k higher, stuck at 0xFFFF_FFFF (R370). -/
def Counted (s t : State) (num i k : Nat) : Prop :=
  t.nat num i = if k = 0 then s.nat num i else min (s.nat num i + k) 0xFFFFFFFF

/-- The commands that act on a part that is not running: power, the reset pins, wake pins and the release of reset. -/
def wakesPart : Instr → Bool
  | .powerOn .. | .resetRelease .. | .resetN .. | .pgoodLoss .. | .vkeepLoss .. | .wake .. => true
  | _ => false

/-! ## Needles -/

/-- Needle n's run comes to the slot c: the part runs, the needle's pleat is powered, it waits for nothing, the slot of its
program that is next in its run is c (R63), and the slot's fetches met no parity error. -/
def AtSlot (c : Instr) (s : State) (n : Fin 128) (g : Gate) : Prop :=
  s.phase = .running ∧ s.pleatOn (n.val / 8) = true ∧ (s.needle n.val).wait = .none ∧ (s.needle n.val).comesTo c = true ∧
    g.fetch = .good

/-- Needle n's run comes to the slot c, and it executes: PK xor PN is 1 and the slot is not gated (R53). -/
def Executes (c : Instr) (s : State) (n : Fin 128) (g : Gate) : Prop := AtSlot c s n g ∧ s.slotOpen n.val g = true

/-- What an instruction reads of its slot in state s. -/
def slotIn (s : State) (n : Fin 128) (g : Gate) : SlotIn := ⟨s.needle n.val, g.sat, s.full, g⟩

/-- The slot has retired in the run in progress, and the access fields' pointer updates are made (R53, R56). -/
def Retired (a b : Needle) (g : Gate) : Prop :=
  b.run = a.run.map (fun r => { r with retired := r.retired + 1 }) ∧ b.xp = (a.stepPtrs g).xp ∧ b.yp = (a.stepPtrs g).yp ∧
    b.stc = a.stc ∧ b.wait = .none

/-- As `Retired`, for an instruction that sets pointers beside the access fields. -/
def RetiredRun (a b : Needle) : Prop :=
  b.run = a.run.map (fun r => { r with retired := r.retired + 1 }) ∧ b.stc = a.stc ∧ b.wait = .none

/-- The needle's inlet window holds the words its routes name of a bank (R15, R65); a word that two channels are routed to is
left open. -/
def WindowHolds (u : State) (bank : PoolBank) (n : Nat) (nd : Needle) : Prop :=
  ∀ r, r ∈ u.fab.routesIn → r.needle = n →
    (∀ q, q ∈ u.fab.routesIn → q.needle = n → q.word % 256 = r.word % 256 → q.ch = r.ch) →
    look (fun _ => 0) nd.inlet (r.word % 256) = bank.word r.ch

/-- The run a needle starts with: the stitch's number, and every slot of its program to come (R29, R63). -/
def freshRun (k : Nat) (nd : Needle) : Option Run := some ⟨k, 0, if nd.placed then nd.progLen else 0⟩

/-- Nothing but the strobe itself is due at the next strobe: no change of service or of the placement, no migration, no end of
HUSH, and no start of the safety matrix. -/
def QuietStrobe (u : State) : Prop :=
  u.fab.due = [] ∧ u.last.migs = [] ∧ u.pw.hush = false ∧ u.pw.reload = false ∧ u.level ≠ 2 ∧
    (u.level = 1 → u.last.safety = true ∨ u.safe.loaded = false)

/-- X, Y and program memory and the windows are unchanged. -/
def SameMem (a b : Needle) : Prop :=
  b.x = a.x ∧ b.y = a.y ∧ b.prog = a.prog ∧ b.inlet = a.inlet ∧ b.outlet = a.outlet ∧ b.seam = a.seam

/-- What a needle's slot leaves alone outside the needles and the register file. -/
def SameElse (s t : State) : Prop :=
  t.bob = s.bob ∧ t.pm = s.pm ∧ t.flash = s.flash ∧ t.pending = s.pending ∧ t.clk = s.clk ∧ t.fab = s.fab ∧ t.baste = s.baste

/-- What the conditions f that an instruction of needle n meets do (R36, R37): each sets its sticky bit, a clamp counts once in
NDL_SAT_HEM and NDL_SAT_LIFE, a wrap in NDL_WRAP_HEM and NDL_WRAP_LIFE, an operand outside the domain in NDL_DOMAIN_HEM, and
every other object of the needle's block but NDL_CNT_OVF stays. -/
def Conditions (n : Fin 128) (f : Flags) (s t : State) : Prop :=
  let once (on : Bool) : Nat := if on then 1 else 0
  let life (k : Nat) (on : Bool) : Prop :=
    t.nat (ndlObj n.val k) = if on then (s.nat (ndlObj n.val k) + 1) % 2 ^ 64 else s.nat (ndlObj n.val k)
  (∀ b, t.bit (ndlObj n.val 0x20) 0 b =
    (s.bit (ndlObj n.val 0x20) 0 b || (b == 0 && f.sat) || (b == 1 && f.wrap) || (b == 2 && f.pclamp) || (b == 3 && f.dom))) ∧
    Counted s t (ndlObj n.val 0x21) 0 (once (f.sat || f.pclamp)) ∧ Counted s t (ndlObj n.val 0x22) 0 (once f.wrap) ∧
    Counted s t (ndlObj n.val 0x23) 0 (once f.dom) ∧ life 0x24 (f.sat || f.pclamp) ∧ life 0x25 f.wrap ∧
    (f = .none → t.obj (ndlObj n.val 0x27) = s.obj (ndlObj n.val 0x27)) ∧
    ∀ k j, k < 0x40 → j < 2048 → (k < 0x20 ∨ k = 0x26 ∨ 0x27 < k) → t.obj (ndlObj n.val k) j = s.obj (ndlObj n.val k) j

/-- The conditions of accumulator results from their exact sums xs, with the products of the operand pairs ps in them: the
product clamp (R31), and a clamp or a wrap by S of a sum that leaves 80 bits (R32). -/
def accMet (sat : Bool) (ps : List (Word × Word)) (xs : List Int) : Flags :=
  let clamp := ps.any (fun p => p.1 == 0x80000000#32 && p.2 == 0x80000000#32)
  let out := xs.any (fun x => decide (x < -(2 ^ 79)) || decide (2 ^ 79 ≤ x))
  ⟨clamp || (out && sat), out && !sat, clamp, false⟩

/-- The conditions of the write-backs of the accumulator values xs (R33). -/
def wbMet (sat full : Bool) (xs : List Int) : Flags :=
  ⟨xs.any (fun x => (writeback x sat full).2.sat), xs.any (fun x => (writeback x sat full).2.wrap), false, false⟩

/-- The conditions of a D register's exact result x: a clamp or a wrap by S where it leaves 32 bits (R35). -/
def dMet (sat : Bool) (x : Int) : Flags :=
  let out := decide (x < -(2 ^ 31)) || decide (2 ^ 31 ≤ x)
  ⟨out && sat, out && !sat, false, false⟩

/-- No needle waits for a word of needle n's run (R67). -/
def Unawaited (s : State) (n : Fin 128) : Prop :=
  ∀ m : Fin 128, ∀ d src j par since, (s.needle m.val).wait = .sinf d src j par since → src ≠ n

/-- The instruction c of needle n writes the one register Dd with v, and nothing else of the needle but its pointers by
the access fields: accumulators, predicates, modifiers, memories and windows are unchanged. It meets the conditions f, none
where f is left out. -/
def WritesD (c : Instr) (n : Fin 128) (g : Gate) (d : Fin 16) (v : SlotIn → Word) (f : SlotIn → Flags := fun _ => .none) : Prop :=
  ∀ s, c.wf = true → Executes c s n g → Answers c s fun t =>
    let a := s.needle n.val
    let b := t.needle n.val
    b.d = a.d.set d (v (slotIn s n g)) ∧ b.acc = a.acc ∧ b.p = a.p ∧ b.m = a.m ∧ Retired a b g ∧ SameMem a b ∧ SameElse s t ∧
      Conditions n (f (slotIn s n g)) s t

/-- As `WritesD`, for D registers as a whole. -/
def WritesDs (c : Instr) (n : Fin 128) (g : Gate) (v : SlotIn → Vector Word 16) (f : SlotIn → Flags := fun _ => .none) : Prop :=
  ∀ s, c.wf = true → Executes c s n g → Answers c s fun t =>
    let a := s.needle n.val
    let b := t.needle n.val
    b.d = v (slotIn s n g) ∧ b.acc = a.acc ∧ b.p = a.p ∧ b.m = a.m ∧ Retired a b g ∧ SameMem a b ∧ SameElse s t ∧
      Conditions n (f (slotIn s n g)) s t

/-- As `WritesD`, for accumulators. -/
def WritesAcc (c : Instr) (n : Fin 128) (g : Gate) (v : SlotIn → Vector Acc 4) (f : SlotIn → Flags := fun _ => .none) : Prop :=
  ∀ s, c.wf = true → Executes c s n g → Answers c s fun t =>
    let a := s.needle n.val
    let b := t.needle n.val
    b.acc = v (slotIn s n g) ∧ b.d = a.d ∧ b.p = a.p ∧ b.m = a.m ∧ Retired a b g ∧ SameMem a b ∧ SameElse s t ∧
      Conditions n (f (slotIn s n g)) s t

/-- As `WritesD`, for the predicate Pk: a write to P7 is discarded (R26). -/
def WritesP (c : Instr) (n : Fin 128) (g : Gate) (k : Fin 8) (v : SlotIn → Bool) : Prop :=
  ∀ s, c.wf = true → Executes c s n g → Answers c s fun t =>
    let a := s.needle n.val
    let b := t.needle n.val
    (∀ q : Fin 8, b.pred q = if q = k ∧ q.val < 7 then v (slotIn s n g) else a.pred q) ∧
      b.d = a.d ∧ b.acc = a.acc ∧ b.m = a.m ∧ Retired a b g ∧ SameMem a b ∧ SameElse s t ∧ Conditions n .none s t

/-- As `WritesD`, for pointer PTR: the access fields do not update it, whatever their mode (R56; of a hold or an indexed access
log entry 18), and every other pointer follows them. -/
def WritesPtr (c : Instr) (n : Fin 128) (g : Gate) (p : Fin 8) (v : SlotIn → Ptr → Ptr) : Prop :=
  ∀ s, c.wf = true → Executes c s n g → Answers c s fun t =>
    let a := s.needle n.val
    let b := t.needle n.val
    (∀ q : Fin 8, b.ptr q = if q = p then v (slotIn s n g) (a.ptr p) else (a.stepPtrs g).ptr q) ∧
      b.d = a.d ∧ b.acc = a.acc ∧ b.p = a.p ∧ b.m = a.m ∧ RetiredRun a b ∧ SameMem a b ∧ SameElse s t ∧ Conditions n .none s t

/-- The slot leaves the D registers, accumulators, predicates and modifiers alone; the pointers follow the access
fields. -/
def KeepsRegs (a b : Needle) (g : Gate) : Prop := b.d = a.d ∧ b.acc = a.acc ∧ b.p = a.p ∧ b.m = a.m ∧ Retired a b g

/-- As `KeepsRegs`, of a slot that writes D registers; the memories and windows stay too. -/
def KeepsButD (a b : Needle) (g : Gate) : Prop := b.acc = a.acc ∧ b.p = a.p ∧ b.m = a.m ∧ Retired a b g ∧ SameMem a b

/-- The reports that come with an instruction found nothing wrong, as a word of program memory alone spells it. -/
def clean : Instr → Bool
  | .sin _ g _ _ _ par | .sinf _ g _ _ _ par => g.fetch == .good && par == ⟨false, false⟩
  | .bldW _ g _ _ _ rep | .bldT _ g _ _ _ rep | .bstW _ g _ _ _ rep | .bstT _ g _ _ _ rep =>
    g.fetch == .good && rep == ⟨0, 0, []⟩
  | i => ((opOf i).map (fun e => e.2.1.fetch == .good)).getD false

/-! ## Writes of objects -/

/-- The status a write of element i of an object draws in state u (R240). -/
def wstatus (w : Writer) (num i : Nat) (v : Int) (u : State) : Nat := (u.write1 w (u.elemReq num i v)).1
/-- The status a write of a BLOB draws in state u (R240). -/
def bstatus (w : Writer) (num : Nat) (l : List Byte) (u : State) : Nat := (u.write1 w (u.blobReq num l)).1

/-- The command c writes element i of object num: in every running state in which the write is accepted, it completes, and
P holds of the state it found, with its cycles passed, and the next one. -/
def Writes (c : Instr) (dt : Nat) (w : Writer) (num i : Nat) (v : Int) (P : State → State → Prop) : Prop :=
  ∀ s, s.phase = .running → wstatus w num i v (tick dt s) = St.ok → Answers c s (P (tick dt s))

/-- As `Writes`, for a BLOB. -/
def WritesBlob (c : Instr) (dt : Nat) (w : Writer) (num : Nat) (l : List Byte) (P : State → State → Prop) : Prop :=
  ∀ s, s.phase = .running → bstatus w num l (tick dt s) = St.ok → Answers c s (P (tick dt s))

/-- As `Writes`, where H holds too. -/
def WritesIf (c : Instr) (dt : Nat) (w : Writer) (num i : Nat) (v : Int) (H : State → Prop) (P : State → State → Prop) : Prop :=
  ∀ s, s.phase = .running → wstatus w num i v (tick dt s) = St.ok → H (tick dt s) → Answers c s (P (tick dt s))

/-- A device reset with its cause, of two at one instant the lower code: the part waits in reset, its memories hold nothing (log
entry 8: the spec leaves what they hold undefined), and the flash, the fuses and the waiting commands outlive it (R334, R355). -/
def ResetBy (cause : Nat) (u t : State) : Prop :=
  t.phase = .inReset ∧
    t.nat Obj.resetCause = (if u.phase = .inReset ∧ u.now = 0 then min cause (u.nat Obj.resetCause) else cause) ∧
    t.bob = [] ∧ t.pm = [] ∧ t.ndl = [] ∧ t.stitch = 0 ∧ t.last = State.reset.last ∧
    t.flash = u.flash ∧ t.worn = u.worn ∧ t.keyKill = u.keyKill ∧ t.pending = u.pending ∧ t.nat Obj.lifecycle = u.nat Obj.lifecycle ∧
    t.nat Obj.rollbackCount = u.nat Obj.rollbackCount ∧ t.blob Obj.ownerKeyHash = u.blob Obj.ownerKeyHash

/-- The element holds what R7, R37 and R86 make of the written value. -/
def Stored (num i : Nat) (v : Int) (u t : State) : Prop := t.obj num i = u.newVal num i v

/-- The command completes in every running state that meets H, with its cycles passed, and P holds of that state and the
next one. -/
def Does (c : Instr) (dt : Nat) (H : State → Prop) (P : State → State → Prop) : Prop :=
  ∀ s, s.phase = .running → H (tick dt s) → Answers c s (P (tick dt s))

/-! ## Ursin -/

/-- The state in which a unit meets a control frame of a kind, and when it arrived: the frame was the next of its Shuttle's
queue, which it has left (R192); without an address a Shuttle takes ARP alone (R193, log entry 195). -/
def ctrlTaken (u : State) (sh : Nat) (k : CtrlKind) : Option (Nat × State) :=
  match (u.shut sh).nextCtrl with
  | some e => if e.1 = k ∧ (k = .arp ∨ u.shIp sh ≠ 0) then some (e.2, u.modShut sh (fun h => { h with ctrlq := h.ctrlq.erase e })) else none
  | none => none

/-- The state in which the slot engine, the OSC receiver or the dictionary engine meets a datagram: it has left its Shuttle's
queue, or its segment is in use and has an address (R192, R291). -/
def arrivesAt (u : State) (port : Nat) (k : CtrlKind) : Option State :=
  if port < 2 then (ctrlTaken u port k).map (·.2)
  else if u.bit Obj.t1sCfg (port - 2) 0 && u.nat Obj.t1sIp (port - 2) != 0 then some u
  else none

/-- The state in which the dictionary engine meets a message: it has left its transport's queue (R258, R292). -/
def arrived (m : UMsg) (op : Nat) (u : State) : Option State :=
  if m.via = 4 then
    (if u.ser.frames.head? = some (rawOf m op) then some (u.modSer (fun p => { p with frames := p.frames.drop 1 })) else none)
  else arrivesAt u m.via.val .ursin

/-- A message of session x passes R262–R264, and q is its request: it arrives after the journal's restore, its form and tag
hold, its SEQ is new and below the last, its request has the form of its opcode, and the engine's queue has room. -/
def Passes (m : UMsg) (op : Nat) (ok : Req → Bool) (u v : State) (x : Session) (q : Req) : Prop :=
  arrived m op u = some v ∧ v.boot.admitted = true ∧ v.session? m.session.toNat = some x ∧ formOk m = true ∧
    x.overIp = decide (m.via.val < 4) ∧ (∃ l, opened m x.keys op = some l ∧ q = reqWith m l) ∧
    x.h < m.seq.toNat ∧ m.seq.toNat < 0xFFFFFFFF ∧ ok q = true ∧ m.full = false

/-- The state in which the operation of a message that passes runs. -/
def served (m : UMsg) (v : State) (x : Session) : State :=
  ((v.modSession x.id (fun y => { y with h := m.seq.toNat })).touchSession x m).applyRep m.rep

/-- The session, if it still lives, keeps the reply r to m (R264). -/
def Kept (m : UMsg) (x : Session) (r : Reply) (t : State) : Prop :=
  ∀ y, t.session? x.id = some y → (m.seq.toNat, r) ∈ y.replies ∧ m.seq.toNat ≤ y.h

/-- The message m has gone out on a network port, but to no address off a segment; on a segment it may have met the full queue
instead, and been dropped and counted since state u (R259, R291, R292; when that is, is free: log entry 184). -/
def OnNet (port : Nat) (ip : Nat) (m : NetMsg) (u t : State) : Prop :=
  t.offSegment port ip = true ∨ Out.frame port (t.netTag port (some 2) m) m ∈ t.out ∨
    2 ≤ port ∧ Counted u t Obj.t1sTxDropHem (port - 2) 1

/-- The message r has gone out to where it goes: into the serial port's queue, as a NOTIFY where `notify` says so, or in its
fragments on its network port (R258, R259, R274). -/
def Sent (r : Reply) (u t : State) (notify : Bool := false) : Prop :=
  if r.via = 4 then (notify, r) ∈ t.ursin.serialq else OnNet r.via r.ip (.ursin r.ip r.udp r (fragments r.raw)) u t

/-- The message k of a NOTIFY in n parts to session x, with an entry count and the entries' bytes: opcode 0x22, under the next
number of the session's NOTIFY counter, PART and more to follow but in the last, sealed with the session's keys (R254, R264,
R266). -/
def notifyPart (x : Session) (k n : Nat) (e : Nat × List Byte) : Reply :=
  Reply.seal ⟨x.via, x.ip, x.udp, x.id, x.notify + k, 0x22, if k + 1 = n then 1 else 3, St.ok, e.1, 0, 0, e.2, []⟩ (some x.keys)

/-- The two states agree on the dictionary, basting, the Last, the boot chain, memories, the flash, and every object but the
counters of hems. -/
def Agree (s t : State) : Prop :=
  t.dict = s.dict ∧ t.baste = s.baste ∧ t.fab = s.fab ∧ t.last = s.last ∧ t.boot = s.boot ∧ t.pm = s.pm ∧ t.bob = s.bob ∧
    t.flash = s.flash ∧ t.blobs = s.blobs ∧ ∀ m j, j < 2048 → isHem m = false → t.obj m j = s.obj m j

/-- The message c of session x is served: it completes; act's answer goes out under the session's keys and is kept as its
reply, and act's effect stands. -/
def Serves (c : Instr) (dt : Nat) (m : UMsg) (op : Nat) (ok : Req → Bool) (act : Writer → Req → State → Ans × State) : Prop :=
  ∀ s v x q, s.phase = .running → Passes m op ok (tick dt s) v x q →
    (act ⟨.session x.id, x.role, x.prio⟩ q (served m v x)).2.phase = .running →
    (act ⟨.session x.id, x.role, x.prio⟩ q (served m v x)).2.boot.validating ≠ some .none →
    Answers c s fun t =>
      let r := act ⟨.session x.id, x.role, x.prio⟩ q (served m v x)
      let y := (replyTo m x.id op r.1).seal (some x.keys)
      Kept m x y t ∧ Sent y r.2 t ∧ Agree r.2 t

end Sys2Proof.Claim

open Sys2Proof Sys2Proof.Machine Sys2Proof.Claim

/-! ## The machine -/

/-- A step takes the command at the front of the queue and is that command's effect with the queue's rest. -/
def Obligations.StepRunsFrontCommand : Prop :=
  ∀ (c : Instr) (rest : List Instr) (s : State), s.pending = c :: rest → step s = exec c { s with pending := rest }

/-- With no command waiting one cycle of the timebase clock passes and nothing else (the model's choice, log entry 1). -/
def Sys2Proof.Claim.EmptyQueueLetsOneCyclePass : Prop :=
  ∀ s : State, s.pending = [] → ∃ t, step s = .next t ∧ t = { s with clk := t.clk } ∧ t.clk.up = s.clk.up + 2000 ∧
    t.clk.tb = s.clk.tb + s.clk.inc ∧ t.clk.inc = s.clk.inc

/-- No command ends a run: every well-formed command answers a next state in every state. -/
def Obligations.EveryCommandAnswers : Prop := ∀ (c : Instr) (s : State), c.wf = true → ∃ t, exec c s = .next t

/-- While the part is not running (no power, STANDBY, or held in reset) every other well-formed command lets time
pass and does nothing else (R346, R355, R377). -/
def Obligations.HeldPartDoesNothing : Prop :=
  ∀ (c : Instr) (s : State), s.phase ≠ .running → c.wf = true → wakesPart c = false →
    ∃ d, exec c s = .next (tick d s)

/-- A needle instruction that breaks a rule of R71 is refused in every state, whatever the needle's own condition. -/
def Obligations.IllegalEncodingsAreRefused : Prop :=
  ∀ (c : Instr) (s : State), c.wf = false → ∃ code, exec c s = .refused (.illegalEncoding code)

/-- Every needle instruction, with every operand at every value, is what the Last reads from the word that encodes it. -/
def Obligations.SlotWordsRoundTrip : Prop :=
  ∀ (c : Instr) (n : Fin 128), c.needle? = some n → clean c = true →
    ∃ w, encodeSlot c = some w ∧ readSlot n w = some c

/-- The values the spec gives for reset (R4, R72, R88): service is TRIM, VCORE stands at VCORE_BOOT's value, the rate is
48 kHz and the needles of PLEAT[0] are idle; and the model's choices: the stitch in progress is 0 (log entry 2), and package
memory and bobbins, whose contents R355 leaves undefined, list nothing (log entry 8); no command waits. -/
def Sys2Proof.Claim.ResetValues : Prop :=
  State.reset.pending = [] ∧ State.reset.phase = .running ∧ State.reset.stitch = 0 ∧ State.reset.nat Obj.serviceLevel = 1 ∧
    State.reset.nat Obj.stitchRate = 1 ∧ State.reset.nat Obj.deadlineCode = 41026 ∧ State.reset.nat Obj.vcoreNow = 800 ∧
    (∀ n : Fin 8, State.reset.nat (ndlObj n.val 0) = 1) ∧ State.reset.pm = [] ∧ State.reset.bob = []

/-- The memories are in canonical form after reset. -/
def Sys2Proof.Claim.ResetMemoryCanonical : Prop := State.reset.memWf = true

/-- Every step keeps the bobbins, the package memory and the boot flash in canonical form. -/
def Obligations.StepKeepsMemoryCanonical : Prop := ∀ s t : State, s.memWf = true → step s = .next t → t.memWf = true

/-- Every step takes exactly the front command off the queue, whatever the command does. -/
def Sys2Proof.Claim.StepTakesOneCommand : Prop := ∀ s t : State, step s = .next t → t.pending = s.pending.tail

/-- No two outstanding commits are of one group. -/
def Sys2Proof.Claim.OneCommitPerGroup (s : State) : Prop := (s.baste.commits.map (·.group)).Nodup

/-- At most one commit per group is outstanding (R103): every step keeps it so, whatever commits, cancels and applies. -/
def Obligations.AtMostOneCommitPerGroup : Prop :=
  ∀ s t : State, OneCommitPerGroup s → step s = .next t → OneCommitPerGroup t

/-- A byte of package memory, a byte of a bobbin and an element of an object read as last written, and every other byte or
element is left alone. -/
def Obligations.MemoryReadsAfterWrites : Prop :=
  (∀ (s : State) (o q : Nat) (v : Byte), (s.setPmBytes o [v]).pmByte q = if q = o then v else s.pmByte q) ∧
  (∀ (s : State) (b x c y : Nat) (v : Byte), y < 524288 → x < 524288 →
    (s.setBobByte b x v).bobByte c y = if c = b ∧ y = x then v else s.bobByte c y) ∧
  (∀ (s : State) (num i m j : Nat) (v : Int), i < 2048 → j < 2048 →
    (s.setObj num i v).obj m j = if m = num ∧ j = i then v else s.obj m j)

/-! ## Needles -/

/-- Accumulator arithmetic (R32): an exact result inside 80 bits is kept; outside, S = 1 clamps it and sets SAT, and
S = 0 keeps it modulo 2⁸⁰ and sets WRAP. -/
def Obligations.AccumulatorRule : Prop :=
  ∀ (x : Int) (s : Bool),
    (-(2 ^ 79) ≤ x ∧ x < 2 ^ 79 → (accResult x s).1.toInt = x ∧ (accResult x s).2 = .none) ∧
    (2 ^ 79 ≤ x → s = true → (accResult x s).1.toInt = 2 ^ 79 - 1 ∧ (accResult x s).2 = .clamped) ∧
    (x < -(2 ^ 79) → s = true → (accResult x s).1.toInt = -(2 ^ 79) ∧ (accResult x s).2 = .clamped) ∧
    (¬(-(2 ^ 79) ≤ x ∧ x < 2 ^ 79) → s = false →
      (accResult x s).1.toInt % 2 ^ 80 = x % 2 ^ 80 ∧ (accResult x s).2 = .wrapped)

/-- Write-back (R33): FULL truncates to the word's 32 bits, NARROW rounds half up to 24 bits; a value past the largest
word of the mode clamps and sets SAT, or wraps and sets WRAP, by S. -/
def Obligations.WriteBackRule : Prop :=
  ∀ (acc : Int) (s full : Bool), -(2 ^ 79) ≤ acc → acc < 2 ^ 79 →
    let v : Int := if full then acc / 2 ^ 32 else (acc + 2 ^ 39) / 2 ^ 40 * 2 ^ 8
    let hi : Int := if full then 2 ^ 31 - 1 else 2 ^ 31 - 2 ^ 8
    (-(2 ^ 31) ≤ v ∧ v ≤ hi → (writeback acc s full).1.toInt = v ∧ (writeback acc s full).2 = .none) ∧
    (hi < v → s = true → (writeback acc s full).1.toInt = hi ∧ (writeback acc s full).2 = .clamped) ∧
    (v < -(2 ^ 31) → s = true → (writeback acc s full).1.toInt = -(2 ^ 31) ∧ (writeback acc s full).2 = .clamped) ∧
    (¬(-(2 ^ 31) ≤ v ∧ v ≤ hi) → s = false →
      (writeback acc s full).1.toInt % 2 ^ 32 = v % 2 ^ 32 ∧ (writeback acc s full).2 = .wrapped)

/-- Moves, immediates, logic and shifts write one D register; no condition is met, and none of the needle's sticky bits and
counters changes (R29, R36, R60, R62, R64). -/
def Obligations.NeedleMovesAndLogic : Prop :=
  ∀ (n : Fin 128) (g : Gate) (d a b : Fin 16) (imm : BitVec 16) (pc : Fin 8) (rs : Bool) (k : Fin 32),
    let count (i : SlotIn) : Nat := if rs then (i.dr b).toNat % 32 else k.val
    WritesD (.ldih n g d imm) n g d (fun _ => BitVec.ofNat 32 (imm.toNat * 65536)) ∧
    WritesD (.ldil n g d imm) n g d (fun i => BitVec.ofNat 32 ((i.dr d).toNat / 65536 * 65536 + imm.toNat)) ∧
    WritesD (.mov n g d a) n g d (fun i => i.dr a) ∧
    WritesD (.select n g d a b pc) n g d (fun i => if i.nd.pred pc then i.dr a else i.dr b) ∧
    WritesD (.stcl n g d) n g d (fun i => BitVec.ofNat 32 i.nd.stc.toNat) ∧
    WritesD (.stch n g d) n g d (fun i => BitVec.ofNat 32 (i.nd.stc.toNat / 2 ^ 32)) ∧
    WritesD (.gsl n g d imm) n g d (fun i => BitVec.ofNat 32 (i.nd.stc.toNat % imm.toNat)) ∧
    WritesD (.and n g d a b) n g d (fun i => i.dr a &&& i.dr b) ∧
    WritesD (.or n g d a b) n g d (fun i => i.dr a ||| i.dr b) ∧
    WritesD (.xor n g d a b) n g d (fun i => i.dr a ^^^ i.dr b) ∧
    WritesD (.not n g d a) n g d (fun i => ~~~ i.dr a) ∧
    WritesD (.min n g d a b) n g d (fun i => BitVec.ofInt 32 (min (i.dr a).toInt (i.dr b).toInt)) ∧
    WritesD (.max n g d a b) n g d (fun i => BitVec.ofInt 32 (max (i.dr a).toInt (i.dr b).toInt)) ∧
    WritesD (.asr n g d a b rs k) n g d (fun i => BitVec.ofInt 32 ((i.dr a).toInt / 2 ^ count i)) ∧
    WritesD (.lsl n g d a b rs k) n g d (fun i => BitVec.ofNat 32 ((i.dr a).toNat * 2 ^ count i)) ∧
    WritesD (.lsr n g d a b rs k) n g d (fun i => BitVec.ofNat 32 ((i.dr a).toNat / 2 ^ count i))

/-- D arithmetic: the exact result, clamped or wrapped by S where it leaves 32 bits, which sets SAT_SEEN or WRAP_SEEN and
counts (R35, R36, R60). -/
def Sys2Proof.Claim.NeedleDArithmetic : Prop :=
  ∀ (n : Fin 128) (g : Gate) (d a b : Fin 16) (imm : BitVec 16) (rs : Bool) (k : Fin 32),
    let fit (x : Int) : Word :=
      if g.sat then BitVec.ofInt 32 (max (-(2 ^ 31)) (min (2 ^ 31 - 1) x)) else BitVec.ofInt 32 x
    let result (c : Instr) (x : SlotIn → Int) : Prop := WritesD c n g d (fun i => fit (x i)) (fun i => dMet g.sat (x i))
    result (.add n g d a b) (fun i => (i.dr a).toInt + (i.dr b).toInt) ∧
    result (.sub n g d a b) (fun i => (i.dr a).toInt - (i.dr b).toInt) ∧
    result (.addi n g d a imm) (fun i => (i.dr a).toInt + imm.toInt) ∧
    result (.neg n g d a) (fun i => -(i.dr a).toInt) ∧
    result (.abs n g d a) (fun i => if (i.dr a).toInt < 0 then -(i.dr a).toInt else (i.dr a).toInt) ∧
    result (.asl n g d a b rs k) (fun i => (i.dr a).toInt * 2 ^ (if rs then (i.dr b).toNat % 32 else k.val))

/-- Compares and predicate logic write one predicate (R26, R59, R60). -/
def Sys2Proof.Claim.NeedleCompares : Prop :=
  ∀ (n : Fin 128) (g : Gate) (pd pa pb : Fin 8) (a b : Fin 16) (x y : Fin 4) (imm : BitVec 16) (cc : Cond) (op : PredOp),
    WritesP (.cmp n g pd a b cc) n g pd (fun i => condD cc (i.dr a) (i.dr b)) ∧
    WritesP (.cmpi n g pd a cc imm) n g pd
      (fun i => condD cc (i.dr a) (if cc = .ltu ∨ cc = .geu then imm.setWidth 32 else imm.signExtend 32)) ∧
    WritesP (.acmp n g pd x y cc) n g pd (fun i => condA cc (i.ar x) (i.ar y)) ∧
    WritesP (.plog n g pd pa pb op) n g pd (fun i => predOp op (i.nd.pred pa) (i.nd.pred pb))

/-- The multipliers: each accumulator an instruction names takes the accumulate mode's sum of its exact products under
R32, and the others stay; a product of −1 × −1 is clamped, and it and a sum that leaves 80 bits set their sticky bits and count
once an instruction (R31, R32, R36, R38–R42, R51). -/
def Obligations.NeedleMultiplies : Prop :=
  ∀ (n : Fin 128) (g : Gate) (ad : Fin 4) (md : AccMode) (xq yq : QuadSrc) (sc : ScalarSrc) (xp yp : PairSrc) (x : Fin 16),
    let p (a b : Word) : Int := (product a b).1
    let exact (i : SlotIn) (l : Fin 4) (m : AccMode) (sum : Int) : Int := accStart m (i.ar l) + accSign m sum
    let acc (i : SlotIn) (l : Fin 4) (m : AccMode) (sum : Int) : Acc := (accResult (exact i l m sum) g.sat).1
    let lanes : List (Fin 4) := [0, 1, 2, 3]
    let dot (i : SlotIn) : Int := (lanes.map (fun l => p (i.xQuad xq l) (i.yQuad yq l))).sum
    let cross (i : SlotIn) : List (Word × Word) :=
      [((i.xPair xp).1, (i.yPair yp).1), ((i.xPair xp).2, (i.yPair yp).2), ((i.xPair xp).1, (i.yPair yp).2),
        ((i.xPair xp).2, (i.yPair yp).1)]
    let two (c : Instr) (re im : SlotIn → Int) : Prop :=
      WritesAcc c n g (fun i => (i.nd.acc.set 0 (acc i 0 md (re i))).set 1 (acc i 1 md (im i)))
        (fun i => accMet g.sat (cross i) [exact i 0 md (re i), exact i 1 md (im i)])
    let four (c : Instr) (a b : SlotIn → Fin 4 → Word) : Prop :=
      WritesAcc c n g (fun i => Vector.ofFn (fun l => acc i l md (p (a i l) (b i l))))
        (fun i => accMet g.sat (lanes.map (fun l => (a i l, b i l))) (lanes.map (fun l => exact i l md (p (a i l) (b i l)))))
    WritesAcc (.mac4Dot n g ad md xq yq) n g (fun i => i.nd.acc.set ad (acc i ad md (dot i)))
      (fun i => accMet g.sat (lanes.map (fun l => (i.xQuad xq l, i.yQuad yq l))) [exact i ad md (dot i)]) ∧
    four (.mac4Fan n g md sc yq) (fun i _ => i.scalar sc) (fun i l => i.yQuad yq l) ∧
    four (.mac4Lane n g md xq yq) (fun i l => i.xQuad xq l) (fun i l => i.yQuad yq l) ∧
    two (.cmac n g md xp yp) (fun i => p (i.xPair xp).1 (i.yPair yp).1 - p (i.xPair xp).2 (i.yPair yp).2)
      (fun i => p (i.xPair xp).1 (i.yPair yp).2 + p (i.xPair xp).2 (i.yPair yp).1) ∧
    two (.cmacCj n g md xp yp) (fun i => p (i.xPair xp).1 (i.yPair yp).1 + p (i.xPair xp).2 (i.yPair yp).2)
      (fun i => p (i.xPair xp).2 (i.yPair yp).1 - p (i.xPair xp).1 (i.yPair yp).2) ∧
    WritesAcc (.msq n g ad x) n g (fun i => i.nd.acc.set ad (acc i ad .acc (p (i.dr x) (i.dr x))))
      (fun i => accMet g.sat [(i.dr x, i.dr x)] [exact i ad .acc (p (i.dr x) (i.dr x))])

/-- Accumulator moves, sums and shifts; a sum or a left shift that leaves 80 bits is clamped or wrapped by S, which sets SAT_SEEN
or WRAP_SEEN and counts, and nothing else here meets a condition (R30, R32, R36, R60, R62). -/
def Obligations.NeedleAccumulators : Prop :=
  ∀ (n : Fin 128) (g : Gate) (ad a b : Fin 4) (k : Fin 64) (pc : Fin 8) (x : Fin 16),
    let sum (c : Instr) (v : SlotIn → Int) : Prop :=
      WritesAcc c n g (fun i => i.nd.acc.set ad (accResult (v i) g.sat).1) (fun i => accMet g.sat [] [v i])
    WritesAcc (.lda n g ad x) n g (fun i => i.nd.acc.set ad (BitVec.ofInt 80 ((i.dr x).toInt * 2 ^ 32))) ∧
    WritesAcc (.aclr n g ad) n g (fun i => i.nd.acc.set ad 0) ∧
    sum (.aadd n g ad a b) (fun i => (i.ar a).toInt + (i.ar b).toInt) ∧
    sum (.asub n g ad a b) (fun i => (i.ar a).toInt - (i.ar b).toInt) ∧
    sum (.aasl n g ad a k) (fun i => (i.ar a).toInt * 2 ^ k.val) ∧
    WritesAcc (.aasr n g ad a k) n g (fun i => i.nd.acc.set ad (BitVec.ofInt 80 ((i.ar a).toInt / 2 ^ k.val))) ∧
    WritesAcc (.asel n g ad a b pc) n g (fun i => i.nd.acc.set ad (if i.nd.pred pc then i.ar a else i.ar b))

/-- The six moves of accumulator parts carry bits unchanged: AG is acc[79:64], read sign-extended, AH acc[63:32] and AL
acc[31:0]; a move into AG takes the D register's low 16 bits, the others all 32; the rest of the accumulator stays, and none
of the needle's sticky bits and condition counters changes (R45). -/
def Obligations.AccumulatorPartsMoveBits : Prop :=
  ∀ (n : Fin 128) (g : Gate) (d x : Fin 16) (a : Fin 4),
    (WritesD (.rdag n g d a) n g d (fun i => ((i.ar a).extractLsb' 64 16).signExtend 32) ∧
      WritesD (.rdah n g d a) n g d (fun i => (i.ar a).extractLsb' 32 32) ∧
      WritesD (.rdal n g d a) n g d (fun i => (i.ar a).extractLsb' 0 32) ∧
      WritesAcc (.wrag n g a x) n g (fun i => i.nd.acc.set a ((i.dr x).extractLsb' 0 16 ++ (i.ar a).extractLsb' 0 64)) ∧
      WritesAcc (.wrah n g a x) n g
        (fun i => i.nd.acc.set a ((i.ar a).extractLsb' 64 16 ++ i.dr x ++ (i.ar a).extractLsb' 0 32)) ∧
      WritesAcc (.wral n g a x) n g (fun i => i.nd.acc.set a ((i.ar a).extractLsb' 32 48 ++ i.dr x))) ∧
    ∀ c ∈ [Instr.rdag n g d a, .rdah n g d a, .rdal n g d a, .wrag n g a x, .wrah n g a x, .wral n g a x],
      ∀ s, c.wf = true → Executes c s n g → Answers c s fun t =>
        ∀ k, 0x20 ≤ k → k < 0x28 → t.obj (ndlObj n.val k) = s.obj (ndlObj n.val k)

/-- Write-backs, which set SAT_SEEN or WRAP_SEEN and count where a word is clamped or wrapped, and loads of fetched lanes and
quads, which meet no condition (R33, R36, R38, R60). -/
def Obligations.NeedleWriteBacksAndLoads : Prop :=
  ∀ (n : Fin 128) (g : Gate) (d : Fin 16) (a q l : Fin 4),
    let wb (i : SlotIn) (m : Fin 4) : Word := (writeback (i.ar m).toInt g.sat i.full).1
    let quad (i : SlotIn) (w : Fin 4 → Word) : Vector Word 16 :=
      (((i.nd.d.set (quadReg q 0) (w 0)).set (quadReg q 1) (w 1)).set (quadReg q 2) (w 2)).set (quadReg q 3) (w 3)
    WritesD (.wb n g d a) n g d (fun i => wb i a) (fun i => wbMet g.sat i.full [(i.ar a).toInt]) ∧
    WritesDs (.wb4 n g q) n g (fun i => quad i (wb i))
      (fun i => wbMet g.sat i.full [(i.ar 0).toInt, (i.ar 1).toInt, (i.ar 2).toInt, (i.ar 3).toInt]) ∧
    WritesD (.ldx n g d l) n g d (fun i => i.nd.xw (i.xe / 4 * 4 + l.val)) ∧
    WritesD (.ldy n g d l) n g d (fun i => i.nd.yw (i.ye / 4 * 4 + l.val)) ∧
    WritesDs (.ldqx n g q) n g (fun i => quad i (fun m => i.nd.xw (i.xe / 4 * 4 + m.val))) ∧
    WritesDs (.ldqy n g q) n g (fun i => quad i (fun m => i.nd.yw (i.ye / 4 * 4 + m.val)))

/-- The butterfly writes two D pairs with the write-backs of a ± w·b, halved for BFLY.H; a product clamp and a word that is
clamped or wrapped set their sticky bits and count (R36, R43, R61). -/
def Obligations.NeedleButterflies : Prop :=
  ∀ (n : Fin 128) (g : Gate) (dm dk : Fin 8) (a b w : PairSrc),
    let p (x y : Word) : Int := (product x y).1
    let tr (i : SlotIn) : Int := p (i.yPair w).1 (i.xPair b).1 - p (i.yPair w).2 (i.xPair b).2
    let ti (i : SlotIn) : Int := p (i.yPair w).1 (i.xPair b).2 + p (i.yPair w).2 (i.xPair b).1
    let ar (i : SlotIn) : Int := (i.xPair a).1.toInt * 2 ^ 32
    let ai (i : SlotIn) : Int := (i.xPair a).2.toInt * 2 ^ 32
    let h (half : Bool) (v : Int) : Int := if half then v / 2 else v
    let out (half : Bool) (i : SlotIn) : Vector Word 16 :=
      let f (v : Int) : Word := (writeback (h half v) g.sat i.full).1
      (((i.nd.d.set (pairReg dm 0) (f (ar i + tr i))).set (pairReg dm 1) (f (ai i + ti i))).set (pairReg dk 0)
        (f (ar i - tr i))).set (pairReg dk 1) (f (ai i - ti i))
    let met (half : Bool) (i : SlotIn) : Flags :=
      (accMet g.sat [((i.yPair w).1, (i.xPair b).1), ((i.yPair w).2, (i.xPair b).2), ((i.yPair w).1, (i.xPair b).2),
        ((i.yPair w).2, (i.xPair b).1)] []).or
        (wbMet g.sat i.full [h half (ar i + tr i), h half (ai i + ti i), h half (ar i - tr i), h half (ai i - ti i)])
    WritesDs (.bfly n g dm dk a b w) n g (out false) (met false) ∧ WritesDs (.bflyH n g dm dk a b w) n g (out true) (met true)

/-- LOG2, EXP2 and RSQE (R44, R46, R47), of every operand: outside their domain the result the rule names, and inside it the
interpolation between two entries of their tables, or for RSQE the entry scaled, by the exact steps of the rule. An operand of
LOG2 or RSQE that is not positive sets DOMAIN_SEEN, and one of EXP2 that is not negative and an estimate of RSQE past the
largest word set SAT_SEEN, whatever S is; each counts (R36). -/
def Obligations.NeedleExponentials : Prop :=
  ∀ (n : Fin 128) (g : Gate) (d a : Fin 16),
    WritesD (.log2 n g d a) n g d (fun i =>
      let x := (i.dr a).toInt
      if x ≤ 0 then 0x80000000#32
      else
        let e := Nat.log2 x.toNat
        let m := x.toNat * 2 ^ (30 - e) - 2 ^ 30
        let lo := log2Table.getD (m / 2 ^ 24) 0
        let hi := log2Table.getD (m / 2 ^ 24 + 1) 0
        BitVec.ofInt 32 (((e : Int) - 31) * 2 ^ 26 + lo + ((hi - lo) * ((m % 2 ^ 24 : Nat) : Int) + 2 ^ 23) / 2 ^ 24))
      (fun i => ⟨false, false, false, decide ((i.dr a).toInt ≤ 0)⟩) ∧
    WritesD (.exp2 n g d a) n g d (fun i =>
      let y := (i.dr a).toInt
      if 0 ≤ y then 0x7FFFFFFF#32
      else
        let k := y / 2 ^ 26
        let f := y - k * 2 ^ 26
        let lo := exp2Table.getD (f / 2 ^ 20).toNat 0
        let hi := exp2Table.getD ((f / 2 ^ 20).toNat + 1) 0
        BitVec.ofInt 32 ((lo + ((hi - lo) * (f % 2 ^ 20) + 2 ^ 19) / 2 ^ 20) / 2 ^ (-k - 1).toNat))
      (fun i => ⟨decide (0 ≤ (i.dr a).toInt), false, false, false⟩) ∧
    (let y (i : SlotIn) : Int :=
      let x := (i.dr a).toInt.toNat
      let k := 30 - Nat.log2 x
      let u := x * 2 ^ k
      rsqeTable.getD ((if k % 2 = 0 then u else u / 2) / 2 ^ 23 - 64) 0 * 2 ^ (k / 2)
    WritesD (.rsqe n g d a) n g d
      (fun i => if (i.dr a).toInt ≤ 0 then 0x7FFFFFFF#32 else BitVec.ofInt 32 (min (y i) (2 ^ 31 - 1)))
      (fun i => ⟨decide (0 < (i.dr a).toInt) && decide (2 ^ 31 ≤ y i), false, false, decide ((i.dr a).toInt ≤ 0)⟩)) ∧
    log2Table.length = 65 ∧ exp2Table.length = 65 ∧ rsqeTable.length = 192 ∧ log2Table.head? = some 0 ∧
      log2Table.getLast? = some (2 ^ 26) ∧ exp2Table.head? = some (2 ^ 30) ∧ exp2Table.getLast? = some (2 ^ 31)

/-- TLU, DIVS, GLIDE and MPEAK (R48–R51): TLU the interpolation between two words of a table in Y memory, DIVS one step of
restoring division, GLIDE one move of Dv toward Dt with its arrival predicate, MPEAK the larger of Dm and a magnitude. DIVS sets
DOMAIN_SEEN and counts where its divisor is not positive or its remainder negative; the others meet no condition (R36). -/
def Obligations.NeedleTableDivisionGlide : Prop :=
  ∀ (n : Fin 128) (g : Gate) (d q p v t st m x : Fin 16) (r yp : Fin 4) (pk : Fin 8),
    WritesD (.mpeak n g m x) n g m (fun i =>
      BitVec.ofInt 32 (max (i.dr m).toInt (min (2 ^ 31 - 1) (if (i.dr x).toInt < 0 then -(i.dr x).toInt else (i.dr x).toInt)))) ∧
    WritesD (.tlu n g d p yp) n g d (fun i =>
      let pt := i.nd.yp[yp]
      let pos := (i.dr p).toNat
      let t0 := (i.nd.yw (pt.b.toNat + pos / 65536 % pt.len)).toInt
      let t1 := (i.nd.yw (pt.b.toNat + (pos / 65536 + 1) % pt.len)).toInt
      BitVec.ofInt 32 (t0 + ((t1 - t0) * ((pos % 65536 : Nat) : Int) + 2 ^ 15) / 2 ^ 16)) ∧
    (∀ s, Executes (.divs n g q r d) s n g → (Instr.divs n g q r d).wf = true → Answers (.divs n g q r d) s fun u =>
      let a := s.needle n.val
      let b := u.needle n.val
      let rem := (a.acc[r]).toInt
      let dd := (a.d[d]).toInt * 2 ^ 32
      let q2 := 2 * (a.d[q]).toNat
      (b.d = a.d.set q (BitVec.ofNat 32 (if dd ≤ 0 then q2 + 1 else if rem < 0 then q2 else if dd ≤ 2 * rem then q2 + 1 else q2)) ∧
        b.acc = a.acc.set r (if dd ≤ 0 ∨ rem < 0 ∨ dd ≤ rem then a.acc[r]
          else BitVec.ofInt 80 (if dd ≤ 2 * rem then 2 * rem - dd else 2 * rem))) ∧
        b.p = a.p ∧ b.m = a.m ∧ Retired a b g ∧ SameMem a b ∧ SameElse s u ∧
        Conditions n ⟨false, false, false, decide (dd ≤ 0) || decide (rem < 0)⟩ s u) ∧
    (∀ s, Executes (.glide n g v t st pk) s n g → (Instr.glide n g v t st pk).wf = true →
      Answers (.glide n g v t st pk) s fun u =>
      let a := s.needle n.val
      let b := u.needle n.val
      let from_ := (a.d[v]).toInt
      let to_ := (a.d[t]).toInt
      let step : Int := (a.d[st]).toNat
      let w : Int := if from_ < to_ then min (from_ + step) to_ else max (from_ - step) to_
      b.d = a.d.set v (BitVec.ofInt 32 w) ∧
        (∀ k : Fin 8, b.pred k = if k = pk ∧ k.val < 7 then decide (w = to_) else a.pred k) ∧
        b.acc = a.acc ∧ b.m = a.m ∧ Retired a b g ∧ SameMem a b ∧ SameElse s u ∧ Conditions n .none s u)

/-- The pointer and modifier instructions (R57, R58). That one that writes a pointer wins over a hold or an indexed access of the
same pointer is the model's reading (log entry 18). -/
def Obligations.NeedlePointers : Prop :=
  ∀ (n : Fin 128) (g : Gate) (p : Fin 8) (imm : BitVec 14) (imm15 : BitVec 15) (imm16 : BitVec 16) (x d : Fin 16)
    (blk : Fin 256) (m : Fin 8),
    WritesPtr (.seta n g p imm) n g p (fun _ q => { q with a := imm }) ∧
    WritesPtr (.setaD n g p x) n g p (fun i q => { q with a := q.b + BitVec.ofNat 14 ((i.dr x).toNat % 16384 % q.len) }) ∧
    WritesPtr (.setb n g p imm) n g p (fun _ q => { q with b := imm }) ∧
    WritesPtr (.setbP n g p blk) n g p
      (fun i q => { q with b := BitVec.ofNat 14 (i.nd.pageBase blk.val), a := BitVec.ofNat 14 (i.nd.pageBase blk.val) }) ∧
    WritesPtr (.setl n g p imm15) n g p (fun _ q => { q with l := imm15 }) ∧
    WritesD (.rdp n g d p) n g d (fun i => BitVec.ofNat 32 ((i.nd.ptr p).a - (i.nd.ptr p).b).toNat) ∧
    (∀ (c : Instr) (v : SlotIn → BitVec 16),
      (c = .setm n g m imm16 ∧ v = fun _ => imm16) ∨ (c = .setmD n g m x ∧ v = fun i => BitVec.ofNat 16 (i.dr x).toNat) →
      ∀ s, c.wf = true → Executes c s n g → Answers c s fun t =>
        let a := s.needle n.val
        let b := t.needle n.val
        b.m = a.m.set m (v (slotIn s n g)) ∧ b.d = a.d ∧ b.acc = a.acc ∧ b.p = a.p ∧ Retired a b g ∧ SameMem a b ∧
          SameElse s t ∧ Conditions n .none s t)

/-- NOP and the stores: the addressed word of X or Y memory alone takes the value; a write-back that is clamped or wrapped sets
SAT_SEEN or WRAP_SEEN and counts (R33, R36, R54, R56, R60). -/
def Obligations.NeedleStores : Prop :=
  ∀ (n : Fin 128) (g : Gate) (a : Fin 4) (x : Fin 16) (s : State),
    let i := slotIn s n g
    let nd := s.needle n.val
    let wb := (writeback (i.ar a).toInt g.sat s.full).1
    let store (c : Instr) (y : Bool) (w : Word) (f : Flags) : Prop :=
      c.wf = true → Executes c s n g → Answers c s fun t =>
        let b := t.needle n.val
        (∀ e, b.xw e = if y = false ∧ e % 16384 = i.xe % 16384 then w else nd.xw e) ∧
        (∀ e, b.yw e = if y = true ∧ e % 16384 = i.ye % 16384 then w else nd.yw e) ∧
        b.prog = nd.prog ∧ b.inlet = nd.inlet ∧ b.outlet = nd.outlet ∧ b.seam = nd.seam ∧ KeepsRegs nd b g ∧ SameElse s t ∧
          Conditions n f s t
    let met : Flags := wbMet g.sat s.full [(i.ar a).toInt]
    store (.stx n g x) false (i.dr x) .none ∧ store (.sty n g x) true (i.dr x) .none ∧ store (.staX n g a) false wb met ∧
      store (.staY n g a) true wb met ∧
      ((Instr.nop n g).wf = true → Executes (.nop n g) s n g → Answers (.nop n g) s fun t =>
        KeepsRegs nd (t.needle n.val) g ∧ SameMem nd (t.needle n.val) ∧ SameElse s t ∧ Conditions n .none s t)

/-- Windows and seams: IN and INQ read inlet words, OUT, OUTQ and SOUT write the outlet window and the seam-out alone, SOUT with
good parity, and SIN and a SINF whose word has been released read a seam: a word of bad parity, found so now or before, is
replaced by the other bank's, else by 0, counts so alone, and stays bad; SIN counts a word of another publication than the
stitch before's as held (R65–R67, R358, R363). -/
def Obligations.NeedleWindowsAndSeams : Prop :=
  ∀ (n : Fin 128) (g : Gate) (d x : Fin 16) (q : Fin 4) (j : Fin 256) (k : Fin 64) (src : Fin 128) (par : SeamPar) (s : State),
    let i := slotIn s n g
    let nd := s.needle n.val
    let pr := s.needle src.val
    WritesD (.inW n g d j) n g d (fun i => look (fun _ => 0) i.nd.inlet j.val) ∧
    WritesDs (.inq n g q j) n g (fun i =>
      let w (m : Fin 4) : Word := look (fun _ => 0) i.nd.inlet ((j.val + m.val) % 256)
      (((i.nd.d.set (quadReg q 0) (w 0)).set (quadReg q 1) (w 1)).set (quadReg q 2) (w 2)).set (quadReg q 3) (w 3)) ∧
    ((Instr.outW n g x j).wf = true → Executes (.outW n g x j) s n g → Answers (.outW n g x j) s fun t =>
      let b := t.needle n.val
      (∀ e, look (fun _ => 0) b.outlet e = if e = j.val then i.dr x else look (fun _ => 0) nd.outlet e) ∧
        b.x = nd.x ∧ b.y = nd.y ∧ b.inlet = nd.inlet ∧ b.seam = nd.seam ∧ KeepsRegs nd b g ∧ SameElse s t) ∧
    ((Instr.outq n g q j).wf = true → Executes (.outq n g q j) s n g → Answers (.outq n g q j) s fun t =>
      let b := t.needle n.val
      (∀ e : Fin 256, look (fun _ => 0) b.outlet e.val =
        if h : j.val ≤ e.val ∧ e.val < j.val + 4 then i.dr (quadReg q ⟨e.val - j.val, by omega⟩) else look (fun _ => 0) nd.outlet e.val) ∧
        b.x = nd.x ∧ b.y = nd.y ∧ b.inlet = nd.inlet ∧ b.seam = nd.seam ∧ KeepsRegs nd b g ∧ SameElse s t) ∧
    ((Instr.sout n g x k).wf = true → Executes (.sout n g x k) s n g → Answers (.sout n g x k) s fun t =>
      let b := t.needle n.val
      (∀ e, look (fun _ => 0) b.seam e = if e = k.val then i.dr x else look (fun _ => 0) nd.seam e) ∧
        b.x = nd.x ∧ b.y = nd.y ∧ b.inlet = nd.inlet ∧ b.outlet = nd.outlet ∧ KeepsRegs nd b g ∧ SameElse s t ∧
        (Unawaited s n → ⟨.own, k.val⟩ ∉ b.seamBad)) ∧
    ((Instr.sin n g d src k par).wf = true → Executes (.sin n g d src k par) s n g → Answers (.sin n g d src k par) s fun t =>
      let bad : Bool := par.bad || pr.seamBad.contains ⟨.pub, k.val⟩
      let other : Bool := par.otherBad || pr.seamBad.contains ⟨.prev, k.val⟩
      let w := if bad = false then look (fun _ => 0) pr.pub k.val else if other = false then look (fun _ => 0) pr.prev k.val else 0
      let held : Bool := nd.run.any (fun r => pr.pubAt.map (· + 1) != some r.stitch)
      (t.needle n.val).d = nd.d.set d w ∧ SameMem nd (t.needle n.val) ∧ Retired nd (t.needle n.val) g ∧ SameElse s t ∧
        (bad = true → ⟨.pub, k.val⟩ ∈ (t.needle src.val).seamBad) ∧
        Counted s t (ndlObj n.val 0x32) 0 (if bad then 1 else 0) ∧
        Counted s t (ndlObj n.val 0x28) 0 (if held && !bad then 1 else 0)) ∧
    (∀ r w, nd.run = some r → pr.fwdWord r.stitch k.val = some w → (Instr.sinf n g d src k par).wf = true →
      Executes (.sinf n g d src k par) s n g → Answers (.sinf n g d src k par) s fun t =>
        let bad : Bool := par.bad || pr.seamBad.contains ⟨.run r.stitch, k.val⟩
        let other : Bool := par.otherBad || pr.seamBad.contains ⟨.pub, k.val⟩
        (t.needle n.val).d = nd.d.set d (if bad = false then w else if other = false then look (fun _ => 0) pr.pub k.val else 0) ∧
          SameMem nd (t.needle n.val) ∧ Retired nd (t.needle n.val) g ∧ SameElse s t ∧
          (bad = true → ⟨.run r.stitch, k.val⟩ ∈ (t.needle src.val).seamBad) ∧
          Counted s t (ndlObj n.val 0x32) 0 (if bad then 1 else 0))

/-- Bobbin loads and stores by the needle that owns the bobbin, with no hand-over in progress: a load takes the bytes it finds
once the accesses that meet it have stored theirs (R156), or 0 where one of them has bad parity; a store that meets no other
access changes its own bytes alone, and heals their parity; of a bobbin it does not own a needle reads 0, stores nothing and is
counted; while the bobbin is being handed to it the needle waits (R69, R148, R152, R154, R360). -/
def Obligations.NeedleBobbins : Prop :=
  ∀ (n : Fin 128) (g : Gate) (d x b : Fin 16) (off : BitVec 12) (rep : BobReport) (s : State), g.ok = true →
    let nd := s.needle n.val
    let db := (nd.d[b]).toNat
    let bob := db / 524288 % 128
    let e := ((Int.ofNat (db % 524288) + off.toInt) % 524288).toNat
    let own := s.bobOwner bob = n.val
    let busy := s.mapBit Obj.handoverBusy bob = true
    let found (two : Bool) : State := (s.markBad bob (bobBytesBad rep e two)).meets n.val (bobMet rep two)
    let load (c : Instr) (two : Bool) (len scale : Nat) : Prop :=
      Executes c s n g → (own → ¬busy) → Answers c s fun t =>
        let f := found two
        let bad : Bool := (List.range len).any (fun k => f.bobBadAt bob (e + k))
        let v : Nat := ((List.range len).map (fun k => (f.bobByte bob (e + k)).toNat * 256 ^ k)).sum * scale
        (t.needle n.val).d = nd.d.set d (if own ∧ bad = false then BitVec.ofNat 32 v else 0) ∧
          KeepsButD nd (t.needle n.val) g ∧ t.pm = s.pm ∧ t.flash = s.flash ∧
          t.bob = (if own then f.bob else s.bob) ∧ (rep.meets = [] → f.bob = s.bob) ∧
          (¬own → Counted s t Obj.accessDeniedHem n.val 1 ∧ t.bobBad = s.bobBad)
    let store (c : Instr) (two : Bool) (len w : Nat) : Prop :=
      Executes c s n g → (own → ¬busy) → Answers c s fun t =>
        KeepsRegs nd (t.needle n.val) g ∧ SameMem nd (t.needle n.val) ∧ t.pm = s.pm ∧ t.flash = s.flash ∧
          (¬own → Counted s t Obj.accessDeniedHem n.val 1) ∧
          (bobMet rep two = [] ∨ ¬own → ∀ b' y, b' < 128 → y < 524288 →
            let inside := own ∧ b' = bob ∧ (y + 524288 - e) % 524288 < len
            t.bobByte b' y = (if inside then BitVec.ofNat 8 (w / 256 ^ ((y + 524288 - e) % 524288)) else s.bobByte b' y) ∧
              (inside → t.bobBadAt b' y = false)) ∧
          (∀ m, bobMet rep two = [m] → own → ∀ a en v, m.write = some (a, en, v) → ∀ k : Fin 4, en.getLsbD k.val = true →
            t.bobByte m.bobbin.val (4 * a.toNat + k.val) = BitVec.ofNat 8 (v.toNat / 256 ^ k.val))
    let wait (c : Instr) : Prop := Executes c s n g → own → busy → Answers c s fun t =>
      t.needle n.val = { nd with wait := .bob bob } ∧ t.bob = s.bob ∧ t.regs = s.regs ∧ SameElse s t
    (load (.bldW n g d b off rep) (decide (e % 4 ≠ 0)) 4 1 ∧ load (.bldT n g d b off rep) (decide (1 < e % 4)) 3 256 ∧
      store (.bstW n g x b off rep) (decide (e % 4 ≠ 0)) 4 (nd.d[x]).toNat ∧
      store (.bstT n g x b off rep) (decide (1 < e % 4)) 3 ((nd.d[x]).toNat / 256)) ∧
    wait (.bldW n g d b off rep) ∧ wait (.bldT n g d b off rep) ∧ wait (.bstW n g x b off rep) ∧ wait (.bstT n g x b off rep)

/-- An instruction that does not execute, by its predicate or because its slot is gated, takes its slot, updates its pointers
and does nothing else: no sticky bit, no counter and no bobbin changes (R53). What the retirement of a release slot does for a
needle that waits for its word (R67) alone is left to R67. -/
def Obligations.PredicatedOffChangesPointersOnly : Prop :=
  ∀ (c : Instr) (n : Fin 128) (op : Nat) (g : Gate) (o : Nat) (s : State),
    c.needle? = some n → opOf c = some (op, g, o) → c.wf = true → AtSlot c s n g → s.slotOpen n.val g = false →
    Answers c s fun t =>
      KeepsRegs (s.needle n.val) (t.needle n.val) g ∧ SameMem (s.needle n.val) (t.needle n.val) ∧ SameElse s t ∧
        Conditions n .none s t ∧ t.bobBad = s.bobBad ∧ t.blobs = s.blobs ∧ t.out = s.out ∧ t.free = s.free ∧
        (Unawaited s n → t.regs = s.regs)

/-- A slot whose fetch meets bad parity waits for its refetch and does nothing else; the refetch of X, Y or program
words ends the wait (R361, R362). -/
def Obligations.RefetchesEndTheWait : Prop :=
  (∀ (c : Instr) (n : Fin 128) (op : Nat) (g : Gate) (o : Nat) (s : State),
    c.needle? = some n → opOf c = some (op, g, o) → c.wf = true → s.phase = .running → s.pleatOn (n.val / 8) = true →
    (s.needle n.val).wait = .none → (s.needle n.val).comesTo c = true → g.fetch ≠ .good →
    Answers c s fun t => (t.needle n.val) = { s.needle n.val with wait := fetchWait g.fetch } ∧ t.regs = s.regs ∧ SameElse s t) ∧
  (∀ (dt : Nat) (n : Fin 128) (y : Bool) (e : BitVec 14) (twinOk recordOk imageOk : Bool) (s : State),
    s.phase = .running → (s.needle n.val).wait = .xy y →
    Answers (.xyRefetchDone dt n y e twinOk recordOk imageOk) s fun t =>
      (t.needle n.val).wait = .none ∧ (t.needle n.val).d = (s.needle n.val).d ∧
      (∀ q, q ≠ e.toNat % 16384 → (t.needle n.val).memWord y q = (s.needle n.val).memWord y q ∨ 16384 ≤ q) ∧
      (∀ q, (t.needle n.val).memWord (!y) q = (s.needle n.val).memWord (!y) q)) ∧
  (∀ (dt : Nat) (n : Fin 128) (imageOk patternOk : Bool) (s : State),
    s.phase = .running → (s.needle n.val).wait = .prog → imageOk = true ∨ patternOk = true →
    Answers (.progRefetchDone dt n imageOk patternOk) s fun t =>
      (t.needle n.val).wait = .none ∧ (t.needle n.val).d = (s.needle n.val).d ∧ (t.needle n.val).run = (s.needle n.val).run)


/-! ## The stitch, the Tape and the regulator -/

/-- A strobe whose grid crossing has come starts the next stitch (R16, R73, R74, R210): STITCH_NOW advances by one, its time is
marked, and no deadline of it has come; at a quiet strobe every placed needle at rest starts a run of it, with the stitch's
number in its stitch counter, and every other needle keeps its run and its stitch counter (R29). -/
def Obligations.StrobeStartsNextStitch : Prop :=
  ∀ dt : Nat, Does (.stitchStrobe dt) dt (fun u => u.strobeDue = true) (fun u t =>
    t.stitch = u.stitch + 1 ∧ t.deadlineOf = none ∧ t.clk.strobeUp = u.clk.up ∧ t.clk.up = u.clk.up ∧
      t.clk.strobeTb = crossingTime u.nextStrobe u.nextRate ∧ t.pending = u.pending ∧ t.flash = u.flash ∧
      (QuietStrobe u → ∀ n : Fin 128,
        let a := u.needle n.val
        let b := t.needle n.val
        if n.val ∈ u.placedNeedles ∧ a.run = none ∧ a.fill = .none then
          b.run = freshRun (u.stitch + 1) a ∧ b.stc = BitVec.ofNat 64 (u.stitch + 1) ∧ b.wait = .none
        else b.run = a.run ∧ b.stc = a.stc))

/-- The inlet cutoff (R13): 160 ns before the strobe the open bank closes, with the words the Shuttles wrote; every one of a
Shuttle's 4 096 entries that has not been written counts once in that Shuttle's POOL_LATE, routed to a needle or not (log entry
126). -/
def Sys2Proof.Claim.InletCutoffCloses : Prop :=
  ∀ (dt : Nat) (late : BitVec 16),
    Does (.inletCutoff dt late) dt (fun u => u.fab.inWr.isOpen = true ∧ u.within 160 = true) (fun u t =>
      let missing (lo : Nat) : Nat := ((List.range 4096).filter (fun k => !u.fab.inWr.words.any (fun e => e.1 == lo + k))).length
      t.fab.inWr.isOpen = false ∧ t.fab.inWr.stitch = u.fab.inWr.stitch ∧ (∀ ch, ch < 8192 → t.fab.inWr.word ch = u.fab.inWr.word ch) ∧
        Counted u t Obj.poolLate 0 (missing 0) ∧ Counted u t (shObj 1 Obj.poolLate) 0 (missing 4096) ∧
        t.fab.inRd = u.fab.inRd ∧ t.ndl = u.ndl ∧ t.fab.outBanks = u.fab.outBanks)

/-- Inlet distribution (R13, R15, R83): the closed bank becomes the readable one and the next opens; the window of every placed
needle at rest takes its routes' words, and the fill of one that runs is deferred. A deferred fill that is done fills the
window from the bank distributed, and the run of a stitch whose strobe has passed starts late and counts. -/
def Sys2Proof.Claim.InletDistributionFills : Prop :=
  ∀ (dt : Nat) (n : Fin 128),
    Does (.inletDistribution dt) dt (fun u => u.fab.inWr.isOpen = false ∧ u.within 160 = true) (fun u t =>
      t.fab.inRd = u.fab.inWr ∧ t.fab.inWr = ⟨u.fab.inWr.stitch + 1, true, [], []⟩ ∧ t.fab.outBanks = u.fab.outBanks ∧
        (n.val ∈ u.placedNeedles → (u.needle n.val).fill = .none →
          if (u.needle n.val).run = none then
            (t.needle n.val).filledFor = some u.fab.inWr.stitch ∧ WindowHolds u u.fab.inWr n.val (t.needle n.val)
          else (t.needle n.val).fill = .deferred u.fab.inWr.stitch ∧ (t.needle n.val).inlet = (u.needle n.val).inlet)) ∧
    (∀ k : Nat, Does (.windowFillDone dt n) dt (fun u => (u.needle n.val).fill = .filling k) (fun u t =>
      (t.needle n.val).fill = .none ∧ (t.needle n.val).filledFor = some k ∧ WindowHolds u u.fab.inRd n.val (t.needle n.val) ∧
        (t.needle n.val).d = (u.needle n.val).d ∧ t.fab = u.fab ∧
        (if k ≤ u.stitch then
          (t.needle n.val).run = freshRun k (u.needle n.val) ∧ (t.needle n.val).stc = BitVec.ofNat 64 k ∧
            Counted u t (ndlObj n.val 7) 0 1
        else (t.needle n.val).run = (u.needle n.val).run ∧ (t.needle n.val).stc = (u.needle n.val).stc)))

/-- The deadline, 320 ns before the strobe (R14, R15, R74, R84): the stitch's outlet bank is collected and of the banks before
it one is kept; in FULL service the entry of a channel whose piece's copies do not differ is its needle's outlet word where the
needle's run of the stitch is complete, and else the entry before; a placed needle whose run is not complete overruns. -/
def Sys2Proof.Claim.DeadlineCollectsTheOutletBank : Prop :=
  ∀ dt : Nat, Does (.deadline dt) dt (fun u => u.within 320 = true ∧ u.deadlineOf ≠ some u.stitch) (fun u t =>
    t.deadlineOf = some u.stitch ∧ t.fab.outBanks.tail = u.fab.outBanks.take 1 ∧
      (t.fab.outBanks.head?).map (·.stitch) = some u.stitch ∧ t.fab.inRd = u.fab.inRd ∧ t.fab.inWr = u.fab.inWr ∧
      (u.level = 0 → u.pw.hush = false → u.pw.reload = false → ∀ r, r ∈ u.fab.routesOut → r.second = false →
        (∀ q, q ∈ u.fab.routesOut → q.second = false → q.ch = r.ch → q = r) → u.twinMismatch u.stitch r.piece = false →
        (t.fab.outBanks.head?).map (·.word r.ch) = some
          (if (u.needle r.needle).doneFor = some u.stitch ∧ u.copyLive r.piece r.second = true then
            look (fun _ => 0) (u.needle r.needle).outlet (r.word % 256)
          else ((u.fab.outBanks.head?).map (·.word r.ch)).getD 0)) ∧
      (∀ n, n < 128 → u.placedNeedles.count n = 1 → (u.needle n).doneFor ≠ some u.stitch → Counted u t (ndlObj n 5) 0 1))

/-- A run that has retired every slot ends (R63, R66, R79–R81, R84): its needle is at rest, its time in half nanoseconds, at
most 0xFFFF, is NDL_LAST_DONE, and NDL_MAX_DONE_HEM and NDL_MIN_MARGIN_HEM take it in; a deferred fill begins, and the runs passed over are skipped
(R83, R85); it is in time exactly while its stitch is in progress and that stitch's deadline has not come, and then publishes
its seam words but for those of gated slots. -/
def Sys2Proof.Claim.RunsEnd : Prop :=
  ∀ (dt : Nat) (n : Fin 128) (tm : Nat) (r : Run),
    Does (.runComplete dt n tm) dt
      (fun u => (u.needle n.val).run = some r ∧ (u.needle n.val).ranOut = true ∧
        (∀ m, m ∈ u.last.migs → m.src = n.val → ∀ c, c ∈ m.copies → c.needle ≠ n.val))
      (fun u t =>
        let a := u.needle n.val
        let b := t.needle n.val
        let c := min (tm / 500) 0xFFFF
        b.run = none ∧
          ((∀ k, a.fill ≠ .deferred k) → t.nat (ndlObj n.val 2) = c ∧ t.nat (ndlObj n.val 3) = max (u.nat (ndlObj n.val 3)) c ∧
            t.obj (ndlObj n.val 4) = min (u.obj (ndlObj n.val 4)) ((1000 * ((u.windowOf r.stitch : Int) - c)).fdiv (u.windowOf r.stitch)) ∧
            b.fill = a.fill) ∧
          (∀ k, a.fill = .deferred k → b.fill = .filling u.fab.inRd.stitch ∧ Counted u t (ndlObj n.val 6) 0 (u.fab.inRd.stitch - k)) ∧
          if r.stitch = u.stitch ∧ u.deadlineOf ≠ some r.stitch then
            b.pub = a.published (u.gatedSeams n.val) ∧ b.prev = a.pub ∧ b.pubAt = some r.stitch ∧ b.doneFor = some r.stitch
          else b.pub = a.pub ∧ b.prev = a.prev ∧ b.doneFor = a.doneFor)

/-- A fitting of 256 stitches ends at the first strobe of the next (R82): the Tape reports its first stitch, the smallest margin
of each pleat that is powered at its end (the model's choice of the moment, log entry 127) and their minimum, none where service
or rate changed inside it, and readings start anew. -/
def Sys2Proof.Claim.FittingReports : Prop :=
  ∀ dt : Nat, Does (.fittingEnd dt) dt (fun u => u.stitch % 256 = 0 ∧ u.stitch ≠ 0) (fun u t =>
    let reading (p : Nat) : Int := if u.pleatOn p then look (fun _ => 32767) u.fab.fitMin p else 32767
    t.nat Obj.fitStitch = u.stitch - 256 ∧ t.fab.fitMin = [] ∧ t.fab.changedInFit = false ∧
      (∀ p : Fin 16, t.obj Obj.pleatFitMargin p.val = reading p.val) ∧
      t.obj Obj.fitMargin = (if u.fab.changedInFit then 32767
        else (((u.fab.fitMin.filter (fun e => u.pleatOn e.1)).map (·.2)).min?).getD 32767) ∧ t.stitch = u.stitch)

/-- The voltage loop (R87, R89, R90): an acknowledged write is VCORE_NOW; a write unanswered is sent once more and then
sets FAULT; an emergency's shed is due at the next strobe, and takes the pieces of the pleats that floor hits have named since
the emergency began (the model's choice, log entry 180). -/
def Obligations.RegulatorAnswers : Prop :=
  ∀ dt : Nat,
    Does (.avsAck dt) dt (fun u => u.fab.avs ≠ []) (fun u t =>
      (u.fab.avs.head?).map (·.mv) = some (t.nat Obj.vcoreNow) ∧ t.fab.avs = u.fab.avs.tail) ∧
    Does (.avsAckTimeout dt) dt (fun u => u.fab.avs ≠ []) (fun u t =>
      ∀ a l, u.fab.avs = a :: l →
        if a.retry then t.avsFault = true ∧ t.fab.avs = l ∧ t.nat Obj.vcoreNow = u.nat Obj.vcoreNow
        else t.fab.avs = { a with retry := true } :: l ∧ t.out = .avsWrite (u.field Obj.strapState 0 3 2) a.mv :: u.out ∧ t.regs = u.regs) ∧
    Does (.shed dt) dt (fun u => u.fab.shedPending = true ∧ ∀ l, Due.shed l ∉ u.fab.due) (fun u t =>
      t.fab.due = u.fab.due ++ [.shed u.shedPieces] ∧ t.regs = u.regs ∧ t.ndl = u.ndl ∧ t.last = u.last)

/-- A hem boundary that has been reached latches every hem value into the readable bank, restarts the live ones, and names
the hem that ended, whose bank is swapped at the boundary's time (R367–R369). -/
def Obligations.HemBoundaryLatches : Prop :=
  ∀ dt : Nat, Does (.hemBoundary dt) dt (fun u => u.hemReached = true ∧ canonical (objRest u.e16) u.regs = true)
    (fun u t =>
      t.nat Obj.hemSeq = (u.nat Obj.hemSeq + 1) % 2 ^ 32 ∧ t.nat Obj.hemSnapSeq = u.nat Obj.hemSeq ∧
      t.nat Obj.hemSnapStitch 0 = u.hem.first ∧ t.nat Obj.hemSnapStitch 1 = u.stitch + 1 ∧ t.hem.n = u.nat Obj.hemSeconds ∧
      t.hem.first = u.stitch + 1 ∧ t.hem.swaps = u.now :: u.hem.swaps.take 1 ∧
      (∀ num i, isHem num = true → i < 2048 → t.obj (snapOf num) i = u.obj num i) ∧
      (∀ num i, isHem num = true → i < 2048 → t.obj num i = objRest t.e16 (objKey num i)) ∧
      t.stitch = u.stitch ∧ t.ndl = u.ndl ∧ t.fab = u.fab)

/-! ## Writes -/

/-- A write that is refused changes no object but the count of operations and, of a core's, its status: the element, the
memories and the subsystems stand as they were (R240). -/
def Sys2Proof.Claim.RefusedWriteChangesNothing : Prop :=
  ∀ (dt : Nat) (w : Writer) (num : BitVec 25) (first : BitVec 16) (ty : Byte) (l : List Byte) (s : State), s.phase = .running →
    let u := tick dt s
    let q : WReq := ⟨num.toNat, first.toNat, u.countOf num.toNat l.length, ty.toNat, l⟩
    (u.write1 w q).1 ≠ St.ok → Answers (.objectWrite dt w num first ty l) s fun t =>
      t.bob = u.bob ∧ t.pm = u.pm ∧ t.flash = u.flash ∧ t.ndl = u.ndl ∧ t.last = u.last ∧ t.baste = u.baste ∧ t.fab = u.fab ∧
        t.blobs = u.blobs ∧ t.dict = u.dict ∧ t.phase = .running ∧
        ∀ m i, i < 2048 → isHem m = false → (m < Obj.ccWstatus0 ∨ Obj.ccWstatus0 + 4 ≤ m) → t.obj m i = u.obj m i

/-- The first status in R240's order decides: a number with no object, no right, a wrong form, a value out of range. -/
def Sys2Proof.Claim.WriteStatusOrder : Prop :=
  ∀ (w : Writer) (q : WReq) (after : Nat → Nat → Nat) (s : State),
    (s.desc? q.num = none → (s.objWrite w q after).1 = St.notPresent) ∧
    ∀ d, s.desc? q.num = some d →
      (d.rightCheck w q ≠ St.ok → (s.objWrite w q after).1 = d.rightCheck w q) ∧
      (d.rightCheck w q = St.ok → d.typeCheck q ≠ St.ok → (s.objWrite w q after).1 = St.type) ∧
      (d.rightCheck w q = St.ok → d.typeCheck q = St.ok → d.rangeCheck q ≠ St.ok → (s.objWrite w q after).1 = St.range)

/-- The numbers of Shuttle objects whose writes do more than keep their value: stream enables, map commits, the pair mode, the
VLAN, the addresses and the gains. -/
def Sys2Proof.Claim.shActs (c : Nat) : Bool :=
  [Obj.shRxEnable, Obj.shTxEnable, Obj.shRxMapCommit, Obj.shTxMapCommit, Obj.shPairMode, Obj.shVlan, Obj.shIp, Obj.shGateway].contains c ||
    (decide (Obj.shRxGain0 ≤ c) && decide (c < Obj.shRxGain0 + 16)) || (decide (Obj.shTxGain0 ≤ c) && decide (c < Obj.shTxGain0 + 16))

/-- The numbers whose writes are commands, or do more than keep their value; every other writable object of the device only
holds what it is given. -/
def Sys2Proof.Claim.actsOnWrite (num : Nat) : Bool :=
  let among (base k : Nat) : Bool := decide (base ≤ num) && decide (num < base + k)
  isGroupTable num || isSlot num || (shOf num).any (fun e => shActs e.2) || Obj.canon num == 0xC001 ||
    among Obj.ccCommitGo0 4 || among Obj.dictCcSub0 4 || among Obj.dictCcRingBase0 4 || among Obj.dictCcRingLen0 4 ||
    among Obj.ccTackGo0 4 || among Obj.thmOp0 4 || among Obj.univCfg0 32 || among Obj.rdmCmd0 8 ||
    [Obj.commitCancel, Obj.sessKick, Obj.lcAdvance, Obj.powerCmd, Obj.resetCmd, Obj.ccReset, Obj.testCmd, Obj.debugOpen, Obj.rtcNow,
      Obj.vcoreMin, Obj.placeCmd, Obj.patStageData, Obj.resourceMap, Obj.bobbinMap, Obj.bobbinOwner, Obj.tdmMapCommit, Obj.tdmCfg,
      Obj.ptpProfile, Obj.tbSet, Obj.tbRole, Obj.tbTimeSrc, Obj.ptpPortCfg, Obj.clkCfg, Obj.clkPhase, Obj.dmxCfg, Obj.rdmDiscover,
      Obj.t1sCfg, Obj.dmaGo, Obj.dmaStop, Obj.accept, Obj.keyRevoke, Obj.measExtGo, Obj.updCmd, Obj.updData, Obj.safeStageData,
      Obj.safeWrite, Obj.coreRelease, Obj.serMGo, Obj.oscMapEntry].contains num

/-- An accepted write of an element of any readable device object that keeps what is written (R240): the element takes the value,
by the masks of R7, R8, R37 and R86, and no other element, no memory and no unit changes but what counts and journals it. -/
def Sys2Proof.Claim.ObjectWriteStores : Prop :=
  ∀ (dt : Nat) (w : Writer) (num : BitVec 25) (i : BitVec 16) (v : Int) (d : ODesc) (s : State), s.phase = .running →
    let u := tick dt s
    let q : WReq := ⟨num.toNat, i.toNat, 1, d.code, d.ty.encode v⟩
    u.desc? num.toNat = some d → d.ty.isBytes = false → d.wo = false → u.param? num.toNat = none → actsOnWrite num.toNat = false →
    d.ty.decode (d.ty.encode v) = v → (u.write1 w q).1 = St.ok →
    Answers (.objectWrite dt w num i (BitVec.ofNat 8 d.code) (d.ty.encode v)) s fun t =>
      Stored num.toNat i.toNat v u t ∧ t.ndl = u.ndl ∧ t.arb = u.arb ∧ t.bob = u.bob ∧ t.pm = u.pm ∧ t.flash = u.flash ∧
        t.last = u.last ∧ t.fab = u.fab ∧ t.baste = u.baste ∧ t.sh = u.sh ∧ t.ven = u.ven ∧ t.blobs = u.blobs ∧
        ∀ m j, j < 2048 → isHem m = false → m ≠ Obj.journalState → m ≠ Obj.journalUsed → (m ≠ num.toNat ∨ j ≠ i.toNat) →
          t.obj m j = u.obj m j

/-- The elements that keep what is written, with what hangs on them: NDL_STICKY and NDL_TAPE_STATUS clear where a 1 is
written, AVS_STATUS its FAULT, and the limits of VCORE, the clock outputs' phases, TDM, DMX and universe settings, the
resource map and the profile hold the value (R37, R86, R87, R89, R138, R207, R211, R227, R276, R284). -/
def Sys2Proof.Claim.StoredWrites : Prop :=
  ∀ (dt : Nat) (w : Writer),
    let st (num i : Nat) (v : Int) : State → State → Prop := fun u t =>
      Stored num i v u t ∧ t.bob = u.bob ∧ t.pm = u.pm ∧ t.flash = u.flash ∧ t.pending = u.pending
    (∀ (n : Fin 128) (v : BitVec 32), Writes (.ndlStickyWrite dt w n v) dt w (ndlObj n.val 0x20) 0 v.toNat
      (fun u t => Stored (ndlObj n.val 0x20) 0 v.toNat u t ∧ t.ndl = u.ndl ∧
        ∀ b, b < 4 → v.getLsbD b = false → t.bit (ndlObj n.val 0x20) 0 b = u.bit (ndlObj n.val 0x20) 0 b)) ∧
    (∀ (n : Fin 128) (v : BitVec 32), Writes (.ndlTapeStatusWrite dt w n v) dt w (ndlObj n.val 1) 0 v.toNat
      (fun u t => Stored (ndlObj n.val 1) 0 v.toNat u t ∧ t.ndl = u.ndl)) ∧
    (∀ v : BitVec 32, Writes (.avsStatusWrite dt w v) dt w Obj.avsStatus 0 v.toNat (fun u t =>
      Stored Obj.avsStatus 0 v.toNat u t ∧ (v.getLsbD 2 = true → t.avsFault = false) ∧ t.fab = u.fab ∧ t.ndl = u.ndl)) ∧
    (∀ v : BitVec 16, Writes (.vcoreLimitWrite dt w true v) dt w Obj.vcoreMax 0 v.toNat (fun u t =>
      t.nat Obj.vcoreMax = v.toNat ∧ t.nat Obj.vcoreNow = u.nat Obj.vcoreNow ∧ t.fab = u.fab ∧ t.ndl = u.ndl)) ∧
    (∀ v : BitVec 16, Writes (.vcoreLimitWrite dt w false v) dt w Obj.vcoreMin 0 v.toNat (fun u t =>
      t.nat Obj.vcoreMin = v.toNat ∧ t.nat Obj.vcoreNow = u.nat Obj.vcoreNow ∧ t.ndl = u.ndl)) ∧
    (∀ (i : Fin 10) (v : BitVec 16), Writes (.clkPhaseWrite dt w i v) dt w Obj.clkPhase i.val v.toInt
      (st Obj.clkPhase i.val v.toInt)) ∧
    (∀ (p : Fin 16) (v : BitVec 32), Writes (.tdmCfgWrite dt w p v) dt w Obj.tdmCfg p.val v.toNat (st Obj.tdmCfg p.val v.toNat)) ∧
    (∀ (p : Fin 8) (v : BitVec 32), Writes (.dmxCfgWrite dt w true p v) dt w Obj.dmxTiming p.val v.toNat
      (st Obj.dmxTiming p.val v.toNat)) ∧
    (∀ (p : Fin 8) (v : BitVec 32), Writes (.dmxCfgWrite dt w false p v) dt w Obj.dmxCfg p.val v.toNat
      (st Obj.dmxCfg p.val v.toNat)) ∧
    (∀ (n : Fin 32768) (v : BitVec 16), Writes (.univCfgWrite dt w n v) dt w (Obj.univCfg0 + n.val / 1024) (n.val % 1024) v.toNat
      (st (Obj.univCfg0 + n.val / 1024) (n.val % 1024) v.toNat)) ∧
    (∀ (i : Fin 4) (v : BitVec 32), Writes (.resourceMapWrite dt w i v) dt w Obj.resourceMap i.val v.toNat
      (fun u t => st Obj.resourceMap i.val v.toNat u t ∧ t.last.pat = u.last.pat ∧ t.last.copies = u.last.copies)) ∧
    (∀ v : BitVec 8, Writes (.ptpProfileWrite dt w v) dt w Obj.ptpProfile 0 v.toNat (st Obj.ptpProfile 0 v.toNat))

/-! ## Basting -/

/-- Commits (R99–R104, R111, R113): an accepted one is outstanding with its stitch and frozen set, and counts; the page
writer's end marks it copied; a cancel ends it. -/
def Sys2Proof.Claim.CommitLife : Prop :=
  ∀ dt : Nat,
    (∀ (core : Fin 4) (v : BitVec 32),
      let num := Obj.ccCommitGo0 + core.val
      let g := v.toNat % 4096
      Does (.ccCommitGo dt core core v) dt (fun u => wstatus (u.coreWriter core.val) num 0 v.toNat u = St.ok) (fun u t =>
        ∃ c, t.outstanding g = some c ∧ c.copied = false ∧ c.frozen = (u.groupKeys g).map (fun k => (k, look (objRest u.e16) u.regs k)) ∧
          t.nat (Obj.ccCommitResult0 + core.val) = c.stitch ∧ u.stitch + 2 ≤ c.stitch ∧
          (v.getLsbD 12 = false → c.stitch = u.nat (Obj.ccCommitStitch0 + core.val)) ∧ Counted u t Obj.commitAcceptedHem 0 1)) ∧
    Does (.group0Commit dt) dt (fun u => u.group0Differs = true ∧ u.outstanding 0 = none) (fun u t =>
      ∃ c, t.outstanding 0 = some c ∧ c.copied = false ∧ u.stitch + 2 ≤ c.stitch ∧
        c.frozen = (u.groupKeys 0).map (fun k => (k, look (objRest u.e16) u.regs k)) ∧ Counted u t Obj.commitAcceptedHem 0 1) ∧
    (∀ g : Nat, Does (.pageCopyDone dt g) dt
      (fun u => ∃ c, u.baste.commits.find? (fun c => !c.copied) = some c ∧ c.group = g ∧ c.frozen.all (fun e => !u.pageBusy e.1) = true)
      (fun u t => (∀ c, c ∈ t.baste.commits → c.group = g → c.copied = true ∧ c.words = 0) ∧
        (∀ c, c.group ≠ g → (c ∈ t.baste.commits ↔ c ∈ u.baste.commits)) ∧ t.nat Obj.copyBacklog = t.backlog ∧
        t.baste.committed = u.baste.committed)) ∧
    (∀ (w : Writer) (g : BitVec 16), Writes (.commitCancel dt w g) dt w Obj.commitCancel 0 g.toNat (fun u t =>
      t.outstanding g.toNat = none ∧ t.nat (Obj.groupPend0 + g.toNat / 1024) (g.toNat % 1024) = allOnes64 ∧
        t.baste.committed = u.baste.committed ∧ Counted u t Obj.commitCancelledHem 0 1))

/-- A group table's element holds what is written; a member that joins a group has both banks at its value in force
(R98). -/
def Sys2Proof.Claim.GroupTableWrites : Prop :=
  ∀ (dt : Nat) (w : Writer) (num : BitVec 25) (i : Fin 1024) (v : BitVec 16), isGroupTable num.toNat = true →
    Writes (.groupTableWrite dt w num i v) dt w num.toNat i.val v.toNat (fun u t =>
      t.nat num.toNat i.val = v.toNat ∧
      (u.nat num.toNat i.val = 0xFFFF → v.toNat ≠ 0xFFFF → (num.toNat, i.val) ∉ u.baste.leaving →
        ∀ k, k ∈ tableMember num.toNat i.val →
          t.pendVal k = look (objRest u.e16) u.regs k ∧ look (objRest t.e16) t.baste.committed k = look (objRest u.e16) u.regs k) ∧
      (u.nat num.toNat i.val ≠ 0xFFFF → v.toNat = 0xFFFF → Due.unbaste num.toNat i.val ∈ t.fab.due))

/-! ## The Last -/

/-- The Last's placement of a piece to be restored, beside all the others (R131). -/
def Sys2Proof.Claim.restorePlan (u : State) (p : Pattern) (d : PieceDesc) (i : Nat) : Except PlaceErr Plan :=
  placeAll p { u.placeIn with threshold := u.last.threshold }
    ⟨u.plan.copies.filter (fun c => c.piece != i), u.plan.fwd.filter (fun k => !p.touches i k),
      u.plan.spools.filter (fun q => q.piece != i)⟩ ((i, false) :: if d.twin then [(i, true)] else [])

/-- PLACE_CMD (R129, R131, R137): a full placement takes the staged pattern and is busy; a removal, a restore that is placed
and a new tap are due at the next strobe, a restore that finds no place ends with code 13, and a move or a rebalance waits
for the Last's decision. That a new tap and a restore are due at the next strobe, of those within 2 ms, and that a restore is
decided as it is written, is the model's choice (log entries 188, 189). -/
def Sys2Proof.Claim.PlacementCommands : Prop :=
  ∀ (dt : Nat) (w : Writer) (piece : BitVec 12) (target : BitVec 7),
    let i := piece.toNat
    let busy (t : State) : Prop := t.bit Obj.placeStatus 0 31 = true
    let edit (k : Int) (c : Instr) (H : State → Prop) (P : State → State → Prop) : Prop :=
      ∀ s, s.phase = .running → wstatus w Obj.placeCmd 0 k (tick dt s) = St.ok → H (tick dt s) → Answers c s (P (tick dt s))
    edit 1 (.placeFull dt w) (fun _ => True) (fun u t =>
      t.last.stage = 1 ∧ busy t ∧ t.last.startedAt = u.now ∧ t.last.pat = u.last.pat ∧ t.last.copies = u.last.copies ∧ t.ndl = u.ndl) ∧
    edit (2 + 16 * i) (.placeRemove dt w piece) (fun u => (u.pieceSt i).state ≠ 0 ∧ (u.pieceSt i).state ≠ 4) (fun u t =>
      t.last.stage = 5 ∧ busy t ∧ t.fab.due = u.fab.due ++ [.remove i] ∧ t.last.copies = u.last.copies) ∧
    (∀ (p : Pattern) (d : PieceDesc), edit (3 + 16 * i) (.placeRestore dt w piece)
      (fun u => u.last.pat = some p ∧ u.pieceDesc i = some d ∧ ((u.pieceSt i).state = 3 ∨ (u.pieceSt i).state = 4))
      (fun u t => t.last.copies = u.last.copies ∧
        (∀ q, restorePlan u p d i = .ok q → t.last.stage = 5 ∧ busy t ∧ t.fab.due = u.fab.due ++ [.restore i] ∧
          t.last.restoring = q.copies.filter (fun c => c.piece == i)) ∧
        (∀ e, restorePlan u p d i = .error e → t.last.stage = 0 ∧ t.fab.due = u.fab.due ∧ t.nat Obj.placeStatus % 256 = 13))) ∧
    edit (4 + 16 * i + 65536 * target.toNat) (.placeMove dt w piece target) (fun _ => True) (fun u t =>
      t.last.stage = 5 ∧ busy t ∧ t.last.moves = u.last.moves ++ [(i, target.toNat)] ∧ t.fab = u.fab) ∧
    edit (5 + 16 * i) (.placeSetTap dt w piece) (fun u => (u.tapRec i).isSome = true) (fun u t =>
      t.last.stage = 5 ∧ busy t ∧ t.fab.due = u.fab.due ++ [.tap i (u.nat Obj.placeArg)]) ∧
    edit 6 (.placeRebalance dt w) (fun _ => True) (fun u t =>
      t.last.stage = 5 ∧ busy t ∧ t.last.moves = u.last.moves ++ [(0, 128)] ∧ t.fab = u.fab)

/-- Pending bytes pass every check of R396 in state u, and q is their pattern, which the Last places as pl (R127, R129). -/
def Sys2Proof.Claim.Placeable (u : State) (m : Sparse Byte) (q : Pattern) (pl : Plan) : Prop :=
  let p := readPattern m
  let raw (k : Nat) : List (BitVec 64) := ((p.pieces[k]?).map (rawCode m)).getD []
  let free (k : Nat) : List Nat := (List.range 128).filter (fun n => (u.last.effMap.getD (k + n / 32) 0).testBit (n % 32))
  checkLength m = none ∧ u.patSigOk m = true ∧ checkHeader m = none ∧ u.checkRate (rdLe m 6 1) = none ∧ checkTables m = none ∧
    checkParamTable m p.pieces = none ∧ ∃ codes, checkPieces p raw p.pieces.zipIdx = .ok codes ∧
      q = { p with code := codes.map (·.1), stores := codes.map (·.2) } ∧
      placeAll q { u.placeIn with needles := free 0, bobbins := free 4 } ⟨[], [], []⟩ (copyOrder q) = .ok pl

/-- The Last's own steps of a placement: it decides the pending pattern, with T0 due where it passes every check and finds its
places, and else a refusal that ends it, with code 1 where its signature does not hold; and loads the new one, with T1 due
(R129, R130). -/
def Sys2Proof.Claim.PlacementSteps : Prop :=
  ∀ dt : Nat,
    Does (.placementDecided dt) dt (fun u => u.last.stage = 1) (fun u t =>
      t.last.pat = u.last.pat ∧ t.last.copies = u.last.copies ∧ t.ndl = u.ndl ∧
        (∀ q pl, Placeable u u.last.pending q pl → t.last.stage = 2 ∧ t.fab.due = u.fab.due ++ [.t0] ∧ t.last.next = some q ∧
          t.last.nextCopies = numberSlots [] pl.copies ∧ t.last.nextSpools = pl.spools) ∧
        ((∀ q pl, ¬Placeable u u.last.pending q pl) → t.last.stage = 0 ∧ t.fab.due = u.fab.due ∧ t.bit Obj.placeStatus 0 31 = false) ∧
        (checkLength u.last.pending = none → u.patSigOk u.last.pending = false → t.nat Obj.placeStatus % 256 = 1)) ∧
    Does (.placementLoaded dt)  dt
      (fun u => u.last.stage = 3 ∧ u.last.waitRaise = false ∧ u.pleatsReady = true ∧ u.pw.hush = false ∧ u.level ≠ 2 ∧
        u.last.next.isSome = true)
      (fun u t => t.last.stage = 4 ∧ t.fab.due = u.fab.due ++ [.t1] ∧ t.last.nextCopies = u.last.nextCopies ∧ t.flash = u.flash)

/-- Staged pattern bytes are stored from PAT_STAGE_OFFSET on, which advances past them, and no other byte of package memory
changes (R117). -/
def Sys2Proof.Claim.PatternStaging : Prop :=
  ∀ (dt : Nat) (w : Writer) (l : List Byte), WritesBlob (.patStageData dt w l) dt w Obj.patStageData l (fun u t =>
    let o := u.stageBase + u.nat Obj.patStageOffset
    t.nat Obj.patStageOffset = u.nat Obj.patStageOffset + l.length ∧
    (∀ q, t.pmByte q = if o ≤ q ∧ q < o + l.length then l.getD (q - o) 0 else u.pmByte q) ∧ t.bob = u.bob ∧ t.flash = u.flash)

/-- Where the Last moves a set of copies, but to no needle of `out`: none where the set holds a pinned piece or a copy that moves
already, and else the best target of R142 and R143. -/
def Sys2Proof.Claim.movesTo (u : State) (p : Pattern) (set : List Copy) (out : Nat → Bool) : Option Nat :=
  if set.isEmpty || set.any (fun c => (p.pieces[c.piece]?).any (·.pinned)) || set.any (fun c => u.copyMoves c) then none
  else (u.plan.bestMove p u.placeIn set (fun n => !out n)).map (·.1)

/-- The migration m of needle src's copies to needle n for a reason begins at the next strobe. -/
def Sys2Proof.Claim.Begins (u : State) (src n reason : Nat) (m : Mig) : Prop :=
  m.src = src ∧ m.reason = reason ∧ m.startAt = u.stitch + 1 ∧ m.mirror = false ∧ m.ready = false ∧ m.switched = false ∧
    ∀ c, c ∈ m.copies → c.needle = n ∧ c.live = false

/-- No pleat stands powered that R348 does not want. -/
def Sys2Proof.Claim.PowerSettled (u : State) : Prop := ∀ p, p < 16 → u.pleatWill p = true → u.pleatWanted p = true

/-- Migrations (R138–R143): the Last takes the request that has waited longest (the model's choice, log entry 179) and decides
it: for LOW_MARGIN the needle's piece of the largest share goes with its set to its best target in another pleat, once its
interval has passed, and for FRAYED each set goes to its best target; one that has none stays. With no request waiting a MOVE
goes to the needle it names, or ends with code 13 where it may not. A copy that is done has brought the piece's words of X and
Y memory to its target, at the same addresses, and makes its migration ready; a ready one postponed MIG_WAIT times is forced. -/
def Sys2Proof.Claim.Migrations : Prop :=
  ∀ dt : Nat,
    (let decides (H : Pattern → State → Prop) (P : Pattern → State → State → Prop) : Prop :=
      ∀ p : Pattern, Does (.migrationDecision dt) dt
        (fun u => u.pw.hush = false ∧ u.level ≠ 2 ∧ u.pw.reload = false ∧ u.last.pat = some p ∧ u.bit Obj.lastFreeze 0 0 = false ∧ H p u)
        (P p)
     decides (fun _ u => u.last.requests ≠ [])
      (fun _ u t => t.last.requests = u.last.requests.tail ∧ t.last.pat = u.last.pat ∧ t.last.moves = u.last.moves ∧
        t.last.copies = u.last.copies ∧ (PowerSettled u → t.ndl = u.ndl) ∧
        ∃ new, t.last.migs = u.last.migs ++ new ∧
          ∀ m, m ∈ new → m.startAt = u.stitch + 1 ∧ m.mirror = false ∧ m.ready = false ∧ m.switched = false) ∧
     (∀ (n asked : Nat) (c : Copy) (l : List Copy),
      decides (fun p u => u.last.requests.head? = some (Rsn.lowMargin, n, asked) ∧ u.byShare p (u.placedOn n) = c :: l) (fun p u t =>
        let set := setOf p (u.placedOn n) c
        match movesTo u p set (fun x => x / 8 == n / 8), u.intervalOver p set asked with
        | some x, true => ∃ m, t.last.migs = u.last.migs ++ [m] ∧ Begins u n x Rsn.lowMargin m
        | _, _ => t.last.migs = u.last.migs)) ∧
     (∀ n asked : Nat, decides (fun _ u => u.last.requests.head? = some (Rsn.frayed, n, asked)) (fun p u t =>
        let goal (c : Copy) : Option Nat := movesTo u p (setOf p (u.placedOn n) c) (fun x => x == n)
        (∀ c l x, u.placedOn n = c :: l → goal c = some x →
          ∃ m more, t.last.migs = u.last.migs ++ m :: more ∧ Begins u n x Rsn.frayed m) ∧
        ((∀ c, c ∈ u.placedOn n → goal c = none) → t.last.migs = u.last.migs))) ∧
     (∀ (i n : Nat) (l : List (Nat × Nat)) (c : Copy),
      decides (fun p u => u.last.requests = [] ∧ u.last.moves = (i, n) :: l ∧ n ≠ 128 ∧ (u.pieceSt i).state = 1 ∧ c.needle ≠ n ∧
          u.last.copies.find? (fun x => x.piece == i && !x.second) = some c ∧ (i, false) ∈ copyOrder p)
        (fun p u t => t.last.moves = l ∧ t.last.stage = 0 ∧
          match (if u.usableNeedles.contains n then movesTo u p (setOf p (u.placedOn c.needle) c) (fun x => x != n) else none) with
          | some x => x = n ∧ t.nat Obj.placeStatus % 256 = 0 ∧
            ∃ m, t.last.migs = u.last.migs ++ [m] ∧ Begins u c.needle n Rsn.host m
          | none => t.last.migs = u.last.migs ∧ t.nat Obj.placeStatus % 256 = 13))) ∧
    (∀ (i : Fin 4096) (p : Pattern) (m : Mig) (o c : Copy) (d : PieceDesc), Does (.migrationCopyDone dt i) dt
      (fun u => u.last.pat = some p ∧ p.pieces[c.piece]? = some d ∧ m.copies = [c] ∧ o.needle ≠ c.needle ∧ c.needle < 128 ∧
        u.last.copies.find? (fun x => x.piece == c.piece && x.second == c.second) = some o ∧ o.piece = c.piece ∧
        u.last.migs.filter (fun m => m.mirror && !m.ready && !m.switched && m.copies.any (fun c => c.piece == i.val)) = [m])
      (fun u t =>
        t.last = { u.last with migs := u.last.migs.map (fun x => if x = m then { x with ready := true } else x) } ∧
        t.regs = u.regs ∧ t.fab = u.fab ∧ (∀ n, n < 128 → n ≠ c.needle → t.needle n = u.needle n) ∧
        (t.needle c.needle).d = (u.needle c.needle).d ∧ (t.needle c.needle).prog = (u.needle c.needle).prog ∧
        ∀ (y : Bool) (e : Nat), e < 16384 → (t.needle c.needle).memWord y e =
          if (y = false ∧ o.xBase ≤ e ∧ e < o.xBase + d.xWords) ∨ (y = true ∧ o.yBase ≤ e ∧ e < o.yBase + d.yWords) ∨
              (∃ b, b ∈ o.blocks ∧ b.y = y ∧ ((b.a ≤ e ∧ e < b.a + b.size) ∨ (b.b ≤ e ∧ e < b.b + b.size))) then
            (u.needle o.needle).memWord y e
          else (u.needle c.needle).memWord y e)) ∧
    (∀ i : Fin 4096, Does (.migForced dt i) dt (fun _ => True) (fun u t =>
      t = { u with last := t.last } ∧ t.last = { u.last with migs := t.last.migs } ∧
      ∀ (k : Nat) (m : Mig), u.last.migs[k]? = some m → t.last.migs[k]? = some { m with forcing := m.forcing ||
        (m.copies.any (fun c => c.piece == i.val) && m.ready && m.capturedRun.isNone && decide (u.nat Obj.migWait ≤ m.postponed)) }))

/-- Spools (R133–R135): a fetch and a drain begin, and ask for the channel of the block's first word; a fetch that is done in
time fills the read half with the words of tap stitches before, zero for a burst delivered bad; a fetch that is late leaves
zeros, and counts; a drain stores the write half's words in the spool's span. -/
def Obligations.SpoolBlocks : Prop :=
  ∀ (dt r : Nat) (second : Bool) (b : Nat) (bad : List (Fin 32)) (badBytes : List (BitVec 14)) (meets : List BobMeet),
    let sp (H : State → Spool → Prop) (c : Instr) (f : Spool → Spool) (P : Spool → State → State → Prop) : Prop :=
      ∀ q, Does c dt (fun u => u.spool? r second = some q ∧ H u q)
        (fun u t => t.spool? r second = some (f q) ∧ t.flash = u.flash ∧ t.ndl = u.ndl ∧ P q u t)
    let asks (o : Nat) (u t : State) : Prop :=
      t.last = { u.last with spools := t.last.spools } ∧ t.bob = u.bob ∧ t.pm = u.pm ∧
        (u.arb.length = 2 → (t.arbOf (o / 4096 % 2)).blocks = (u.arbOf (o / 4096 % 2)).blocks + 1 ∧ 3 ∈ (t.arbOf (o / 4096 % 2)).up)
    let readWord (t : State) (q : Spool) (k : Nat) : List Byte := t.bobBytes q.bobbin (q.off + 8192 + 4 * ((b + k) % 2048)) 4
    let written (k : Nat) (q : Spool) (u : State) : List Byte := u.bobBytes q.bobbin (q.off + 4 * ((b + k) % 2048)) 4
    sp (fun u q => b % 512 = 0 ∧ b ≤ u.stitch + 1024 ∧ u.stitch < b + 512 ∧ b ∉ q.fetching ∧ b ∉ q.fetched)
      (.spoolFetch dt r second b) (fun q => { q with fetching := b :: q.fetching })
      (fun q u t => asks (u.spoolAddr q (Int.ofNat b - Int.ofNat q.tap)) u t) ∧
    sp (fun u q => b ∈ q.fetching ∧ u.stitch + 64 < b) (.spoolFetchDone dt r second b bad meets)
      (fun q => { q with fetching := q.fetching.filter (fun x => x != b), fetched := b :: q.fetched })
      (fun q u t => t.pm = u.pm ∧ (q.lost = [] → ∀ k, k < 512 →
        readWord t q k = if ∃ e, e ∈ bad ∧ e.val = k / 16 then [0, 0, 0, 0]
          else u.pmBytes (u.spoolAddr q (Int.ofNat b - Int.ofNat q.tap + Int.ofNat k)) 4)) ∧
    sp (fun u q => b % 512 = 0 ∧ b ≤ u.stitch + 64 ∧ u.stitch < b + 512 ∧ b ∉ q.fetched) (.spoolLate dt r second b)
      (fun q => { q with fetching := q.fetching.filter (fun x => x != b), fetched := b :: q.fetched })
      (fun q u t => t.pm = u.pm ∧ Counted u t Obj.spoolLateHem 0 1 ∧ ∀ k, k < 512 → readWord t q k = [0, 0, 0, 0]) ∧
    sp (fun u q => b % 512 = 0 ∧ b + 512 ≤ u.stitch ∧ b ∉ q.draining ∧ b ∉ q.drained ∧ b ∉ q.lost) (.spoolDrain dt r second b)
      (fun q => { q with draining := b :: q.draining }) (fun q u t => asks (u.spoolAddr q (Int.ofNat b)) u t) ∧
    sp (fun _ q => b ∈ q.draining) (.spoolDrainDone dt r second b badBytes meets)
      (fun q => { q with draining := q.draining.filter (fun x => x != b), drained := b :: q.drained,
                         lost := q.lost.filter (fun x => x % q.words != b % q.words) })
      (fun q u t => (meets = [] → t.bob = u.bob) ∧ (meets = [] → badBytes = [] → u.bobBad = [] → 512 ≤ q.words →
        t.regs = u.regs ∧ ∀ k, k < 512 → t.pmBytes (u.spoolAddr q (Int.ofNat (b + k))) 4 = written k q u))

/-! ## Bobbins and package memory -/

/-- A bobbin mapped or given away has its new owner, and its hand-over is busy; once its ports are idle the hand-over ends, and
the needles and cores that wait for the bobbin go on, and every Shuttle's accesses are tried again (R151, R152). -/
def Sys2Proof.Claim.BobbinOwners : Prop :=
  ∀ (dt : Nat) (w : Writer),
    (∀ (b : Fin 128) (v : BitVec 8), Writes (.bobbinOwnerWrite dt w b v) dt w Obj.bobbinOwner b.val v.toNat (fun u t =>
      t.bobOwner b.val = v.toNat ∧ (u.bobOwner b.val ≠ v.toNat → t.mapBit Obj.handoverBusy b.val = true) ∧
        t.pm = u.pm ∧ t.flash = u.flash)) ∧
    (∀ (i : Fin 4) (v : BitVec 32), Writes (.bobbinMapWrite dt w i v) dt w Obj.bobbinMap i.val v.toNat (fun u t =>
      t.nat Obj.bobbinMap i.val = v.toNat ∧
        ∀ j : Fin 32, u.bit Obj.bobbinMap i.val j.val = false → v.getLsbD j.val = true →
          t.bobOwner (32 * i.val + j.val) = 32 * i.val + j.val ∧
            (u.bobOwner (32 * i.val + j.val) ≠ 32 * i.val + j.val → t.mapBit Obj.handoverBusy (32 * i.val + j.val) = true))) ∧
    (∀ b : Fin 128, Does (.handoverDone dt b) dt (fun u => u.mapBit Obj.handoverBusy b.val = true) (fun u t =>
      t.mapBit Obj.handoverBusy b.val = false ∧ t.bobWaits = u.bobWaits.filter (fun a => a.bobbin != b.val) ∧
        t.bobOwner b.val = u.bobOwner b.val ∧
        ∀ n, n < 128 → (t.needle n).wait = if (u.needle n).wait = .bob b.val then .none else (u.needle n).wait))

/-- The bobbin window (R18, R19, R148, R152, R360): of a core that owns the bobbin, an access of 1, 2, 4 or 8 bytes, aligned
and not atomic, answers: a store changes its own bytes alone, and a load answers the bytes, little end first, a word of bad
parity as 0; during the hand-over to the core it waits. Of a core that does not own the bobbin an access faults, changes no
bobbin and counts once in ACCESS_DENIED; a misaligned or an atomic access faults and changes nothing. -/
def Obligations.BobbinWindow : Prop :=
  ∀ (dt : Nat) (core : Fin 4) (b : Fin 128) (off : BitVec 19) (size : Fin 4) (st : Option (BitVec 64)) (bad : BitVec 8)
    (meets : List BobMeet),
    let n := 2 ^ size.val
    let c (atomic : Bool) : Instr := .bobbinWindowAccess dt core b off size st bad meets atomic
    Does (c false) dt
      (fun u => off.toNat % n = 0 ∧ u.bobOwner b.val = 131 + core.val ∧ u.mapBit Obj.handoverBusy b.val = false)
      (fun u t =>
        let f := u.markBad b.val (laneBytes off.toNat (bad.setWidth 4) ++ laneBytes (off.toNat + 4) ((bad >>> 4).setWidth 4))
        let zero (k : Nat) : Bool := (List.range n).any (fun j =>
          (off.toNat + j) / 4 == (off.toNat + k) / 4 && f.bobBadAt b.val (off.toNat + j))
        (∀ v, st = some v → t.out = .core core.val .stored :: u.out ∧
          (meets = [] → ∀ c y, c < 128 → y < 524288 → t.bobByte c y =
            if c = b.val ∧ off.toNat ≤ y ∧ y < off.toNat + n then BitVec.ofNat 8 (v.toNat / 256 ^ (y - off.toNat)) else u.bobByte c y)) ∧
        (st = none → meets = [] → t.bob = u.bob ∧
          t.out = .core core.val (.value (((List.range n).map (fun k =>
            if zero k then 0 else (u.bobByte b.val (off.toNat + k)).toNat * 256 ^ k)).sum)) :: u.out) ∧
        t.pm = u.pm ∧ t.flash = u.flash ∧ t.bobWaits = u.bobWaits) ∧
    Does (c false) dt
      (fun u => off.toNat % n = 0 ∧ u.bobOwner b.val = 131 + core.val ∧ u.mapBit Obj.handoverBusy b.val = true)
      (fun u t => t.bobWaits = u.bobWaits ++ [⟨core.val, b.val, off.toNat, n, st.map (·.toNat)⟩] ∧ t.bob = u.bob ∧ t.out = u.out ∧
        t.regs = u.regs) ∧
    Does (c false) dt
      (fun u => off.toNat % n = 0 ∧ u.bobOwner b.val ≠ 131 + core.val)
      (fun u t => t.out = .core core.val .accessFault :: u.out ∧ t.bob = u.bob ∧ t.bobBad = u.bobBad ∧ t.bobWaits = u.bobWaits ∧
        t.pm = u.pm ∧ Counted u t Obj.accessDeniedHem (131 + core.val) 1) ∧
    ∀ atomic : Bool, Does (c atomic) dt (fun _ => atomic = true ∨ off.toNat % n ≠ 0)
      (fun u t => t = { u with out := .core core.val .accessFault :: u.out })

/-- Accesses of a control core (R18, R159): to package memory below the dictionary regions, the spill and spool regions among them
(log entry 135), one that the cache serves is made at once, a load answering the bytes and a store storing them, and another waits
for its channel (log entry 134); an address of no range of the map answers a fault and changes nothing. -/
def Sys2Proof.Claim.CoreAccesses : Prop :=
  ∀ (dt : Nat) (core : Fin 4) (addr : BitVec 64) (size : Fin 4) (v : BitVec 64),
    let n := 2 ^ size.val
    let o := addr.toNat - 0x400000000
    let inPm (u : State) : Prop := 0x400000000 ≤ addr.toNat ∧ o + n ≤ u.regionBase 3 ∧ u.regionBase 3 ≤ u.deviceBase ∧ u.coreWaits = []
    let c (kind : CoreKind) (hit : Bool) : Instr := .arbRequest dt [.access core addr kind size v hit]
    Does (c .load true) dt inPm (fun u t =>
      t = { u with out := .core core.val (.value (((List.range n).map (fun k => (u.pmByte (o + k)).toNat * 256 ^ k)).sum)) :: u.out }) ∧
    Does (c .store true) dt inPm (fun u t =>
      t.out = .core core.val .stored :: u.out ∧ t.regs = u.regs ∧ t.bob = u.bob ∧ ∀ q, t.pmByte q =
        if o ≤ q ∧ q < o + n then BitVec.ofNat 8 (v.toNat / 256 ^ (q - o)) else u.pmByte q) ∧
    (∀ kind : CoreKind, Does (c kind false) dt (fun u => inPm u ∧ u.arb.length = 2) (fun u t =>
      t.coreWaits = [⟨core.val, o, kind, n, v.toNat % 2 ^ (8 * n)⟩] ∧ t.pm = u.pm ∧ t.out = u.out ∧
        6 + core.val ∈ (t.arbOf (o / 4096 % 2)).up)) ∧
    (∀ (kind : CoreKind) (hit : Bool), Does (c kind hit) dt
      (fun u => u.coreWaits = [] ∧ ((0x20000 ≤ addr.toNat ∧ addr.toNat + n ≤ 0x10000000) ∨
        (0x14000000 ≤ addr.toNat ∧ addr.toNat + n ≤ 0x400000000) ∨
        (0x400000000 + u.pmSize ≤ addr.toNat ∧ addr.toNat + n ≤ 0x1000000000) ∨ 0x1010000000 ≤ addr.toNat))
      (fun u t => t = { u with out := .core core.val .accessFault :: u.out }))

/-- The arbiter of a channel (R158, R160–R167): a request on an idle channel is granted at once, and counts; a burst counts, and
the holder goes on, or its grant ends where it drops its request or has issued HOLD_LIMIT bursts; the spool engine drops
after the 32 bursts of a block, and the DMA engine at the end of its piece; the successor is granted, or, where it has dropped
its request, another than the requester whose grant has ended, while one is up; or the channel is idle where every request has
been dropped; a refresh that is due preempts, and counts, and so does a debug access that waits, once no refresh is due and 256
ns after the one before it: it reads or writes its byte and is answered (log entry 73), a read that is delivered bad as 0. The
channel of a burst is bit 12 of its offset. -/
def Sys2Proof.Claim.Arbiters : Prop :=
  ∀ dt : Nat,
    (∀ (r : Fin 11) (off : BitVec 34),
      let ch := off.toNat / 4096 % 2
      Does (.arbRequest dt [.burst r off]) dt
        (fun u => u.arb.length = 2 ∧ (u.arbOf ch).holder = none ∧ (u.arbOf ch).ended = false ∧ (u.arbOf ch).up = [] ∧
          u.coreWaits = [] ∧ u.requesterMay r.val off.toNat = true ∧
          ((u.arbOf ch).cls.getD r.val 3 ≠ 0 ∨ (u.arbOf ch).won.getD r.val 0 < (u.arbOf ch).quota))
        (fun u t => (t.arbOf ch).holder = some r.val ∧ (t.arbOf ch).up = [r.val] ∧ (t.arbOf ch).bursts = 0 ∧
          (t.arbOf ch).limit = u.nat Obj.arbHoldLimit r.val ∧
          Counted u t (if ch = 0 then Obj.arbGrantsAHem else Obj.arbGrantsBHem) r.val 1 ∧ t.pm = u.pm ∧ t.ndl = u.ndl)) ∧
    (∀ (r : Nat) (done wr : Bool) (off : BitVec 34),
      let ch := off.toNat / 4096 % 2
      Does (.burstDone dt done wr off false false) dt
        (fun u => u.arb.length = 2 ∧ (u.arbOf ch).holder = some r ∧ (u.arbOf ch).ended = false ∧ r < 11 ∧ u.coreWaits = []) (fun u t =>
          let a := u.arbOf ch
          let b := t.arbOf ch
          let drops := if r = 3 then a.moved = 31 else done = true ∧ ¬(r = 2 ∧ ch ∈ u.dmaNeeds)
          let cut := a.limit ≠ 0 ∧ a.limit ≤ a.bursts + 1
          b.holder = some r ∧
          (if drops then b.ended = true ∧ (3 ≠ r ∨ a.blocks ≤ 1 → r ∉ b.up)
           else if cut then b.ended = true ∧ b.up = a.up ∧ Counted u t Obj.holdCutHem r 1 ∧ t.bit Obj.arbHoldCut 0 r = true
           else b.ended = false ∧ b.bursts = a.bursts + 1 ∧ b.up = a.up) ∧
          Counted u t Obj.arbBurstsHem r 1 ∧ t.pm = u.pm)) ∧
    (∀ (ch : Fin 2) (r : Nat) (drops : List (Fin 11)), Does (.grantEnd dt ch drops) dt
      (fun u => u.arb.length = 2 ∧ (u.arbOf ch.val).ended = true ∧ (u.arbOf ch.val).succ = some r)
      (fun u t => (t.arbOf ch.val).ended = false ∧ t.pm = u.pm ∧
        (r ∈ (u.arbOf ch.val).up → (∀ x, x ∈ drops → x.val ≠ r) → (t.arbOf ch.val).holder = some r) ∧
        (∀ h x, (u.arbOf ch.val).holder = some h → (∃ y, y ∈ drops ∧ y.val = r) → (∀ y, y ∈ (u.arbOf ch.val).up → y < 11) →
          x ∈ (u.arbOf ch.val).up → x ≠ h → (∀ y, y ∈ drops → y.val ≠ x) → (u.arbOf ch.val).cls.getD x 3 ≠ 0 →
          ∃ y, (t.arbOf ch.val).holder = some y ∧ y ≠ h ∧ y ∈ (u.arbOf ch.val).up) ∧
        ((∀ x, x ∈ (u.arbOf ch.val).up → ∃ y, y ∈ drops ∧ y.val = x) →
          (t.arbOf ch.val).holder = none ∧ (t.arbOf ch.val).succ = none ∧ t.regs = u.regs))) ∧
    (∀ ch : Fin 2, Does (.refresh dt ch) dt
      (fun u => u.arb.length = 2 ∧
        (u.arbOf ch.val).refreshAt + (if u.nat Obj.pmRefreshX2 ch.val = 1 then 1952000 else 3904000) ≤ u.now)
      (fun u t => Counted u t (if ch.val = 0 then Obj.arbGrantsAHem else Obj.arbGrantsBHem) 12 1 ∧
        Counted u t Obj.arbBurstsHem 12 1 ∧ t.arbOf ch.val = { u.arbOf ch.val with refreshAt := u.now })) ∧
    (∀ (ch : Fin 2) (bad1 bad2 : Bool) (o : Nat) (v : Option Byte), Does (.debugPreempt dt ch bad1 bad2) dt
      (fun u => u.arb.length = 2 ∧ u.dbg.waits.find? (fun x => x.1 / 4096 % 2 == ch.val) = some (o, v) ∧
        u.refreshDue ch.val = false ∧ ∀ x, (u.arbOf ch.val).debugAt = some x → x + 256000 ≤ u.now)
      (fun u t => t.arbOf ch.val = { u.arbOf ch.val with debugAt := some u.now } ∧ t.dbg.waits = u.dbg.waits.erase (o, v) ∧
        Counted u t (if ch.val = 0 then Obj.arbGrantsAHem else Obj.arbGrantsBHem) 11 1 ∧
        Counted u t Obj.arbBurstsHem 11 (if bad1 then 2 else 1) ∧ t.bob = u.bob ∧
        (v = none → t.pm = u.pm ∧ ((bad1 && bad2) = true ∨ o < u.regionBase 3 →
          t.out = .debug false [0, if bad1 && bad2 then 0 else u.pmByte o] :: u.out)) ∧
        (∀ b, v = some b → (bad1 && bad2) = false → o < u.regionBase 3 → o < u.pmSize →
          (∀ q, t.pmByte q = if q = o then b else u.pmByte q) ∧ t.out = .debug false [0] :: u.out)))

/-! ## The control cores -/

/-- The object window (R20, R21): a load of the form R20 allows answers a value, 0 of a write-only object and of one that keeps
its value that value extended by its type; a store of the form R20 allows retires where its write is accepted, and else faults
and leaves its status in CC_WSTATUSn, RANGE where the object's type cannot hold it; an access of another form faults and
changes nothing. That a write-only object answers 0 is log entry 41, RANGE for what the type cannot hold entry 52, and that a
right of VENDOR alone is judged for each kind of access entry 186. -/
def Sys2Proof.Claim.ObjectWindow : Prop :=
  ∀ (dt : Nat) (core : Fin 4) (num : BitVec 25) (off : BitVec 3) (size : Fin 4) (v : BitVec 64) (rep : DictRep),
    Does (.objectWindowLoad dt core num off size false rep) dt
      (fun u => rep.bad = [] ∧
        ∃ d, u.desc? num.toNat = some d ∧ d.windowForm 0 off.toNat size.val false = true ∧ d.may 0 (some 3) = true)
      (fun u t => ∃ x, t.out = .core core.val (.value x) :: u.out ∧
        (∀ d, u.desc? num.toNat = some d → d.wo = true → x = 0) ∧
        (isHem num.toNat = false → num.toNat ∉ [Obj.tbNow, Obj.rtcNow, Obj.trialLeft, Obj.journalState, Obj.irqStatus, Obj.gpioIn] →
          (∀ d, u.desc? num.toNat = some d → d.wo = false) → x = (u.obj num.toNat % 2 ^ (8 * 2 ^ size.val)).toNat) ∧
        t.bob = u.bob ∧ t.pm = u.pm ∧ t.ndl = u.ndl ∧ t.last = u.last ∧ t.dict = u.dict) ∧
    (∀ atomic : Bool, Does (.objectWindowLoad dt core num off size atomic rep) dt
      (fun u => ∀ d, u.desc? num.toNat = some d → d.windowForm 0 off.toNat size.val atomic = false ∨ d.may 0 (some 3) = false)
      (fun u t => t = { u with out := .core core.val .accessFault :: u.out })) ∧
    (∀ atomic : Bool, Does (.objectWindowStore dt core num off size atomic v rep) dt
      (fun u => ∀ d, u.desc? num.toNat = some d → d.windowForm 1 off.toNat size.val atomic = false)
      (fun u t => t = { u with out := .core core.val .accessFault :: u.out })) ∧
    (∀ d : ODesc, Does (.objectWindowStore dt core num off size false v rep) dt
      (fun u => u.desc? num.toNat = some d ∧ d.windowForm 1 off.toNat size.val false = true ∧ rep.bad = [] ∧
        d.ty.decode (d.ty.encode (storeVal d.ty size.val v.toNat)) ≠ storeVal d.ty size.val v.toNat ∧
        (num.toNat < Obj.ccMsgGo0 ∨ Obj.ccMsgGo0 + 4 ≤ num.toNat) ∧
        d.rightCheck (u.coreWriter core.val) ⟨num.toNat, 0, 1, d.code, d.ty.encode (storeVal d.ty size.val v.toNat)⟩ = St.ok)
      (fun u t => t.nat (Obj.ccWstatus0 + core.val) = St.range ∧ t.out = .core core.val .accessFault :: u.out ∧ t.ndl = u.ndl ∧
        t.last = u.last)) ∧
    (∀ d : ODesc,
      let x := storeVal d.ty size.val v.toNat
      let req (_u : State) : WReq := ⟨num.toNat, 0, 1, d.code, d.ty.encode x⟩
      Does (.objectWindowStore dt core num off size false v rep) dt
        (fun u => u.desc? num.toNat = some d ∧ d.windowForm 1 off.toNat size.val false = true ∧ d.ty.decode (d.ty.encode x) = x ∧
          (num.toNat < Obj.ccMsgGo0 ∨ Obj.ccMsgGo0 + 4 ≤ num.toNat) ∧ num.toNat ≠ Obj.updCmd ∧
          (((u.applyRep rep).write1 ((u.applyRep rep).coreWriter core.val) (req u)).2.phase = .running))
        (fun u t =>
          let r := (u.applyRep rep).write1 ((u.applyRep rep).coreWriter core.val) (req u)
          (r.1 = St.ok → t = r.2.emit (.core core.val .stored)) ∧
          (r.1 ≠ St.ok → t.nat (Obj.ccWstatus0 + core.val) = r.1 ∧ t.out = .core core.val .accessFault :: r.2.out)))

/-- The message path (R22): a request at a place the core may use is answered at half of its buffer, with the magic, the
version and the request's own session, SEQ and opcode, and the store retires; at another place it faults with RANGE, and at
another core's object with NO_RIGHT. -/
def Sys2Proof.Claim.MessagePath : Prop :=
  ∀ (dt : Nat) (core : Fin 4) (v : BitVec 64) (rep : DictRep),
    Does (.ccMsgGo dt core core v rep) dt
      (fun u => v.toNat % 64 = 0 ∧ u.inFirmware v.toNat 16384 = true ∧
        (((u.applyRep rep).countOps 1).coreMessage core.val v.toNat rep.span).phase = .running)
      (fun u t => (t.out.head? = some (.core core.val .stored)) ∧
        t.pmByte (v.toNat + 8192) = 0x55 ∧ t.pmByte (v.toNat + 8193) = 0x52 ∧ t.pmByte (v.toNat + 8194) = 1 ∧
          t.pmByte (v.toNat + 8195) = 1 ∧ ∀ k, k < 9 → t.pmByte (v.toNat + 8196 + k) = u.pmByte (v.toNat + 4 + k)) ∧
    (∀ n : Fin 4, Does (.ccMsgGo dt core n v rep) dt
      (fun u => n ≠ core ∨ v.toNat % 64 ≠ 0 ∨ u.inFirmware v.toNat 16384 = false)
      (fun _ t => t.out.head? = some (.core core.val .accessFault) ∧
        t.nat (Obj.ccWstatus0 + core.val) = if n ≠ core then St.noRight else St.range))

/-- A core's own rows of the dictionary (R255, R272): its subscription begins or ends, its ring is set and empties, its tack
is taken with its lease, renewed, or ends. -/
def Sys2Proof.Claim.CoreDictionaryRows : Prop :=
  ∀ (dt : Nat) (core : Fin 4),
    (∀ v : BitVec 64, Does (.dictCcSub dt core core v) dt
      (fun u => wstatus (u.coreWriter core.val) (Obj.dictCcSub0 + core.val) 0 v.toNat u = St.ok)
      (fun _ t => t.dict.subs.any (fun b => b.is (.core core.val) (v.toNat % 2 ^ 25) (v.toNat / 2 ^ 25 % 1024 + 1)) = !v.getLsbD 63)) ∧
    (∀ (w : Writer) (which : Fin 3) (v : BitVec 64),
      let num := (if which = 0 then Obj.dictCcRingBase0 else if which = 1 then Obj.dictCcRingLen0 else Obj.dictCcRingTail0) + core.val
      let x := if which = 0 then v.toNat else v.toNat % 2 ^ 32
      Writes (.dictCcRingConfig dt w core which v) dt w num 0 x (fun u t =>
        t.nat num = x ∧ (which ≠ 2 → t.nat (Obj.dictCcRingHead0 + core.val) = 0 ∧ t.nat (Obj.dictCcRingTail0 + core.val) = 0) ∧
          t.pm = u.pm ∧ t.bob = u.bob)) ∧
    (∀ lease : BitVec 16, Does (.ccTackGo dt core core lease) dt
      (fun u => u.coreTack core.val = none ∧ wstatus (u.coreWriter core.val) (Obj.ccTackGo0 + core.val) 0 lease.toNat u = St.ok)
      (fun u t => ∃ k, k ∈ t.dict.tacks ∧ k.src = .core core.val ∧ k.lo = u.nat (Obj.ccTackFirst0 + core.val) ∧
        k.hi = u.nat (Obj.ccTackLast0 + core.val) ∧ k.expiry = u.now + lease.toNat * msPs)) ∧
    (∀ (lease : BitVec 16) (k : Tack), Does (.ccTackGo dt core core lease) dt
      (fun u => u.coreTack core.val = some k ∧ wstatus (u.coreWriter core.val) (Obj.ccTackGo0 + core.val) 0 lease.toNat u = St.ok)
      (fun u t => { k with expiry := u.now + lease.toNat * msPs } ∈ t.dict.tacks)) ∧
    Does (.ccUntack dt core core) dt
      (fun u => wstatus (u.coreWriter core.val) (Obj.ccTackGo0 + core.val) 0 (2 ^ 31) u = St.ok)
      (fun u t => ∀ k, u.coreTack core.val = some k → k ∉ t.dict.tacks)

/-! ## Ursin -/

/-- Messages of a live session that pass R262–R264 run their operation on the payload in clear: its answer goes out under the
session's keys and is the reply that is kept, and its effect stands (R246–R250, R254, R101, R272, R270, R332). -/
def Sys2Proof.Claim.SessionMessagesAreServed : Prop :=
  ∀ (dt : Nat) (m : UMsg) (readOk : Bool),
    Serves (.read dt m) dt m 0x10 (fun q => q.dataOk 0x10) (fun w q s => s.opRead w.role q) ∧
    Serves (.write dt m) dt m 0x11 (fun q => q.dataOk 0x11) (fun w q s => s.opWrite w q) ∧
    Serves (.blockRead dt m) dt m 0x12 (fun q => q.dataOk 0x12) (fun w q s => s.opBlockRead w.role m.rep.span q) ∧
    Serves (.blockWrite dt m) dt m 0x13 (fun q => q.dataOk 0x13) (fun w q s => s.opBlockWrite w q) ∧
    Serves (.subscribe dt m) dt m 0x20 (subOk 0x20 2) (fun w q s => s.opSubscribe w q) ∧
    Serves (.unsubscribe dt m) dt m 0x21 (subOk 0x21 0)
      (fun w q s => (q.plain (s.unsubscribe w.src q.object q.count).1, (s.unsubscribe w.src q.object q.count).2)) ∧
    Serves (.commit dt m) dt m 0x30 commitOk (fun w q s => s.opCommit w q) ∧
    Serves (.tack dt m) dt m 0x40 (fun q => q.headOk 0x40 && q.payload.length == 8) (fun w q s => s.opTack w q) ∧
    Serves (.renew dt m) dt m 0x41 (tackIdOk 0x41 8) (fun w q s => s.opRenew w q) ∧
    Serves (.untack dt m) dt m 0x42 (tackIdOk 0x42 4) (fun w q s =>
      match s.tackOf w.src (leNat (q.payload.take 2)) with
      | some t => (q.plain St.ok, s.dropTack t)
      | none => (q.plain St.tackNone, s)) ∧
    Serves (.bye dt m) dt m 0x7F (fun q => q.headOk 0x7F && q.payload.isEmpty) (fun w q s =>
      (q.plain St.ok, match w.src with
        | .session id => s.endSession id 1
        | _ => s)) ∧
    Serves (.recoveryOpen dt m) dt m 0x50 (fun q => q.headOk 0x50 && q.payload.length == 4 && (q.payload.drop 1).all (· == 0))
      (fun w q s => s.opRecoveryOpen w m.via.val q) ∧
    Serves (.recoveryData dt m) dt m 0x51 (fun q => q.headOk 0x51 && decide (4 ≤ q.payload.length))
      (fun w q s => s.opRecoveryData w m.via.val q) ∧
    Serves (.recoveryClose dt m readOk) dt m 0x52 (fun q => q.headOk 0x52 && q.payload.isEmpty)
      (fun w q s => s.opRecoveryClose w m.via.val readOk q)

/-- What the operations do when nothing speaks against them (R101, R240, R250, R254, R270, R272, R332): a refused commit
changes nothing but its count; a READ returns the encoded value; a refused BLOCK_WRITE writes nothing; a tack is held to its
lease, renewed and ended; an ended session is gone. -/
def Sys2Proof.Claim.OperationsEffects : Prop :=
  ∀ (w : Writer) (q : Req) (s : State),
    (∀ d, s.desc? q.object = some d → q.flags = 0 → d.may 0 w.role = true → d.spanOk q = true →
      (entryOf St.ok d.code (s.encodeValue d q.object q.first q.count false).1).length ≤ 8152 →
      (s.opRead w.role q).1 = ⟨St.ok, q.count, entryOf St.ok d.code (s.encodeValue d q.object q.first q.count false).1⟩) ∧
    ((s.opBlockWrite w q).1.status ≠ St.ok → (s.opBlockWrite w q).2 = s ∨ (s.opBlockWrite w q).2 = s.countOps q.count) ∧
    ((s.opCommit w q).1.status ≠ St.ok → (s.opCommit w q).2 = s.bump Obj.commitRefusedHem) ∧
    ((s.opCommit w q).1.status = St.ok → ∃ c, (s.opCommit w q).2.outstanding q.object = some c ∧
      (s.opCommit w q).1.payload = leBytes 8 c.stitch ∧ s.stitch + 2 ≤ c.stitch) ∧
    (let lo := q.object
     let hi := leNat (q.payload.take 4)
     let lease := leNat (q.payload.drop 4)
     (s.tackCheck w.src w.role lo hi lease).1 = St.ok →
      ((s.opTack w q).1.status = St.ok ∨ (s.opTack w q).1.status = St.broken) ∧
      ∃ t, t ∈ (s.opTack w q).2.dict.tacks ∧ t.src = w.src ∧ t.lo = lo ∧ t.hi = hi ∧ t.expiry = s.now + lease * msPs) ∧
    (∀ t, s.tackOf w.src (leNat (q.payload.take 2)) = some t → 50 ≤ leNat (q.payload.drop 4) → leNat (q.payload.drop 4) ≤ 60000 →
      (s.opRenew w q).1.status = St.ok ∧
        ∃ x, x ∈ (s.opRenew w q).2.dict.tacks ∧ x.id = t.id ∧ x.expiry = s.now + leNat (q.payload.drop 4) * msPs) ∧
    (∀ t, (s.dropTack t).dict.tacks = s.dict.tacks.filter (fun x => x.id != t.id)) ∧
    (∀ id why, (s.endSession id why).session? id = none) ∧
    (∀ slot, (q.payload.getD 0 0).toNat = slot → slot < 2 → s.recoveryCheck w 4 = St.ok → s.recoveryElsewhere w = false →
      (s.opRecoveryOpen w 4 q).1.status = St.ok ∧ (s.opRecoveryOpen w 4 q).2.boot.target = some slot)

/-- The handshake (R263, R264, R268, R269): HELLO opens one and is answered; CERT answers the device chain; a KEY that stands
makes it a session with its role and the keys of the shared secret, and one that does not ends it; 2 s after its HELLO one
that is not complete is discarded; both are counted. -/
def Sys2Proof.Claim.HandshakeMakesASession : Prop :=
  ∀ (dt : Nat) (m : UMsg) (k : KeyRep),
    let named (u v : State) (h : Hand) (op : Nat) : Prop :=
      arrived m op u = some v ∧ v.boot.admitted = true ∧ v.session? m.session.toNat = none ∧ v.hand? m.session.toNat = some h ∧
        formOk m = true ∧ (h.via == 4) = (m.via.val == 4) ∧ inClear m = true ∧ m.full = false ∧ h.h < op ∧ h.stage + 1 = op ∧
        m.seq.toNat = op
    let keyForm (h : Hand) : Prop :=
      (reqOf m).headOk 0x03 = true ∧ (if h.mode = 1 then (reqOf m).payload.isEmpty else (reqOf m).payload.length == 96) = true
    Does (.hello dt m) dt
      (fun u => ∃ v, arrived m 1 u = some v ∧ v.boot.admitted = true ∧ m.session = 0 ∧ formOk m = true ∧ inClear m = true ∧
        m.seq.toNat = 1 ∧ helloOk (reqOf m) = true ∧ m.full = false ∧ v.ursin.hands.length < 16)
      (fun u t => ∃ h r, (∃ v, arrived m 1 u = some v ∧ t.ursin.hands = v.ursin.hands ++ [h]) ∧ 1 ≤ h.id ∧ h.h = 1 ∧
        h.stage = 1 ∧ h.at_ = u.now ∧ h.mode = (m.payload.getD 129 0).toNat ∧ h.replies = [(1, r)] ∧ r.session = h.id ∧
        r.status = St.ok ∧ Sent r u t) ∧
    Does (.cert dt m) dt (fun u => m.rep.bad = [] ∧ ∃ v h, named u v h 2 ∧ certOk h (reqOf m) = true)
      (fun u t => ∃ h r, t.hand? m.session.toNat = some h ∧ h.h = 2 ∧ h.stage = 2 ∧ (2, r) ∈ h.replies ∧ r.status = St.ok ∧
        r.payload = u.blob Obj.devCertChain ∧ Sent r u t) ∧
    (∀ h : Hand, Does (.key dt m k) dt
      (fun u => ∃ v, named u v h 3 ∧ keyForm h ∧ (v.applyRep m.rep).keyStatus h m.payload k = St.ok)
      (fun _ t => ∃ x, t.session? m.session.toNat = some x ∧ x.h = 3 ∧ t.hand? m.session.toNat = none ∧
        x.role = (if h.mode = 1 then none else k.role.map (·.val)) ∧ x.keys = sessionKeys h.secret h.salt)) ∧
    (∀ h : Hand, Does (.key dt m k) dt
      (fun u => m.rep.bad = [] ∧ ∃ v, named u v h 3 ∧ keyForm h ∧ (v.applyRep m.rep).keyStatus h m.payload k ≠ St.ok)
      (fun u t => t.hand? m.session.toNat = none ∧ t.session? m.session.toNat = none ∧ Counted u t Obj.handshakeFailHem 0 1)) ∧
    (∀ id : BitVec 32, Does (.handshakeTimeout dt id) dt
      (fun u => u.ursin.hands.any (fun h => h.id == id.toNat && decide (h.at_ + 2000 * msPs ≤ u.now)) = true)
      (fun u t => t.ursin.hands = u.ursin.hands.filter (fun h => h.id != id.toNat) ∧ t.ursin.sessions = u.ursin.sessions ∧
        Counted u t Obj.handshakeFailHem 0 1))

/-- What ends in time, or by another's word (R254, R259, R270, R272, R273): sessions, reassemblies, leases, records; and an
interval's boundary that has come notifies a subscription of every change so far: its NOTIFY goes out to the session, in parts of
whole entries each under its own number, unless nothing changed. -/
def Sys2Proof.Claim.SessionTimers : Prop :=
  ∀ dt : Nat,
    (∀ id : BitVec 32, Does (.sessTimeout dt id) dt
      (fun u => ∃ x, u.session? id.toNat = some x ∧ x.at_ + u.nat Obj.sessTimeout * msPs ≤ u.now)
      (fun u t => t.session? id.toNat = none ∧ Counted u t Obj.sessTimeoutHem 0 1 ∧ ∀ b, b ∈ t.dict.subs → b.src ≠ .session id.toNat)) ∧
    (∀ (w : Writer) (id : BitVec 32), Writes (.sessKick dt w id) dt w Obj.sessKick 0 id.toNat
      (fun _ t => t.session? id.toNat = none)) ∧
    (∀ id : Nat, Does (.reassemblyTimeout dt id) dt
      (fun u => u.ursin.frags.any (fun f => f.1 == id && decide (f.2 + 100 * msPs ≤ u.now)) = true)
      (fun u t => t.ursin.frags = u.ursin.frags.filter (fun f => f.1 != id) ∧ Counted u t Obj.ursinDropHem 0 1)) ∧
    (∀ id : Nat, Does (.tackExpire dt id) dt
      (fun u => ∃ k, u.dict.tacks.find? (fun t => t.id == id && decide (t.expiry ≤ u.now)) = some k)
      (fun u t => (∀ k, k ∈ t.dict.tacks → k.id ≠ id) ∧ Counted u t Obj.tackBrokenHem 0 1 ∧
        ∃ r, r ∈ t.dict.records ∧ r.reason = 4 ∧ r.stitch = u.stitch ∧ r.at_ = u.now)) ∧
    Does (.tackRecordExpire dt) dt (fun _ => True) (fun u t =>
      t.dict.records = u.dict.records.filter (fun r => decide (u.now < r.at_ + 60000 * msPs)) ∧ t.regs = u.regs ∧ t.dict.tacks = u.dict.tacks) ∧
    (∀ (src : Src) (first : BitVec 25) (count : Nat), Does (.notify dt src first count) dt
      (fun u => ∃ b, u.dict.subs.find? (fun b => b.is src first.toNat count) = some b ∧ 1 ≤ b.ms ∧
        (b.told - b.at_) / (b.ms * msPs) < (u.now - b.at_) / (b.ms * msPs))
      (fun u t => (∀ b, b ∈ t.dict.subs → b.is src first.toNat count = true → b.last = u.chgSeq ∧ b.told = u.now) ∧ t.bob = u.bob ∧
        t.flash = u.flash)) ∧
    (∀ (id : Nat) (first : BitVec 25) (count : Nat) (b : Sub) (x : Session),
      let parts (u : State) : List (Nat × List Byte) :=
        splitParts ((u.notifyAll b false b.first b.count).1.map Notified.bytes) (0, [])
      Does (.notify dt (.session id) first count) dt
        (fun u => u.dict.subs.find? (fun b => b.is (.session id) first.toNat count) = some b ∧ b.due u.now = true ∧
          u.session? id = some x ∧ x.notify + (parts u).length ≤ 0xFFFFFFFF ∧
          (x.via < 2 ∨ (parts u).length ≤ 1) ∧ (x.via = 4 → (u.ursin.serialq.filter (fun e => e.2.session == id)).length < 64))
        (fun u t => ∀ k e, (parts u)[k]? = some e → Sent (notifyPart x k (parts u).length e) u t true))

/-! ## The journal -/

/-- The journal in the flash (R251–R253, R314, R371), where the port may master for it (R298): a batch that fits is appended
where the area's bytes end, is then clean, and its lifetime counters have their entries from now; one that does not fit goes with
an image to the other area, whose erase follows, as does a journal with nothing in its area (log entry 63); an area that has been
erased reads all ones; a program or an erase that fails sets the journal's fault and counts, and leaves nothing waiting (log entry
64); and the restore admits control traffic. -/
def Obligations.JournalInFlash : Prop :=
  ∀ dt : Nat,
    let due (u : State) : Prop := u.dict.journal.dirty ≠ [] ∧ u.dict.journal.fault = false ∧
      (u.dict.journal.began + 1000 * msPs ≤ u.now ∨ u.pw.standby = true) ∧ (u.mayMaster = true ∨ u.ser.own = true)
    (let batch (u : State) : List Byte := u.dict.journal.dirty.flatMap u.entryFor
     let at_ (u : State) : Nat := flashJournal u.dict.journal.area + u.dict.journal.used
     Does (.journalBatch dt false) dt
      (fun u => due u ∧ u.dict.journal.used ≠ 0 ∧ u.dict.journal.used + (batch u).length ≤ 0x100000 ∧
        ∀ a, a ∈ u.worn → a < at_ u ∨ at_ u + (batch u).length ≤ a)
      (fun u t =>
        t.dict.journal.dirty = [] ∧ t.dict.journal.used = u.dict.journal.used + (batch u).length ∧ t.nat Obj.journalUsed = t.dict.journal.used ∧
        (∀ q, t.flashByte q =
          if at_ u ≤ q ∧ q < at_ u + (batch u).length then (batch u).getD (q - at_ u) 0xFF else u.flashByte q) ∧
        (∀ n, n ∈ u.dict.journal.dirty → n ∈ u.lifeNums → look (fun _ => 0) t.dict.journal.lifeAt n = u.now) ∧
        t.ser.own = false ∧ t.bob = u.bob ∧ t.pm = u.pm) ∧
     Does (.journalBatch dt false) dt
      (fun u => due u ∧ u.dict.journal.erasing = false ∧
        (u.dict.journal.used = 0 ∨ 0x100000 < u.dict.journal.used + (batch u).length))
      (fun u t => t.dict.journal.dirty = [] ∧ t.dict.journal.area = 1 - u.dict.journal.area ∧
        t.dict.journal.seq = (u.dict.journal.seq + 1) % 2 ^ 32 ∧ t.dict.journal.erasing = true ∧ t.ser.own = false ∧
        t.bob = u.bob ∧ t.pm = u.pm)) ∧
    Does (.journalBatch dt true) dt (fun u => due u ∧ u.dict.journal.erasing = false)
      (fun u t => t.dict.journal.fault = true ∧ t.dict.journal.dirty = [] ∧ t.nat Obj.journalState = 4 ∧
        Counted u t Obj.journalFailHem 0 1) ∧
    (∀ failed : Bool, Does (.journalBatch dt failed) dt (fun u => u.mayMaster = false ∧ u.ser.own = false) (fun u t => t = u)) ∧
    Does (.journalEraseDone dt true) dt (fun u => u.dict.journal.erasing = true)
      (fun u t => t.dict.journal.fault = true ∧ t.nat Obj.journalState = 4 ∧ Counted u t Obj.journalFailHem 0 1) ∧
    Does (.journalEraseDone dt false) dt (fun u => u.dict.journal.erasing = true) (fun u t =>
      let o := flashJournal (1 - u.dict.journal.area)
      t.dict.journal.erasing = false ∧
      (∀ q, t.flashByte q = if o ≤ q ∧ q < o + 0x100000 then 0xFF else u.flashByte q) ∧ t.bob = u.bob ∧ t.pm = u.pm) ∧
    Does (.journalRestore dt) dt
      (fun u => u.boot.admitted = false ∧ u.boot.chosen = true ∧ (u.mayMaster = true ∨ u.ser.own = true)) (fun _ t =>
      t.boot.admitted = true ∧ t.safe.journal = true ∧ t.ven.base = t.nat Obj.univBase ∧ t.hem.n = t.nat Obj.hemSeconds)

/-! ## Power, resets and boot -/

/-- Resets and what survives them (R334, R350, R351, R355, R356, R376–R378): each cause resets the device, release starts it, but
with strap 5 high holds it in reset, STANDBY keeps the island alone, and a core's reset ends what it holds. That bobbins and package
memory hold nothing after a reset is log entry 8, what the clock outputs do at the end of a STANDBY entry log entry 177. -/
def Obligations.ResetsAndWakes : Prop :=
  ∀ (dt : Nat),
    (∀ s, s.phase = .off → Answers (.powerOn dt) s (fun t => ResetBy 0 (tick dt s) t ∧ t.out = .railEn true :: s.out)) ∧
    (∀ (straps : BitVec 6) s, s.phase = .inReset → straps.getLsbD 5 = false → Answers (.resetRelease dt straps) s (fun t =>
      t.phase = .running ∧ t.clk = State.reset.clk ∧ t.nat Obj.strapState = straps.toNat ∧ t.flash = s.flash ∧ t.pending = s.pending)) ∧
    (∀ (straps : BitVec 6) s, s.phase ≠ .inReset ∨ straps.getLsbD 5 = true → Answers (.resetRelease dt straps) s (fun t => t = tick dt s)) ∧
    (∀ s, s.phase = .running ∨ s.phase = .inReset → Answers (.resetN dt) s (ResetBy 1 (tick dt s)) ∧
      Answers (.pgoodLoss dt) s (ResetBy 3 (tick dt s))) ∧
    (∀ s, Answers (.vkeepLoss dt) s (fun t => t.phase = .off ∧ t.island = ⟨0, 0⟩ ∧ t.flash = s.flash ∧ t.nat Obj.wakeCfg = 0 ∧
      t.bob = [] ∧ t.pm = [] ∧ t.pending = s.pending)) ∧
    (∀ (w : Writer) (v : Byte), Writes (.resetCmd dt w v) dt w Obj.resetCmd 0 v.toNat (ResetBy 6)) ∧
    (∀ at_ cause, Does (.delayedReset dt) dt (fun u => u.boot.due = some (at_, cause) ∧ at_ ≤ u.now) (ResetBy cause)) ∧
    (∀ at_, Does (.trialWdog dt) dt (fun u => u.boot.trialAt = some at_ ∧ at_ + manTrial u.boot.manifest * 1000 * msPs ≤ u.now)
      (ResetBy 4)) ∧
    (∀ (pins : BitVec 4) s, s.phase = .standby → (tick dt s).wakeSources pins.toNat ≠ 0 → Answers (.wake dt pins) s (fun t =>
      ResetBy 2 (tick dt s) t ∧ t.nat Obj.wakeSource = (tick dt s).wakeSources pins.toNat ∧ t.out = .railEn true :: s.out)) ∧
    Does (.standbyEntryDone dt) dt (fun u => u.pw.standby = true ∧ (u.dict.journal.dirty = [] ∨ u.dict.journal.fault = true) ∧
        u.ven.term = [] ∧ ∀ p, p ∈ u.ven.dmx → ∀ t, p.sending = some t → t ≤ u.now) (fun u t =>
      t.phase = .standby ∧ t.out = .railEn false :: u.restartClocks.out ∧
        (∀ i, i < 10 → u.nat Obj.clkState i = 1 ∨ u.nat Obj.clkState i = 5 → Out.clock i none ∈ t.out) ∧ t.flash = u.flash ∧ t.bob = [] ∧ t.pm = []) ∧
    (∀ (w : Writer) (v : Byte), Writes (.ccReset dt w v) dt w Obj.ccReset 0 v.toNat (fun u t =>
      t.phase = .running ∧ t.flash = u.flash ∧ ∀ k, 1 ≤ k → k ≤ 3 → v.getLsbD k = true →
        (∀ x, x ∈ t.dict.tacks → x.src ≠ .core k) ∧ (∀ x, x ∈ t.dict.subs → x.src ≠ .core k) ∧ (∀ x, x ∈ t.ser.queue → x.1 ≠ k)))

/-- The boot chain (R313–R329), where the port may master for it (R298): the matrix is loaded with its bobbins; slots are put in
order; a manifest that stands is taken, and one that does not is recorded and the next slot follows; chunks reach the boot image
copy, and one that fails twice refuses the slot, with CORE_RELEASE as it stands; cores are released; a trial is accepted; keys are
revoked. -/
def Sys2Proof.Claim.BootChain : Prop :=
  ∀ (dt : Nat) (w : Writer),
    let flash (u : State) : Prop := u.mayMaster = true ∨ u.ser.own = true
    Does (.safetyMatrixStart dt) dt
      (fun u => u.level = 1 ∧ u.last.safety = false ∧ u.safe.loaded = false ∧ (u.pw.hush = false ∨ u.pw.leaving = true) ∧ flash u)
      (fun u t => t.safe.loaded = true ∧ (∀ b, b < 8 → t.bobOwner b = b) ∧ t.flash = u.flash) ∧
    Does (.slotChoice dt) dt (fun u => u.boot.chosen = false ∧ u.last.safety = true ∧ flash u) (fun _ t =>
      t.boot.chosen = true ∧ t.nat Obj.bootState = (if t.boot.order.isEmpty then 4 else 1)) ∧
    (∀ (slot kind : Nat) (rest : List (Nat × Nat)), slot < 2 → Does (.manifestCheck dt) dt
      (fun u => u.boot.cur = none ∧ u.boot.order = (slot, kind) :: rest ∧ u.boot.admitted = true ∧ flash u)
      (fun u t =>
        let m := u.readManifest slot
        let code := if (u.slotOf slot).state ≠ (if kind = 0 then 3 else 2) then 1 else u.manCode m
        (code = 0 → t.boot.cur = some (slot, kind) ∧ t.boot.manifest = m ∧ t.boot.chunk = 0 ∧ t.nat Obj.bootSlot = slot ∧
          t.nat Obj.bootKind = kind ∧ t.flash = u.flash) ∧
        (code ≠ 0 → t.boot.cur = none ∧ t.boot.order = rest ∧ t.nat Obj.bootReject slot = code ∧ t.nat Obj.bootSlot = 0xFF ∧
          t.nat Obj.bootState = (if rest.isEmpty then 4 else 1)))) ∧
    (∀ slot kind : Nat, Does (.chunkLoaded dt true) dt
      (fun u => u.boot.cur = some (slot, kind) ∧ u.boot.chunk < manChunks u.boot.manifest ∧
        u.chunkOk slot u.boot.manifest u.boot.chunk = true ∧ flash u)
      (fun u t =>
        let k := u.boot.chunk
        let n := min 65536 (manField u.boot.manifest 0x0C 4 - 65536 * k)
        t.boot.chunk = k + 1 ∧ t.nat Obj.chunksVerified = k + 1 ∧ t.flash = u.flash ∧
        (∀ q, q < n → t.pmByte (u.bootCopyBase + 65536 * k + q) = u.flashByte (flashSlot slot + 0x10000 + 65536 * k + q)) ∧
        (k + 1 = manChunks u.boot.manifest → t.nat Obj.imageVerified = 1 ∧ t.nat Obj.bootState = 3))) ∧
    (∀ (readOk : Bool) (slot kind : Nat), Does (.chunkLoaded dt readOk) dt
      (fun u => u.boot.cur = some (slot, kind) ∧ u.boot.chunk < manChunks u.boot.manifest ∧ u.boot.retry = false ∧
        (readOk = false ∨ u.chunkOk slot u.boot.manifest u.boot.chunk = false) ∧ flash u)
      (fun u t => t.boot.retry = true ∧ t.boot.chunk = u.boot.chunk ∧ t.pm = u.pm ∧ t.flash = u.flash ∧
        t.nat Obj.chunksVerified = u.nat Obj.chunksVerified)) ∧
    (∀ (readOk : Bool) (slot kind : Nat), slot < 2 → Does (.chunkLoaded dt readOk) dt
      (fun u => u.boot.cur = some (slot, kind) ∧ u.boot.chunk < manChunks u.boot.manifest ∧ u.boot.retry = true ∧
        (readOk = false ∨ u.chunkOk slot u.boot.manifest u.boot.chunk = false) ∧ flash u)
      (fun u t => t.boot.cur = none ∧ t.boot.order = u.boot.order.drop 1 ∧ t.nat Obj.bootReject slot = 7 ∧
        t.nat Obj.chunksVerified = 0 ∧ t.nat Obj.bootSlot = 0xFF ∧ t.nat Obj.coreRelease = u.nat Obj.coreRelease)) ∧
    (Does (.slotChoice dt) dt (fun u => u.mayMaster = false ∧ u.ser.own = false) (fun u t => t = u)) ∧
    (∀ v : Byte, Writes (.coreRelease dt w v) dt w Obj.coreRelease 0 v.toNat (fun u t =>
      ∀ k, k < 4 → t.bit Obj.coreRelease 0 k = (k == 0 || u.bit Obj.coreRelease 0 k || v.getLsbD k))) ∧
    (∀ v : Byte, WritesIf (.accept dt w v) dt w Obj.accept 0 v.toNat (fun u => u.boot.cur.isSome = true) (fun u t =>
      t.boot.trialAt = none ∧ t.nat Obj.bootKind = 0 ∧
        t.nat Obj.rollbackCount = max (u.nat Obj.rollbackCount) (manVersion u.boot.manifest))) ∧
    (∀ v : Byte, Writes (.keyRevoke dt w v) dt w Obj.keyRevoke 0 v.toNat (fun u t =>
      (t.nat Obj.keyRevoked (v.toNat / 4)).testBit (v.toNat % 4) = true ∧ t.flash = u.flash))

/-- Updates and staging (R316, R326, R330): BEGIN opens the slot not booted, data is programmed where the last ended, VALIDATE is
pending until its end marks the slot VALID with the SEQ after the latest, or leaves the code of the first check that fails and the
update open (log entry 100); after a reset VALIDATE takes the slot not booted (log entry 201); a trial's reset is due 100 ms later;
staged safety bytes are kept, and a table is written to the copy not in use with the next SEQ; a measurement is extended. The flash
takes what is programmed where none of its bytes is worn out; slot records are written fewer than 2³¹ times. -/
def Sys2Proof.Claim.Updates : Prop :=
  ∀ (dt : Nat) (w : Writer) (l : List Byte) (v : Byte),
    let state (t : State) : Nat := t.field Obj.updStatus 0 2 0
    let sound (u : State) (o n : Nat) : Prop := ∀ a, a ∈ u.worn → a < o ∨ o + n ≤ a
    Writes (.updBegin dt w) dt w Obj.updCmd 0 1 (fun u t =>
      t.boot.target = some u.otherSlot ∧ t.boot.next = 0 ∧ state t = 1 ∧ t.nat Obj.updOffset = 0) ∧
    WritesBlob (.updData dt w l) dt w Obj.updData l (fun u t =>
      t.boot.next = u.boot.next + l.length ∧ t.nat Obj.updOffset = t.boot.next ∧
        ∀ slot, u.boot.target = some slot → sound u (flashSlot slot + u.boot.next) l.length →
          ∀ k, k < l.length → t.flashByte (flashSlot slot + u.boot.next + k) = l.getD k 0) ∧
    Writes (.validate dt w) dt w Obj.updCmd 0 2 (fun u t =>
      t.boot.validating.isSome = true ∧ state t = 2 ∧ t.boot.target = u.boot.target ∧ t.flash = u.flash) ∧
    (∀ readOk : Bool, Does (.updValidateDone dt readOk) dt
      (fun u => u.boot.validating.isSome = true ∧ u.boot.target.getD u.otherSlot < 2 ∧ u.worn = [] ∧ (u.mayMaster = true ∨ u.ser.own = true) ∧
        ∀ e, e ∈ u.records → e.2.wseq + 2 < 2 ^ 31)
      (fun u t =>
        let slot := u.boot.target.getD u.otherSlot
        let code := if u.manCode (u.readManifest slot) ≠ 0 then u.manCode (u.readManifest slot)
          else if readOk = true ∧ u.chunksOk slot = true then 0 else 7
        let latest := if serialLater (u.slotOf 1).seq (u.slotOf 0).seq then (u.slotOf 1).seq else (u.slotOf 0).seq
        t.boot.validating = none ∧ t.field Obj.updStatus 0 15 8 = code ∧
        (code = 0 → state t = 3 ∧ t.boot.target = none ∧ t.nat Obj.slotState slot = 2 ∧
          t.nat Obj.slotSeq slot = (latest + 1) % 2 ^ 32 ∧ t.nat Obj.slotTries slot = 0) ∧
        (code ≠ 0 → state t = 4 ∧ t.boot.target = u.boot.target ∧ t.flash = u.flash))) ∧
    Writes (.trialReset dt w) dt w Obj.updCmd 0 3 (fun u t =>
      t.boot.due = some (u.boot.due.getD (u.now + 100 * msPs, 5)) ∧ t.phase = .running) ∧
    WritesBlob (.safeStageData dt w l) dt w Obj.safeStageData l (fun u t =>
      t.nat Obj.safeStageOffset = u.nat Obj.safeStageOffset + l.length ∧ t.flash = u.flash ∧
        ∀ k, k < l.length → look (fun _ => 0) t.boot.stage (u.nat Obj.safeStageOffset + k) = l.getD k 0) ∧
    Writes (.safeWrite dt w v) dt w Obj.safeWrite 0 v.toNat (fun u t =>
      let c := (u.readTables.map (fun e => 1 - e.1)).getD 0
      (∀ q, q < flashSafe c ∨ flashSafe c + 0x4000 ≤ q → t.flashByte q = u.flashByte q) ∧
        (sound u (flashSafe c) 0x4000 → leNat (t.flashBytes (flashSafe c + 8) 4) = ((u.readTables.map (fun e => safeSeq e.2 + 1)).getD 1) % 2 ^ 32 ∧
          t.flashBytes (flashSafe c + 12) 0x3FF0 = (u.staged.drop 12).take 0x3FF0)) ∧
    Writes (.measExtGo dt w v) dt w Obj.measExtGo 0 v.toNat (fun u t =>
      t.blob (Obj.meas0 + v.toNat) = sha384 (u.blob (Obj.meas0 + v.toNat) ++
        (List.range 6).flatMap (fun k => leBytes 8 (u.nat (Obj.measExtWord0 + k)))) ∧ t.flash = u.flash)

/-! ## Lifecycle, the Thimble and the debug port -/

/-- Lifecycle and key operations (R335–R338): the owner's key hash is fused, a lifecycle advance is fused with its reset
due and, for RETURNED, the keys gone; a key operation runs and ends with its status. That its record is read when it ends is log
entry 71. -/
def Obligations.LifecycleAndKeys : Prop :=
  ∀ (dt : Nat),
    (∀ (w : Writer) (l : List Byte), WritesBlob (.ownerKeyHash dt w l) dt w Obj.ownerKeyHash l (fun u t =>
      t.blob Obj.ownerKeyHash = l ∧ l.length = 48 ∧ t.flash = u.flash)) ∧
    (∀ (w : Writer) (v : Byte), Writes (.lcAdvance dt w v) dt w Obj.lcAdvance 0 v.toNat (fun u t =>
      t.nat Obj.lifecycle = u.nat Obj.lifecycle + 1 ∧ t.nat Obj.lifecycle = v.toNat ∧
        t.boot.due = some (u.boot.due.getD (u.now + 100 * msPs, 8)) ∧
        (v = 3 → t.keyKill = true ∧ t.misc.keys = List.replicate 8 [] ∧ ∀ i, i < 8 → t.nat Obj.keySlotState i = 0))) ∧
    (∀ (core : Fin 4) (v : BitVec 64), Does (.thmOp dt core core v) dt
      (fun u => u.misc.thm.length = 4 ∧ wstatus (u.coreWriter core.val) (Obj.thmOp0 + core.val) 0 v.toNat u = St.ok)
      (fun u t => t.misc.thm[core.val]? = some (some v.toNat) ∧ t.nat (Obj.thmStatus0 + core.val) = 1 ∧ t.pm = u.pm)) ∧
    (∀ (n : Fin 4) (o : Nat), Does (.thmOpDone dt n) dt
      (fun u => u.misc.thm.getD n.val none = some o)
      (fun u t =>
        let r := u.thmRec o
        t.misc.thm.getD n.val none = none ∧
        t.nat (Obj.thmStatus0 + n.val) =
          (if u.thmBad o r then 3 else if u.nat Obj.keySlotState r.slot = 0 then 5 else if u.thmResult r = none then 4 else 2) ∧
        (∀ l, u.thmBad o r = false → u.nat Obj.keySlotState r.slot ≠ 0 → u.thmResult r = some l → t.pmBytes r.dst l.length = l) ∧
        (∀ q, q < r.dst ∨ r.dst + r.len + 16 ≤ q → t.pmByte q = u.pmByte q) ∧ t.bob = u.bob ∧ t.flash = u.flash))

/-- The debug port (R339–R345): the instruction register takes each instruction's code, and every code that names none acts as
BYPASS; IDCODE and the boundary register; a challenge; a response that stands opens a session; frames do what is granted, with a
session in DEVELOP and DEPLOYED, and are denied else; an access to package memory waits for its preemption; sessions and lockouts
end, and TRST_N leaves IDCODE (log entry 198). An answer's status byte and order are log entry 73; that a frame of no session passes
in BLANK and RETURNED alone is log entry 77. -/
def Obligations.DebugPort : Prop :=
  ∀ dt : Nat,
    let scans (ir : Byte) (o : Out) (u t : State) : Prop := t = { u with dbg := { u.dbg with ir := ir }, out := o :: u.out }
    Does (.idcode dt) dt (fun _ => True) (scans 0x01 (.jtag 32 0xB96405AB)) ∧
    (∀ code : Byte, Does (.bypass dt code) dt (fun _ => True) (fun u t =>
      if code.toNat ∈ [0x01, 0x02, 0x03, 0x10, 0x11, 0x12] then t = u else scans code (.jtag 1 0) u t)) ∧
    Does (.samplePreload dt) dt (fun _ => True) (fun u t => t.dbg.ir = 0x02 ∧
      if u.granted .scan then ∃ n v, t.out = .jtag n v :: u.out ∧ t.regs = u.regs else scans 0x02 (.jtag 1 0) u t) ∧
    (∀ pins : Nat, Does (.extest dt pins) dt (fun _ => True) (fun u t => t.dbg.ir = 0x03 ∧
      if u.granted .scan then ∃ n v, t.out = .jtag n v :: .pins pins :: u.out ∧ t.regs = u.regs
      else scans 0x03 (.jtag 1 0) u t)) ∧
    Does (.dbgChallenge dt) dt (fun _ => True) (fun u t =>
      if u.dbg.session.isSome || u.lockedOut then scans 0x10 (.debug false (List.replicate 129 0)) u t
      else ∃ n d, n.length = 32 ∧ t.dbg = { u.dbg with asked := some (n, d), ir := 0x10 } ∧
        t.out = .debug false (n ++ p384Public d) :: u.out) ∧
    (∀ (k : KeyRep) (n hostKey sig : List Byte) (d : Nat), Does (.dbgResponse dt k hostKey sig) dt
      (fun u => u.dbg.asked = some (n, d) ∧ u.dbg.session = none ∧ k.chainOk = true ∧ (u.tbs.locked = false ∨ k.inTime = true) ∧
        inRoots k.root 8 (u.blob Obj.trustRoots) = true ∧ ecdsaOk k.leafKey (dbgHash n d hostKey) sig = true ∧ u.dbgRoleOk k = true)
      (fun u t => ∃ r, k.role = some r ∧ t.dbg.session = some (r.val, u.now) ∧ t.dbg.asked = none ∧ t.nat Obj.dbgRole = r.val ∧
        (∀ z, ecdh384 d hostKey = some z → t.dbg.keys = debugKeys z n) ∧
        t.nat Obj.debugLevel = t.debugLevelNow)) ∧
    (∀ op : DbgOp, Does (.dbgAccess dt true op) dt (fun u => u.mayDebug op = false) (fun u t =>
      t.out = .debug true [] :: u.out ∧ Counted u t Obj.dbgDeniedHem 0 1 ∧ t.bob = u.bob ∧ t.pm = u.pm ∧ t.ndl = u.ndl)) ∧
    (∀ c : Fin 4, Does (.dbgAccess dt true (.halt c)) dt (fun u => u.mayDebug (.halt c) = true ∧ u.dbgOpenTo = true) (fun u t =>
      c.val ∈ t.dbg.halted ∧ t.out = .debug false [0] :: u.out ∧ t.regs = u.regs)) ∧
    (∀ (n : Fin 128) (e : BitVec 14), Does (.dbgAccess dt true (.needleX n e)) dt (fun u => u.mayDebug (.needleX n e) = true ∧ u.dbgOpenTo = true)
      (fun u t => t.out = .debug false (0 :: leBytes 4 ((u.needle n.val).xw e.toNat).toNat) :: u.out ∧ t.ndl = u.ndl)) ∧
    (∀ (b : Fin 128) (off : BitVec 19) (v : Byte), Does (.dbgAccess dt true (.bobWrite b off v)) dt
      (fun u => u.mayDebug (.bobWrite b off v) = true ∧ u.dbgOpenTo = true)
      (fun u t => t.bobByte b.val off.toNat = v ∧ t.pm = u.pm ∧ t.regs = u.regs)) ∧
    (∀ (o : BitVec 34) (v : Byte), Does (.dbgAccess dt true (.pmRead o)) dt
      (fun u => u.mayDebug (.pmRead o) = true ∧ u.dbgOpenTo = true)
      (fun u t => t.dbg.waits = u.dbg.waits ++ [(o.toNat, none)] ∧ t.out = u.out ∧ t.pm = u.pm ∧ t.regs = u.regs) ∧
      Does (.dbgAccess dt true (.pmWrite o v)) dt
      (fun u => u.mayDebug (.pmWrite o v) = true ∧ u.dbgOpenTo = true)
      (fun u t => t.dbg.waits = u.dbg.waits ++ [(o.toNat, some v)] ∧ t.out = u.out ∧ t.pm = u.pm ∧ t.regs = u.regs)) ∧
    (∀ op : DbgOp, Does (.dbgAccess dt true op) dt (fun u => u.mayDebug op = true ∧ u.dbgOpenTo = false)
      (fun u t => t = { u with dbg := { u.dbg with ir := 0x12 } })) ∧
    Does (.dbgEnd dt true) dt (fun u => u.dbg.session.isSome = true) (fun _ t =>
      t.dbg.session = none ∧ t.dbg.halted = [] ∧ t.dbg.breaks = [] ∧ t.nat Obj.debugLevel = t.debugLevelNow) ∧
    Does (.trstN dt) dt (fun _ => True) (fun u t => t.dbg.session = none ∧ t.dbg.ir = 0x01 ∧
      (u.dbg.session.isSome = true → t.dbg.halted = [])) ∧
    Does (.debugSessionTimeout dt) dt (fun u => ∃ r at_, u.dbg.session = some (r, at_) ∧ at_ + 60000 * msPs ≤ u.now)
      (fun _ t => t.dbg.session = none ∧ t.dbg.halted = []) ∧
    Does (.challengeLockoutEnd dt) dt (fun u => ∃ x, u.dbg.lockout = some x ∧ x ≤ u.now) (fun u t =>
      t = { u with dbg := { u.dbg with lockout := none } } ∧ t.lockedOut = false) ∧
    (∀ (w : Writer) (v : Bool), Writes (.debugOpen dt w v) dt w Obj.debugOpen 0 (if v then 1 else 0) (fun u t =>
      t.dbg.opened = (v || u.dbg.opened) ∧ (v = true → t.nat Obj.debugLevel = t.debugLevelNow)))

/-! ## Power states, TEST and sensors -/

/-- Power commands, the wake sequencer, TEST and the sensors (R347–R354, R385). -/
def Obligations.PowerAndTest : Prop :=
  ∀ (dt : Nat) (w : Writer) (pleats : BitVec 16) (rate : BitVec 3) (force : Bool),
    let test (kind : Nat) (c : Instr) : Prop :=
      WritesIf c dt w Obj.testCmd 0 (testWord pleats rate force kind) (fun u => rate ≠ 6 ∨ 780 ≤ u.nat Obj.vcoreNow)
        (fun u t => t.pw.testReq = some (kind, pleats.toNat, rate.toNat) ∧ Due.testEntry ∈ t.fab.due ∧ t.ndl = u.ndl)
    Writes (.powerCmdRun dt w) dt w Obj.powerCmd 0 0 (fun _ t => t.pw.hush = true ∧ t.pw.leaving = true) ∧
    Writes (.powerCmdHush dt w force) dt w Obj.powerCmd 0 (if force then 129 else 1) (fun u t =>
      Due.hush ∈ t.fab.due ∧ t.ndl = u.ndl ∧ t.pw = u.pw) ∧
    Writes (.powerCmdStandby dt w force) dt w Obj.powerCmd 0 (if force then 130 else 2) (fun u t =>
      t.pw.standby = true ∧ (u.pw.standby = false → t.ursin.sessions = [] ∧ t.dbg.session = none)) ∧
    (∀ (p : Nat) (wake : Bool) (at_ : Nat) (rest : List (Nat × Bool × Nat)), Does (.pleatWakeStart dt) dt
      (fun u => u.pw.queue = (p, wake, at_) :: rest ∧ u.mayBegin = true)
      (fun _ t => t.pw.queue = rest ∧ (wake = true → ∃ at_, (p, at_) ∈ t.pw.waking) ∧ (wake = false → t.pleatOn p = false))) ∧
    (∀ p : Fin 16, Does (.pleatReady dt p) dt (fun u => ∃ at_, (p.val, at_) ∈ u.pw.waking ∧ at_ + 4000000 ≤ u.now) (fun u t =>
      t.pleatOn p.val = true ∧ (∀ w, w ∈ t.pw.waking → w.1 ≠ p.val) ∧ t.ndl = u.ndl ∧
        ∀ q, q ≠ p.val → t.pleatOn q = u.pleatOn q)) ∧
    test 1 (.needleBist dt w pleats rate force) ∧ test 2 (.memoryBist dt w pleats rate force) ∧
    test 3 (.analog dt w pleats rate force) ∧
    WritesIf (.testEnd dt w) dt w Obj.testCmd 0 0 (fun u => u.pw.testOver = none) (fun u t =>
      t.pw.testOver = some (4, []) ∧ t.fab.due = u.fab.due ++ [.testReturn] ∧ t.ndl = u.ndl) ∧
    (∀ r : TestRes, Does (.testLengthEnd dt r) dt (fun u => u.level = 2 ∧ u.pw.testOver = none ∧
        ∃ f, u.pw.testFirst = some f ∧ ((∃ x, u.pw.testRun = some x ∧ x.1 ≠ 1) ∨ f + 4096 ≤ u.stitch)) (fun u t =>
      t.fab.due = u.fab.due ++ [.testReturn] ∧ (t.pw.testOver.map (·.2)) = some (resultWords r) ∧ t.regs = u.regs ∧
        ((t.pw.testOver.map (·.1)) = some 2 ∨ (t.pw.testOver.map (·.1)) = some 3))) ∧
    (∀ ps ds : List (BitVec 8), ps.length = 16 → ds.length = 2 → Does (.sensorUpdate dt ps ds) dt (fun _ => True) (fun u t =>
      (∀ p : Fin 16, t.obj Obj.tjPleat p.val = (ps.getD p.val 0).toInt ∧ (ps.getD p.val 0).toInt ≤ t.obj Obj.tjMaxHem) ∧
      (∀ p : Fin 2, t.obj Obj.tjDram p.val = (ds.getD p.val 0).toInt ∧ (ds.getD p.val 0).toInt ≤ t.obj Obj.tjMaxHem) ∧
        t.ndl = u.ndl ∧ t.fab = u.fab)) ∧
    Does (.historyZeroingDone dt) dt
      (fun u => ((u.pw.hush = true ∧ u.pw.leaving = true) ∨ u.pw.reload = true) ∧ u.pleatsReady = true)
      (fun u t => t = { u with pw := { u.pw with zeroed := true } })

/-! ## Serial port and DMA -/

/-- The serial port (R262, R274, R298–R302): SEL_IN makes it slave, cuts a master's transaction short, which waits to be repeated
whole, and frees it 1 µs after it is deasserted; one frame of an assertion is taken, after the ready phase, or refused and counted;
an opcode no client may send draws its FORMAT at once; a message is read out with 0xFF past it. A core's transaction is queued,
starts when the port may master, by its record as it then stands, and ends with its status and interrupt; with none waiting the
9640's own access to the flash is master. How many bytes the ready phase takes is free. -/
def Sys2Proof.Claim.SerialPort : Prop :=
  ∀ dt : Nat,
    let known (l : List (List Byte)) : Prop := ∀ m, m ∈ l → clientOps.contains (opcodeOf m) = true
    let open_ (u : State) : Prop := u.ser.role = 2 ∧ u.ser.used = false
    let ready (k : Nat) : List Byte := List.replicate k 0xA5 ++ [0x3C]
    Does (.selInAssert dt) dt (fun _ => True) (fun _ t => t.ser.role = 2 ∧ t.ser.selIn = true ∧ t.ser.running = none ∧
      t.ser.own = false ∧ t.bit Obj.serStatus 0 1 = true ∧ t.bit Obj.serStatus 0 2 = false) ∧
    Does (.selInAssert dt) dt (fun u => known u.ser.frames) (fun u t =>
      t.ser.again = u.ser.running.orElse (fun _ => u.ser.again) ∧ t.ser.queue = u.ser.queue ∧ t.ser.frames = u.ser.frames ∧
        t.ser.used = (u.ser.selIn && u.ser.used) ∧ Counted u t Obj.serModeFaultHem 0 (if u.ser.role = 1 then 1 else 0) ∧
        (u.ser.role = 1 → t.out = .spiStop :: u.out ∧ t.bit Obj.serStatus 0 0 = true)) ∧
    Does (.selInDeassert dt) dt (fun _ => True) (fun u t => t.ser.selIn = false ∧ t.ser.freeAt = u.now + 1000000 ∧ t.ser.role ≠ 2 ∧
      t.ser.queue = u.ser.queue ∧ t.ser.again = u.ser.again ∧ t.ser.running = u.ser.running) ∧
    (∀ msg more : List Byte, 24 ≤ msg.length → msg.length ≤ 8192 →
      let body := leBytes 2 msg.length ++ msg
      Does (.serialWriteFrame dt 0x7E (body ++ beBytes 2 (crc16 body) ++ more)) dt
        (fun u => open_ u ∧ u.ser.frames.length < 2 ∧ known (u.ser.frames ++ [msg]))
        (fun u t => t.ser = { u.ser with frames := u.ser.frames ++ [msg], used := true } ∧
          (∃ k, t.out = .serial (ready k) :: u.out) ∧ t.regs = u.regs) ∧
      Does (.serialWriteFrame dt 0x7E (body ++ beBytes 2 (crc16 body) ++ more)) dt
        (fun u => open_ u ∧ u.ser.frames = [] ∧ clientOps.contains (opcodeOf msg) = false)
        (fun _ t => t.ser.frames = [] ∧ t.ser.used = true) ∧
      (∀ crc : List Byte, crc.length = 2 → crc ≠ beBytes 2 (crc16 body) →
        Does (.serialWriteFrame dt 0x7E (body ++ crc ++ more)) dt
          (fun u => open_ u ∧ u.ser.frames.length < 2 ∧ known u.ser.frames)
          (fun u t => t.ser = { u.ser with used := true } ∧ Counted u t Obj.ursinDropHem 0 1))) ∧
    (∀ l : List Byte, 2 ≤ l.length → leNat (l.take 2) < 24 ∨ 8192 < leNat (l.take 2) →
      Does (.serialWriteFrame dt 0x7E l) dt (fun u => open_ u ∧ u.ser.frames.length < 2 ∧ known u.ser.frames)
        (fun u t => t.ser = { u.ser with used := true } ∧ Counted u t Obj.serFrameErrHem 0 1)) ∧
    (∀ (kind : Byte) (l : List Byte),
      (kind ≠ 0x7E → kind ≠ 0x7F → Does (.serialWriteFrame dt kind l) dt open_
        (fun u t => t.ser = { u.ser with used := true } ∧ t.out = u.out ∧ Counted u t Obj.serFrameErrHem 0 1)) ∧
      Does (.serialWriteFrame dt 0x7E l) dt (fun u => open_ u ∧ 2 ≤ u.ser.frames.length)
        (fun u t => t.ser = { u.ser with used := true } ∧ Counted u t Obj.serAbortHem 0 1 ∧
          ∃ k, t.out = .serial (List.replicate k 0xA5) :: u.out) ∧
      Does (.serialWriteFrame dt kind l) dt (fun u => u.ser.role ≠ 2 ∨ u.ser.used = true) (fun u t => t = u)) ∧
    (∀ (extra : BitVec 16) (n : Bool) (r : Reply) (rest : List (Bool × Reply)),
      let past := List.replicate extra.toNat (0xFF : Byte)
      Does (.serialReadRequest dt true extra) dt (fun u => open_ u ∧ u.ursin.serialq = (n, r) :: rest)
        (fun u t => t.ursin.serialq = rest ∧ t.ser = { u.ser with used := true } ∧ ∃ k, t.out = .serial (ready k ++
          (leBytes 2 r.raw.length ++ r.raw ++ beBytes 2 (crc16 (leBytes 2 r.raw.length ++ r.raw))) ++ past) :: u.out) ∧
      Does (.serialReadRequest dt true extra) dt (fun u => open_ u ∧ u.ursin.serialq = [])
        (fun u t => t.ser = { u.ser with used := true } ∧ ∃ k, t.out = .serial (ready k ++ [0, 0] ++ past) :: u.out) ∧
      Does (.serialReadRequest dt false extra) dt (fun u => open_ u ∧ u.ursin.serialq = (n, r) :: rest)
        (fun u t => t.ursin.serialq = (if n then rest else u.ursin.serialq) ∧ t.ser = { u.ser with used := true } ∧
          Counted u t Obj.serAbortHem 0 1) ∧
      ∀ whole : Bool, Does (.serialReadRequest dt whole extra) dt (fun u => u.ser.role ≠ 2 ∨ u.ser.used = true) (fun u t => t = u)) ∧
    (∀ (core : Fin 4) (v : BitVec 64), Does (.serMGo dt core core v) dt
      (fun u => wstatus (u.coreWriter core.val) Obj.serMGo core.val v.toNat u = St.ok)
      (fun u t => t.ser.queue = u.ser.queue ++ [(core.val, v.toNat)] ∧ t.nat Obj.serMStatus core.val = 1)) ∧
    (∀ (n o : Nat) (rest : List (Nat × Nat)), Does (.serialMasterStart dt) dt
      (fun u => u.mayMaster = true ∧ u.ser.again = none ∧ u.ser.queue = (n, o) :: rest)
      (fun u t => t.ser.queue = rest ∧ t.ser.own = u.ser.own ∧ t.pm = u.pm ∧ t.flash = u.flash ∧
        (u.serRefused o = true → t.ser.running = u.ser.running ∧ t.ser.role = 0 ∧ t.nat Obj.serMStatus n = 4 ∧ n ∈ t.ser.irq ∧
          t.out = u.out) ∧
        (u.serRefused o = false → t.ser.running = some (u.serTx n o) ∧ t.ser.role = 1 ∧ t.nat Obj.serMStatus n = 2 ∧
          t.out = .spi (u.serRec o).sel (u.serCmd (u.serRec o)) (u.serRec o).ta (u.serRec o).rxLen :: u.out))) ∧
    (∀ x : SerTx, Does (.serialMasterStart dt) dt (fun u => u.mayMaster = true ∧ u.ser.again = some x)
      (fun u t => t.ser.queue = u.ser.queue ∧ t.ser.again = none ∧ t.ser.running = some x ∧ t.ser.role = 1 ∧
        t.nat Obj.serMStatus x.core = 2 ∧ t.out.head? = some (.spi x.sel x.cmd x.ta x.rxLen) ∧
        (x.sel = 0 → flashWrites x.cmd = true → t.ser.wel = true) ∧ t.pm = u.pm ∧ t.flash = u.flash)) ∧
    Does (.serialMasterStart dt) dt (fun u => u.mayMaster = true ∧ u.ser.again = none ∧ u.ser.queue = [] ∧ u.flashWork = true)
      (fun u t => t.ser = { u.ser with own := true, role := 1 } ∧ t.flash = u.flash) ∧
    Does (.serialMasterStart dt) dt (fun u => u.mayMaster = false) (fun u t => t = u) ∧
    (∀ (x : SerTx) (rx : List Byte), Does (.serialMasterDone dt rx) dt (fun u => u.ser.running = some x) (fun u t =>
      t.ser.running = none ∧ t.ser.role = 0 ∧ t.nat Obj.serMStatus x.core = 3 ∧ x.core ∈ t.ser.irq ∧ t.bob = u.bob ∧
        (x.sel ≠ 0 → t.flash = u.flash) ∧ (x.rxLen = 0 → t.pm = u.pm) ∧
        (x.rxLen ≠ 0 → t.pmBytes x.rx x.rxLen = u.serRead x rx)))

/-- DMA (R304–R309): DMA_GO clears the error code and fetches the first descriptor, so that the chain runs, waits for its bobbin's
hand-over, or stops with the first error found and DONE; DMA_STOP is noted for the piece's end. The channel whose turn it is
completes its piece, where the arbiters of the channels of package memory that it reads or writes serve requester 2: each byte of
the piece is the source's, read before any is written; a bobbin that is not the engine's stops the channel with DENIED, and a
package-memory burst delivered bad with LINK, with nothing of the piece written (log entry 96); a descriptor's own burst is found bad
with its first piece (log entry 197). -/
def Sys2Proof.Claim.DmaChains : Prop :=
  ∀ (dt : Nat) (w : Writer) (c : Byte),
    let stopped (k code : Nat) (t : State) : Prop :=
      t.dmaRun k = none ∧ t.field Obj.dmaState k 11 8 = code ∧ t.bit Obj.dmaState k 1 = true
    let runs (k : Nat) (r : DmaRun) (t : State) : Prop := t.dmaRun k = some r ∧ t.field Obj.dmaState k 11 8 = 0
    WritesIf (.dmaGo dt w c) dt w Obj.dmaGo 0 c.toNat (fun u => u.dma.length = 16) (fun u t =>
      let at_ := u.nat Obj.dmaDesc c.toNat
      t.bob = u.bob ∧ t.pm = u.pm ∧ t.nat Obj.dmaCur c.toNat = at_ ∧
      match dmaAddr at_ with
      | none => stopped c.toNat 1 t
      | some a =>
        let l := (List.range 32).map (fun i => u.dmaRead { a with off := a.off + i })
        if a.off % 32 ≠ 0 then stopped c.toNat 1 t
        else if u.dmaIn a 32 = false then stopped c.toNat 2 t
        else if u.dmaWaits a = true then ∃ r, r.fetch = some at_ ∧ runs c.toNat r t
        else if u.dmaOwns a = false then stopped c.toNat 4 t
        else if u.dmaDescError l (dmaDesc at_ l) ≠ 0 then stopped c.toNat (u.dmaDescError l (dmaDesc at_ l)) t
        else runs c.toNat ⟨dmaDesc at_ l, 0, false, none⟩ t) ∧
    (∀ r : DmaRun, WritesIf (.dmaStop dt w c) dt w Obj.dmaStop 0 c.toNat (fun u => u.dma.length = 16 ∧ u.dmaRun c.toNat = some r)
      (fun u t => t.dmaRun c.toNat = some { r with stop := true } ∧ t.bob = u.bob ∧ t.pm = u.pm)) ∧
    (∀ (bad : Bool) (l : List (BitVec 19)) (ms : List BobMeet) (k : Nat) (r : DmaRun) (a b : DmaAddr),
      Does (.dmaPieceDone dt bad l ms) dt
      (fun u => u.dma.length = 16 ∧ u.dmaTurn = some k ∧ u.dmaRun k = some r ∧ r.fetch = none ∧
        dmaAddr r.d.src = some a ∧ dmaAddr r.d.dst = some b ∧ u.dmaWaits a = false ∧ u.dmaWaits b = false ∧
        ∀ ch, ch ∈ r.needs → (u.arbOf ch).serving = some 2)
      (fun u t =>
        let p := dmaPiece a b r
        let read (j : Nat) : Byte := ((u.dmaMark a (l.map (·.toNat))).meets 130 ms).dmaRead (dmaByte a r.d.srcK (p.1 + j))
        let link := (bad = true ∧ a.bob = none) ∨ r.fetchedBad bad = true
        t.dmaLast = k ∧ t.flash = u.flash ∧ t.ndl = u.ndl ∧
        ((u.dmaOwns a = false ∨ u.dmaOwns b = false) → stopped k 4 t ∧ t.bob = u.bob ∧ t.pm = u.pm) ∧
        (u.dmaOwns a = true → u.dmaOwns b = true → link → stopped k 5 t ∧ t.bob = u.bob ∧ t.pm = u.pm) ∧
        (u.dmaOwns a = true → u.dmaOwns b = true → ¬link → ∀ j, j < p.2 →
          (b.bob = none → t.pmByte (dmaByte b r.d.dstK (p.1 + j)).off = read j) ∧
          (∀ n, b.bob = some n → t.bobByte n (dmaByte b r.d.dstK (p.1 + j)).off = read j)))) ∧
    (∀ (bad : Bool) (l : List (BitVec 19)) (ms : List BobMeet) (k ch : Nat) (r : DmaRun), Does (.dmaPieceDone dt bad l ms) dt
      (fun u => u.dmaTurn = some k ∧ u.dmaRun k = some r ∧ ch ∈ r.needs ∧ (u.arbOf ch).serving ≠ some 2) (fun u t => t = u))

/-! ## Shuttles -/

/-- The enabled receive streams of Shuttle sh a packet's destination matches (R189). -/
def Sys2Proof.Claim.matching (u : State) (sh dest port : Nat) : List Nat :=
  (u.enabled sh false).filter (fun k => (u.rxCfg sh k).dest == dest && (u.rxCfg sh k).udp == port)

/-- A packet's first sample on the stream media clock (R178). -/
def Sys2Proof.Claim.firstCount (u : State) (c : StreamCfg) (now ts : Nat) : Nat :=
  nearest32 (now * rateHz c.rate / rateHz (u.nat Obj.stitchRate)) (ts + 2 ^ 32 - c.offset % 2 ^ 32)

/-- A frame's VLAN tag is the one the Shuttle takes: SH_VLAN's where it is in use, else none (R169, R189). -/
def Sys2Proof.Claim.tagFits (u : State) (sh : Nat) (vid : Option (BitVec 12)) : Bool :=
  if (u.shVlanNow sh).testBit 12 then vid.any (fun v => v.toNat == u.shVlanNow sh % 4096) else vid.isNone

/-- Frames on a Shuttle (R189, R192, R259): a control frame joins its queue of 2 048 with its time of arrival, and one that
finds it full is dropped and counted; one of a bad FCS, another VLAN or a bad UDP checksum, and one that goes nowhere, is
dropped and counted; one of the Shuttle's own address that is not ARP is dropped, as is a control frame that is not ARP while the
Shuttle has no address (R193, log entry 195), and every frame while the link is down.
PTP messages to be ignored are counted; fragments of Ursin datagrams wait for their last in at most 64 reassemblies. A frame
on a 10BASE-T1S segment in use counts its line errors (R291, R292). -/
def Sys2Proof.Claim.ShuttleFrames : Prop :=
  ∀ (dt : Nat) (sh : Fin 2) (symbols : Nat) (vid : Option (BitVec 12)) (fcsOk csumOk : Bool) (src : BitVec 32) (kind : FrameKind),
    let port : Fin 4 := ⟨sh.val, by omega⟩
    let up (u : State) : Prop := u.nat (shObj sh.val Obj.shLink) ≠ 0 ∧ tagFits u sh.val vid = true
    let own (u : State) : Prop := src ≠ 0 ∧ src.toNat = u.shIp sh.val
    let ip (u : State) : Prop := u.shIp sh.val ≠ 0 ∧ ¬own u
    let good (k : FrameKind) : Instr := .rxFrame dt port symbols true vid true src k
    let room (u : State) : Prop := u.sh.length = 2 ∧ (u.shut sh.val).ctrlq.length < 2048
    (∀ k : CtrlKind, k ≠ .ptpIgnored → (∀ id d x, k ≠ .frag id d x) → Does (good (.control k)) dt
      (fun u => u.sh.length = 2 ∧ up u ∧ (k = .arp ∨ ip u))
      (fun u t => if (u.shut sh.val).ctrlq.length < 2048
        then (t.shut sh.val).ctrlq = (u.shut sh.val).ctrlq ++ [(k, u.tbNs)] ∧ t.regs = u.regs
        else t.sh = u.sh ∧ Counted u t (shObj sh.val Obj.shCtrlDropHem) 0 1)) ∧
    (∀ k : CtrlKind, k ≠ .arp → Does (good (.control k)) dt (fun u => up u ∧ u.shIp sh.val = 0) (fun u t => t = u)) ∧
    Does (good (.control .ptpIgnored)) dt (fun u => room u ∧ up u ∧ ip u) (fun u t =>
      t.sh = u.sh ∧ Counted u t Obj.ptpIgnoredHem 0 1) ∧
    (∀ (id : Nat) (d x : Bool), Does (good (.control (.frag id d x))) dt (fun u => room u ∧ up u ∧ ip u) (fun u t =>
      let known := u.ursin.frags.any (fun f => f.1 == id)
      (x = false → t = u) ∧
      (x = true → known = false → 64 ≤ u.ursin.frags.length → t.sh = u.sh ∧ Counted u t Obj.ursinDropHem 0 1) ∧
      (x = true → known = true ∨ u.ursin.frags.length < 64 →
        (d = true → (t.shut sh.val).ctrlq = (u.shut sh.val).ctrlq ++ [(.ursin, u.tbNs)] ∧
          t.ursin.frags = u.ursin.frags.filter (fun f => f.1 != id)) ∧
        (d = false → t.sh = u.sh ∧ t.ursin.frags = if known then u.ursin.frags else u.ursin.frags ++ [(id, u.now)])))) ∧
    Does (.rxFrame dt port symbols false vid csumOk src kind) dt (fun u => u.nat (shObj sh.val Obj.shLink) ≠ 0) (fun u t =>
      t.sh = u.sh ∧ Counted u t (shObj sh.val Obj.shFcsHem) 0 1) ∧
    Does (.rxFrame dt port symbols true vid csumOk src kind) dt
      (fun u => u.nat (shObj sh.val Obj.shLink) ≠ 0 ∧ tagFits u sh.val vid = false)
      (fun u t => t.sh = u.sh ∧ Counted u t (shObj sh.val Obj.shUnmatchedHem) 0 1) ∧
    Does (.rxFrame dt port symbols true vid false src kind) dt up
      (fun u t => t.sh = u.sh ∧ Counted u t (shObj sh.val Obj.shUdpCsumHem) 0 1) ∧
    Does (good .other) dt (fun u => up u ∧ ¬own u) (fun u t => t.sh = u.sh ∧ Counted u t (shObj sh.val Obj.shUnmatchedHem) 0 1) ∧
    Does (good kind) dt (fun u => up u ∧ own u ∧ kind ≠ .control .arp) (fun u t => t = u) ∧
    Does (good .media) dt up (fun u t => t = u) ∧
    Does (.rxFrame dt port symbols fcsOk vid csumOk src kind) dt (fun u => u.nat (shObj sh.val Obj.shLink) = 0) (fun u t => t = u) ∧
    (∀ g : Fin 2, Does (.rxFrame dt ⟨2 + g.val, by omega⟩ symbols fcsOk vid csumOk src kind) dt (fun u => u.bit Obj.t1sCfg g.val 0 = true)
      (fun u t => t.sh = u.sh ∧ Counted u t Obj.t1sSymbolHem g.val symbols ∧
        Counted u t Obj.t1sFcsHem g.val (if fcsOk then 0 else 1)))

/-- Where an accepted packet's words go in its stream's buffer (R186; which word of it each takes is log entry 131). -/
def Sys2Proof.Claim.bufferWords (x : StreamCfg) (m : Nat) (words : List Word) : List (Nat × Word) :=
  words.zipIdx.map (fun e => (x.rxWord (m + e.2 / x.chans) (e.2 % x.chans), e.1))

/-- A media packet (R176, R180, R189, R191), in the state its meetings on bobbins leave (R155, R156): one that no enabled stream
matches is counted, and dropped where it is the Shuttle's own; one from another source than its only stream names is a
stranger's, of an audit's stream too; one that does not fit the stream is counted, as is one late, early or a duplicate of a packet
still in the buffer; one accepted enters the buffer with the media count of its first sample, and its words are written there (where
each goes is log entry 131); one that returns to an audit is matched. -/
def Sys2Proof.Claim.MediaPackets : Prop :=
  ∀ (dt : Nat) (sh : Fin 2) (src dest : BitVec 32) (port : BitVec 16) (pt : BitVec 7) (seq : BitVec 16) (ts : BitVec 32)
    (payload : List Byte) (ms : List BobMeet),
    let met (u : State) : State := u.meets (128 + sh.val) ms
    let does (H : State → Prop) (P : State → State → Prop) : Prop :=
      Does (.rtpPacket dt sh src dest port pt seq ts payload ms) dt (fun u => H (met u)) (fun u => P (met u))
    let up (v : State) : Prop := v.mediaUp sh.val = true ∧ v.shIp sh.val ≠ 0
    let foreign (v : State) : Prop := up v ∧ src.toNat ≠ v.shIp sh.val
    let only (i : Fin 256) (v : State) : Prop := matching v sh.val dest.toNat port.toNat = [i.val]
    let mine (i : Fin 256) (v : State) : Prop := foreign v ∧ only i v ∧ v.isAudit sh.val i.val = false
    let named (i : Fin 256) (v : State) : Prop := (v.rxCfg sh.val i.val).srcs = [] ∨ src.toNat ∈ (v.rxCfg sh.val i.val).srcs
    does (fun v => ¬up v) (fun v t => t = v) ∧
    does (fun v => foreign v ∧ matching v sh.val dest.toNat port.toNat = []) (fun v t =>
      t.sh = v.sh ∧ Counted v t (shObj sh.val Obj.shUnmatchedHem) 0 1) ∧
    does (fun v => up v ∧ src.toNat = v.shIp sh.val ∧
      ∀ i, i ∈ matching v sh.val dest.toNat port.toNat → v.isAudit sh.val i = false) (fun v t => t = v) ∧
    (∀ i : Fin 256, does (fun v => foreign v ∧ only i v ∧ ¬named i v) (fun v t =>
      t.sh = v.sh ∧ Counted v t (shObj sh.val Obj.shStrangerHem) 0 1 ∧ t.nat (shObj sh.val Obj.shStrangerList) 0 = src.toNat)) ∧
    (∀ i : Fin 256, does (fun v => mine i v ∧ named i v ∧ (v.rxCfg sh.val i.val).fits pt.toNat payload = false) (fun v t =>
      t.sh = v.sh ∧ Counted v t (shObj sh.val Obj.shRxFmtHem) i.val 1)) ∧
    (∀ (i : Fin 256) (mu now : Nat), does
      (fun v => mine i v ∧ named i v ∧ (v.rxCfg sh.val i.val).fits pt.toNat payload = true ∧ v.sh.length = 2 ∧
        v.mediaOf v.writeStitch = some mu ∧ v.mediaOf v.stitch = some now ∧ (v.rxSt (v.cfgOf sh.val) i.val).held = false)
      (fun v t =>
        let x := v.rxCfg sh.val i.val
        let rate := v.nat Obj.stitchRate
        let m := firstCount v x now ts.toNat
        let r := v.rxSt (v.cfgOf sh.val) i.val
        let words := wireSamples x.form (x.n * x.chans) (if x.form = 2 then payload.drop 8 else payload)
        if x.isLate rate mu m then t.sh = v.sh ∧ Counted v t (shObj sh.val Obj.shRxLateHem) i.val 1
        else if x.isEarly rate mu m then t.sh = v.sh ∧ Counted v t (shObj sh.val Obj.shRxEarlyHem) i.val 1
        else if r.buf.any (fun p => p.seq == seq.toNat && !x.isPast rate mu p.first) then t.sh = v.sh ∧ Counted v t (shObj sh.val Obj.shRxDupHem) i.val 1
        else
          let w := v.bufWrite (v.cfgOf sh.val) r.store (bufferWords x m words)
          Counted v t (shObj sh.val Obj.shRxPktHem) i.val 1 ∧ t.bob = w.bob ∧ t.pm = w.pm ∧
          (t.rxSt (v.cfgOf sh.val) i.val).buf = ⟨seq.toNat, m, words⟩ :: r.buf.filter (fun p => !x.isPast rate mu p.first))) ∧
    (∀ (i : Fin 256) (k : Nat) (r : AuditRec), does
      (fun v => up v ∧ only i v ∧ (src.toNat = v.shIp sh.val ∨ named i v) ∧ v.auditsOf sh.val i.val = [k] ∧
        (v.shut (bits (v.nat (shObj sh.val Obj.shAuditCfg) k) 16 16)).audit.find? (fun r =>
          r.stream == bits (v.nat (shObj sh.val Obj.shAuditCfg) k) 15 8 && r.seq == seq.toNat) = some r ∧ crc32 payload = r.crc)
      (fun v t => Counted v t (shObj sh.val Obj.shAuditOkHem) k 1 ∧
        t.nat (shObj sh.val Obj.shAuditLast) k = (v.tbNs - r.at_) % 2 ^ 32))

/-- The control protocols of a Shuttle (R169, R192), each on the next frame of its queue, and of a segment (R291): an ARP request for its address is
answered and its gateway's reply notes the MAC; an ICMP echo is answered, at most 100 a second, but not the Shuttle's own; an
IGMP query is answered with the groups joined, in version 2 for 260 s after a query of it. A segment in use answers ARP and
echoes on its network alone, with no tag (log entry 137) and no limit on echoes (log entry 171), unless its queue of 64 frames is
full, when the answer is dropped and counted (R292; when that is, is free: log entry 184). -/
def Sys2Proof.Claim.ShuttleControl : Prop :=
  ∀ (dt : Nat) (sh : Fin 2) (at_ : Nat) (v : State),
    (∀ (src target : BitVec 32) (mac : BitVec 48), Does (.arpFrame dt (sh.castLE (by decide)) false src target mac) dt
      (fun u => ctrlTaken u sh.val .arp = some (at_, v) ∧ v.shIp sh.val ≠ 0 ∧ target.toNat = v.shIp sh.val)
      (fun u t => t.out = .frame sh.val (u.netTag sh.val none (.arp true src.toNat)) (.arp true src.toNat) :: u.out ∧
        t.regs = u.regs)) ∧
    (∀ (src target : BitVec 32) (mac : BitVec 48), Does (.arpFrame dt (sh.castLE (by decide)) true src target mac) dt
      (fun u => u.sh.length = 2 ∧ ctrlTaken u sh.val .arp = some (at_, v) ∧ v.shIp sh.val ≠ 0 ∧ target.toNat = v.shIp sh.val ∧
        src ≠ 0 ∧ src.toNat = v.gatewayOf sh.val)
      (fun u t => (t.shut sh.val).gwMac = some mac.toNat ∧ t.out = u.out ∧ t.regs = u.regs)) ∧
    (∀ (reply : Bool) (src target : BitVec 32) (mac : BitVec 48), Does (.arpFrame dt (sh.castLE (by decide)) reply src target mac) dt
      (fun u => ctrlTaken u sh.val .arp = some (at_, v) ∧ target.toNat ≠ v.shIp sh.val) (fun _ t => t = v)) ∧
    (∀ src : BitVec 32, Does (.icmpEcho dt (sh.castLE (by decide)) src) dt
      (fun u => u.sh.length = 2 ∧ ctrlTaken u sh.val .icmp = some (at_, v) ∧ v.shIp sh.val ≠ 0) (fun u t =>
      if src.toNat = v.shIp sh.val then t = v
      else if ((v.shut sh.val).icmp.filter (fun q => decide (u.now < q + 1000 * msPs))).length < 100 then
        t.out = .frame sh.val (u.netTag sh.val (some 2) (.icmp src.toNat)) (.icmp src.toNat) :: u.out ∧ (t.shut sh.val).icmp.head? = some u.now ∧
          t.regs = u.regs
      else t.out = u.out ∧ Counted u t (shObj sh.val Obj.shCtrlDropHem) 0 1)) ∧
    (∀ v2 : Bool, Does (.igmpQuery dt sh v2) dt
      (fun u => u.sh.length = 2 ∧ ctrlTaken u sh.val .igmp = some (at_, v) ∧ v.shIp sh.val ≠ 0 ∧ v.joined sh.val ≠ []) (fun u t =>
      let m : NetMsg := .igmp (v2 || (v.shut sh.val).igmpV2.isSome) (v.joined sh.val)
      (v2 = true → (t.shut sh.val).igmpV2 = some u.now) ∧ t.regs = u.regs ∧
        t.out = .frame sh.val (u.netTag sh.val (some 2) m) m :: u.out)) ∧
    (∀ q : Nat, Does (.igmpFallbackEnd dt sh) dt
      (fun u => u.sh.length = 2 ∧ (u.shut sh.val).igmpV2 = some q ∧ q + 260000 * msPs ≤ u.now)
      (fun u t => (t.shut sh.val).igmpV2 = none ∧ t.regs = u.regs ∧ t.out = u.out)) ∧
    (∀ (src target : BitVec 32) (mac : BitVec 48),
      let g : Fin 4 := sh.natAdd 2
      let near (u : State) : Prop :=
        (src.toNat ^^^ u.nat Obj.t1sIp sh.val) &&& u.nat Obj.t1sMask sh.val = 0
      let up (u : State) : Prop := u.bit Obj.t1sCfg sh.val 0 = true ∧ u.nat Obj.t1sIp sh.val ≠ 0
      let answered (m : NetMsg) (u t : State) : Prop :=
        (¬near u → t = u) ∧
        (near u → t.sh = u.sh ∧ (t.out = .frame (2 + sh.val) ⟨none, none, none⟩ m :: u.out ∧ t.regs = u.regs ∨
          t.out = u.out ∧ Counted u t Obj.t1sTxDropHem sh.val 1))
      Does (.arpFrame dt g false src target mac) dt (fun u => up u ∧ target.toNat = u.nat Obj.t1sIp sh.val)
        (answered (.arp true src.toNat)) ∧
      Does (.icmpEcho dt g src) dt (fun u => up u ∧ src.toNat ≠ u.nat Obj.t1sIp sh.val) (answered (.icmp src.toNat)))

/-- What a Shuttle's inlet entry takes from the streams (R185, R190). -/
def Sys2Proof.Claim.inletWord (v : State) (sh : Nat) (faults : List SampleFault) (e : Nat) : Word :=
  if v.paired && sh == 1 then 0
  else (((v.deliverAll sh v.writeStitch faults).1.find? (fun x => x.1 == 4096 * sh + e)).map (·.2)).getD 0

/-- Samples of a Shuttle, in the state the meetings on bobbins leave (R155, R156), with no bobbin of a buffer being handed over,
when they wait (R152): all its 4 096 inlet entries take the streams' words, or count as late (R13, R185); a transmit stream reads a bank once, and entries of a bank no longer held count (R14,
R188); its oldest packet leaves on every port that is up, its payload from an SRAM buffer being the samples as formed (R176,
R178, R190) but for zeros where the buffer is found bad (R187); an audit record older than 1 s is lost for each configuration not matched (R191). -/
def Sys2Proof.Claim.ShuttleSamples : Prop :=
  ∀ (dt : Nat) (sh : Fin 2) (faults : List SampleFault) (ms : List BobMeet),
    let met (u : State) : State := u.meets (128 + sh.val) ms
    let does (c : Instr) (H : State → Prop) (P : State → State → Prop) : Prop := Does c dt (fun u => H (met u)) (fun u => P (met u))
    let busy (v : State) : Bool := (v.enabled sh.val false).any (fun i => v.bufBusy sh.val (v.rxSt sh.val i).store)
    does (.inletPoolWrite dt sh faults ms) (fun v => busy v = true) (fun v t =>
      t = { v with shWaits := v.shWaits ++ [.pool sh.val faults] }) ∧
    does (.inletPoolWrite dt sh faults ms) (fun v => busy v = false) (fun v t =>
      if v.fab.inWr.isOpen then
        t.fab.inWr.stitch = v.fab.inWr.stitch ∧ t.fab.inWr.isOpen = true ∧
          (∀ e, e < 4096 → (4096 * sh.val + e, inletWord v sh.val faults e) ∈ t.fab.inWr.words) ∧
          t.fab.inWr.words.filter (fun e => e.1 / 4096 != sh.val) = v.fab.inWr.words.filter (fun e => e.1 / 4096 != sh.val)
      else t.fab = v.fab ∧ Counted v t (shObj sh.val Obj.poolLate) 0 4096) ∧
    (∀ (i : Fin 256) (k mu : Nat), does (.outletPoolRead dt sh i k ms)
      (fun v => (v.paired && sh.val == 1) = false ∧ v.sh.length = 2 ∧ v.outletOpen k = true ∧ v.mediaOf k = some mu ∧
        (v.txCfg sh.val i.val).on = true ∧ (v.txSt sh.val i.val).held = false ∧ v.txGated = false ∧
        (v.txSt sh.val i.val).lastRead.all (fun j => decide (j < k)) = true)
      (fun v t => (t.txSt sh.val i.val).lastRead = some k ∧ t.fab = v.fab ∧ t.ndl = v.ndl ∧
        Counted v t (shObj sh.val Obj.poolLate) 0 (if v.fab.outBanks.any (fun b => b.stitch == k) then 0
          else (List.range (v.txCfg sh.val i.val).chans).countP (fun j => t.mapEntry sh.val Obj.shTxMapActive0 i.val j != 0xFFFF)))) ∧
    (∀ (i : Fin 256) (p : TxPkt) (rest : List TxPkt), does (.txPacket dt sh i faults ms)
      (fun v => (v.paired && sh.val == 1) = false ∧ v.sh.length = 2 ∧ (v.txSt sh.val i.val).ready = p :: rest ∧
        (v.txCfg sh.val i.val).on = true ∧ v.txGated = false ∧ v.mayLeave sh.val i.val p = true ∧
        v.bufBusy sh.val (v.txSt sh.val i.val).store = false)
      (fun v t => (t.txSt sh.val i.val).ready = rest ∧ ∃ payload,
        (faults = [] → (v.txSt sh.val i.val).store.all (fun b => b.bobbin.isNone && b.store != 129) = true →
          let x := v.txCfg sh.val i.val
          let bad (e : Nat) : Bool := v.bufBad sh.val (v.txSt sh.val i.val).store (p.seq % 2 * x.n * x.chans + e)
          payload = (if x.form = 2 then
            l32Header p.holdover (p.concealed || (List.range p.words.length).any bad) x.chans (p.stitch % 2 ^ 32) else []) ++
              (p.words.zipIdx.map (fun e => if bad e.2 then 0 else e.1)).flatMap (wireBytes x.form)) ∧
        ∀ h, h ∈ v.ports sh.val → v.mediaUp h = true → v.shIp h ≠ 0 →
          let m : NetMsg := .rtp (v.txCfg h i.val).dest (v.txCfg h i.val).udp
            (rtpHeader (v.txCfg sh.val i.val).pt p.seq p.ts (v.nat (shObj (v.cfgOf h) Obj.shTxSsrc) i.val)) payload
          Counted v t (shObj h Obj.shTxPktHem) i.val 1 ∧ Out.frame h (v.netTag h (some 0) m) m ∈ t.out)) ∧
    (∀ (i : Fin 256) (seq : BitVec 16) (r : AuditRec), Does (.auditRecordExpire dt sh i seq) dt
      (fun u => u.sh.length = 2 ∧ (u.shut sh.val).audit.find?
        (fun r => r.stream == i.val && r.seq == seq.toNat && decide (r.at_ + 1000000000 < u.tbNs)) = some r)
      (fun u t => t.fab = u.fab ∧ { r with lost := true } ∈ (t.shut sh.val).audit ∧
        ∀ a k, a < 2 → k < 16 → Counted u t (shObj a Obj.shAuditLostHem) k
          (if r.lost = false ∧ (a, k) ∈ u.auditUsers sh.val i.val ∧ (a, k) ∉ r.matched then 1 else 0)))

/-- A stream enabled takes a buffer, one disabled frees it, and a staged map stays staged; a map commit stages the shadow map;
pair mode is stored; a link's object follows it, and the timebase where it is not the PTP port's stays (R170, R171, R184,
R186, R190). -/
def Sys2Proof.Claim.StreamSetup : Prop :=
  ∀ (dt : Nat) (w : Writer) (sh : Fin 2),
    (∀ (i : Fin 256) (on : Bool), WritesIf (.streamEnable dt w sh false i on) dt w (shObj sh.val Obj.shRxEnable) i.val (if on then 1 else 0)
      (fun u => u.sh.length = 2) (fun u t =>
        Stored (shObj sh.val Obj.shRxEnable) i.val (if on then 1 else 0) u t ∧
        (u.paired = false → on = true → u.nat (shObj sh.val Obj.shRxEnable) i.val = 0 → 
          (t.rxSt sh.val i.val).store.isSome = true ∧ (t.rxSt sh.val i.val).staged = (u.rxSt sh.val i.val).staged) ∧
        (u.paired = false → on = false → u.nat (shObj sh.val Obj.shRxEnable) i.val = 1 → 
          t.rxSt sh.val i.val = { RxStream.start with staged := (u.rxSt sh.val i.val).staged }))) ∧
    (∀ (i : Fin 256) (on : Bool), WritesIf (.streamEnable dt w sh true i on) dt w (shObj sh.val Obj.shTxEnable) i.val (if on then 1 else 0)
      (fun u => u.sh.length = 2) (fun u t =>
        Stored (shObj sh.val Obj.shTxEnable) i.val (if on then 1 else 0) u t ∧
        (u.paired = false → on = true → u.nat (shObj sh.val Obj.shTxEnable) i.val = 0 → 
          (t.txSt sh.val i.val).store.isSome = true ∧ (t.txSt sh.val i.val).staged = (u.txSt sh.val i.val).staged) ∧
        (u.paired = false → on = false → u.nat (shObj sh.val Obj.shTxEnable) i.val = 1 → 
          t.txSt sh.val i.val = { TxStream.start with staged := (u.txSt sh.val i.val).staged }))) ∧
    (∀ i : BitVec 16, WritesIf (.shRxMapCommit dt w sh i) dt w (shObj sh.val Obj.shRxMapCommit) 0 i.toNat (fun u => u.sh.length = 2)
      (fun u t => i.toNat < 256 ∧ ∃ l, (t.rxSt sh.val i.toNat).staged = some l ∧ l.length = 64 ∧
        ∀ j, j < (u.rxCfg sh.val i.toNat).chans → j < 64 → l[j]? = some (u.mapEntry sh.val Obj.shRxMap0 i.toNat j))) ∧
    (∀ i : BitVec 16, WritesIf (.shTxMapCommit dt w sh i) dt w (shObj sh.val Obj.shTxMapCommit) 0 i.toNat (fun u => u.sh.length = 2)
      (fun u t => i.toNat < 256 ∧ ∃ l, (t.txSt sh.val i.toNat).staged = some l ∧ l.length = 64 ∧
        ∀ j, j < (u.txCfg sh.val i.toNat).chans → j < 64 → l[j]? = some (u.mapEntry sh.val Obj.shTxMap0 i.toNat j))) ∧
    (∀ on : Bool, Writes (.shPairMode dt w on) dt w Obj.shPairMode 0 (if on then 1 else 0)
      (Stored Obj.shPairMode 0 (if on then 1 else 0))) ∧
    Does (.linkDown dt sh) dt (fun _ => True) (fun u t =>
      t.nat (shObj sh.val Obj.shLink) = 0 ∧ t.fab = u.fab ∧ t.ndl = u.ndl ∧
        (u.nat Obj.ptpPortActive ≠ sh.val → t.tbs = u.tbs)) ∧
    Does (.linkUp dt sh) dt (fun u => sh = 0 ∨ 50000000 ≤ u.now) (fun u t =>
      t.nat (shObj sh.val Obj.shLink) = 1 ∧ t.fab = u.fab ∧ t.ndl = u.ndl ∧
        (u.nat Obj.ptpPortActive ≠ sh.val → t.tbs = u.tbs))

/-- Shuttle frames and control protocols: `Claim.ShuttleFrames` and `Claim.ShuttleControl`. -/
def Obligations.ShuttleFramesAndControl : Prop := ShuttleFrames ∧ ShuttleControl

/-- Streams: `Claim.MediaPackets`, `Claim.ShuttleSamples` and `Claim.StreamSetup`. -/
def Obligations.StreamsAndSamples : Prop := MediaPackets ∧ ShuttleSamples ∧ StreamSetup

/-! ## TDM ports -/

/-- The TDM ports (R194–R203; that a frame short of its slots is none is log entry 143, which frame starts with new tables log
entry 36): a received frame with all its active slots waits, with the words its table maps, for t_s
after its end, and a shorter one is none; a frame is sent with the newest readable bank's words, under the staged table where
one comes into force, and its unused slots as DOUT_IDLE says; a clock that stops is noted; a commit stages both tables. -/
def Obligations.TdmPorts : Prop :=
  ∀ (dt : Nat) (p : Fin 16) (bclk : Nat),
    (∀ line : List TdmCycle,
      let runs (u : State) : Prop := u.tdm.length = 16 ∧
        (tdmMode (u.tdmCfg p.val) = 2 ∨ (tdmMode (u.tdmCfg p.val) = 1 ∧ (u.port p.val).clock = 1 ∧ u.pw.hush = false))
      let din (u : State) : List Bool := dinBits (u.tdmCfg p.val) line
      Does (.tdmRxFrame dt p bclk line) dt (fun u => runs u ∧ 32 * u.tdmActive p.val ≤ (din u).length)
        (fun u t => (t.port p.val).clock = 1 ∧ (t.port p.val).frameAt = u.now ∧ t.fab = u.fab ∧
          ∃ f, (t.port p.val).done = (u.port p.val).done ++ [f] ∧ f.ready = u.now + u.syncTime p.val bclk ∧
            ∀ e, e < u.tdmSlots → u.tdmEntry false p.val e ≠ 0xFFFF →
              (u.tdmEntry false p.val e, word24 (u.tdmCfg p.val) (slotWord (din u) e)) ∈ f.words) ∧
      Does (.tdmRxFrame dt p bclk line) dt (fun u => runs u ∧ (din u).length < 32 * u.tdmActive p.val) (fun u t => t = u)) ∧
    Does (.tdmTxFrame dt p bclk) dt
      (fun u => u.tdm.length = 16 ∧ (u.port p.val).clock = 1 ∧
        (tdmMode (u.tdmCfg p.val) = 2 ∨ (tdmMode (u.tdmCfg p.val) = 1 ∧ u.pw.hush = false)))
      (fun u t =>
        let x := u.applyTables p.val
        let bank := x.bankBefore (u.syncTime p.val bclk)
        t.fab = u.fab ∧ (t.port p.val).lastSent = bank.map (·.stitch) ∧
        t.out = .tdm p.val (u.tdmForm p.val bclk) ((List.range u.tdmSlots).map (fun e =>
          if x.tdmEntry true p.val e = 0xFFFF then doutIdle (u.tdmCfg p.val)
          else some (word24 (u.tdmCfg p.val) (x.txWord bank (x.tdmEntry true p.val e))))) :: u.out) ∧
    Does (.tdmNoClock dt p) dt
      (fun u => u.tdm.length = 16 ∧ (u.port p.val).clock = 1 ∧
        ((tdmMode (u.tdmCfg p.val) = 1 ∧ u.pllLocked (u.pllOf (bits (u.tdmCfg p.val) 13 12)) = false) ∨
          (tdmMode (u.tdmCfg p.val) = 2 ∧ (u.port p.val).frameAt * rateHz (u.nat Obj.stitchRate) + 4000000000000 ≤
            u.now * rateHz (u.nat Obj.stitchRate))))
      (fun u t => (t.port p.val).clock = 2 ∧ (t.port p.val).done = [] ∧ (t.port p.val).lastSent = none ∧
        t.out = .tdmIdle p.val (doutIdle (u.tdmCfg p.val)) :: u.out ∧ t.fab = u.fab ∧ t.clk = u.clk) ∧
    (∀ (w : Writer) (v : BitVec 8), WritesIf (.tdmMapCommit dt w v) dt w Obj.tdmMapCommit 0 v.toNat (fun u => u.tdm.length = 16)
      (fun u t => v.toNat < 16 ∧ (t.port v.toNat).staged = some (u.tdmShadow false v.toNat, u.tdmShadow true v.toNat)))

/-! ## The timebase -/

/-- A PTP message of version 2 and the part's domain was the next control frame of its port; v is the state it is met in, and
at_ when it arrived (R192, R211). -/
def Sys2Proof.Claim.ptpMet (u : State) (h : PtpHdr) (at_ : Nat) (v : State) : Prop :=
  ctrlTaken u h.port.val .ptp = some (at_, v) ∧ h.version = 2 ∧ h.domain = v.ptpDomain

/-- A completed exchange: with the path delay known its offset is measured, and in ACQUIRING and LOCKED the servo's increment
for it is taken up; without, the exchange is kept for the delay (R213, R216). -/
def Sys2Proof.Claim.Exchanged (t1 t2 : Int) (v t : State) : Prop :=
  let off := t2 - t1 - Int.ofNat (v.nat Obj.tbPathDelay)
  (v.tbs.delayOk = true → t.obj Obj.tbOffset = clampOffset off ∧
    (v.nat Obj.tbState = 1 ∨ v.nat Obj.tbState = 2 → t.tbs.outs.head? = some (v.servo off).1.toNat)) ∧
  (v.tbs.delayOk = false → t = { v with tbs := { v.tbs with pair := some (t1, t2), sync := none } })

/-- PTP as a follower (R211, R213, R215, R216): Sync and Follow_Up complete an exchange, with the Sync's time of arrival;
Delay_Req goes out when due, and Delay_Resp gives the path delay; a message of another domain or version is counted and
ignored; with no valid offset for 8 sync intervals lock is lost. The time of the next Delay_Req is log entry 149, and that the
safety table's domain and profile are in force until the journal is restored log entry 202. -/
def Sys2Proof.Claim.PtpFollower : Prop :=
  ∀ (dt : Nat) (h : PtpHdr) (leader : BitVec 64) (seq : BitVec 16) (corr : Int) (at_ : Nat) (v : State),
    let led (u : State) : Prop := ptpMet u h at_ v ∧ v.fromLeader h leader.toNat = true
    (∀ origin : Int, Does (.ptpSync dt h leader seq true origin corr) dt led (fun _ t =>
      t = { v with tbs := { v.tbs with sync := some (seq.toNat, Int.ofNat at_, corr + v.obj Obj.ptpAsym h.port.val) } })) ∧
    (∀ origin : Int, Does (.ptpSync dt h leader seq false origin corr) dt led
      (fun _ t => Exchanged (origin + (corr + v.obj Obj.ptpAsym h.port.val)) (Int.ofNat at_) v t)) ∧
    (∀ (two : Bool) (origin : Int), Does (.ptpSync dt h leader seq two origin corr) dt
      (fun u => ctrlTaken u h.port.val .ptp = some (at_, v) ∧ (h.version ≠ 2 ∨ h.domain ≠ v.ptpDomain))
      (fun u t => t.tbs = u.tbs ∧ t.sh = v.sh ∧ Counted u t Obj.ptpIgnoredHem 0 1)) ∧
    (∀ origin t2 c : Int, Does (.ptpFollowUp dt h leader seq origin corr) dt
      (fun u => led u ∧ v.tbs.sync = some (seq.toNat, t2, c)) (fun _ t => Exchanged (origin + c + corr) t2 v t)) ∧
    (∀ interval received t1 t2 t3 : Int, Does (.ptpDelayResp dt h leader seq interval received corr) dt
      (fun u => led u ∧ v.tbs.req = some (seq.toNat, t3) ∧ v.tbs.pair = some (t1, t2))
      (fun _ t => t.nat Obj.tbPathDelay = min (((t2 - t1) + (received - corr - t3)).fdiv 2).toNat 0xFFFFFFFF ∧
        t.tbs = { v.tbs with delayOk := true, req := none, reqLog := some interval })) ∧
    Does (.delayReqSend dt) dt
      (fun u => (u.nat Obj.ptpPortState = 8 ∨ u.nat Obj.ptpPortState = 9) ∧ u.tbs.reqAt ≤ u.now ∧
        u.shIp (u.nat Obj.ptpPortActive) ≠ 0) (fun u t =>
        let port := u.nat Obj.ptpPortActive
        let q := u.ptpSeq 2
        let m : NetMsg := .ptp 1 u.ptpDomain q 127 (-u.obj Obj.ptpAsym port) u.tbNs 0 []
        t.out = .frame port (u.netTag port (some 1) m) m :: u.out ∧
        (∃ next, u.now ≤ next ∧ next ≤ u.now + 2 * logPs (u.tbs.reqLog.getD (u.ptpInterval 2)) ∧
          t.tbs = { u.tbs with seqs := modAt u.tbs.seqs 2 (· + 1), req := some (q, Int.ofNat u.tbNs), reqAt := next }) ∧
        t.regs = u.regs) ∧
    Does (.syncTimeout dt) dt
      (fun u => (u.nat Obj.ptpPortState = 8 ∨ u.nat Obj.ptpPortState = 9) ∧ u.nat Obj.tbState ≠ 0 ∧ u.nat Obj.tbState ≠ 3 ∧
        u.tbs.offAt + 8 * logPs (u.ptpInterval 0) ≤ u.now)
      (fun u t => t.nat Obj.tbState = (if u.tbs.media.isSome then 3 else 0) ∧
        (u.tbs.media.isSome = true → Counted u t Obj.holdoverHem 0 1) ∧ t.clk = u.clk ∧ t.tbs.stepDue = none)

/-- Leaders (R211–R213, R215, R220): an Announce is noted with its data set; the part that leads answers Delay_Req with its time
of arrival, and sends Sync with Follow_Up, and Announce with its own data set, each when it is due; the receipt timeout of a
leader not heard moves the port or ends in HOLDOVER or FREE, and then a part that may lead leads (IEEE 1588-2019, PRESUMED:
log entry 45). Without an address nothing is sent (R193). -/
def Sys2Proof.Claim.PtpLeaders : Prop :=
  ∀ (dt : Nat) (h : PtpHdr) (id : BitVec 64) (seq : BitVec 16) (at_ : Nat) (v : State),
    (∀ (prio1 cls accuracy prio2 : BitVec 8) (variance steps : BitVec 16),
      Does (.ptpAnnounce dt h id prio1 cls accuracy variance prio2 steps) dt (fun u => ptpMet u h at_ v ∧ id.toNat ≠ v.ownId) (fun u t =>
      ∃ f, t.tbs.foreign.head? = some f ∧ f.port = h.port.val ∧ f.rank = [prio1.toNat, cls.toNat, accuracy.toNat, variance.toNat,
        prio2.toNat, id.toNat, steps.toNat] ∧ f.heard.head? = some u.now)) ∧
    (∀ corr : Int, Does (.delayReqReceived dt h id seq corr) dt
      (fun u => ptpMet u h at_ v ∧ v.nat Obj.ptpPortState = 6 ∧ v.nat Obj.ptpPortActive = h.port.val)
      (fun u t =>
        let m : NetMsg := .ptp 9 u.ptpDomain seq.toNat (u.ptpInterval 2) corr at_ id.toNat []
        t.out = .frame h.port.val (u.netTag h.port.val (some 1) m) m :: u.out ∧ t.regs = u.regs ∧ t.tbs = u.tbs)) ∧
    (∀ c : Instr, c = .ptpLeaderSend dt ∨ c = .delayReqSend dt →
      Does c dt (fun u => u.shIp (u.nat Obj.ptpPortActive) = 0) (fun u t => t.out = u.out ∧ t.regs = u.regs)) ∧
    Does (.ptpLeaderSend dt) dt (fun u => u.nat Obj.ptpPortState = 6 ∧ u.shIp (u.nat Obj.ptpPortActive) ≠ 0) (fun u t =>
      let port := u.nat Obj.ptpPortActive
      let msg (kind seq : Nat) (l : Int) (set : List Nat) : Out :=
        let m : NetMsg := .ptp kind u.ptpDomain seq l 0 u.tbNs 0 set
        .frame port (u.netTag port (some 1) m) m
      let sync := u.ptpDue u.tbs.syncAt 0
      let ann := u.ptpDue u.tbs.annAt 1
      let l := u.ptpInterval 0
      t.out = (if ann then [msg 11 (u.ptpSeq 1) (u.ptpInterval 1) u.ownSet] else []) ++
        (if sync then [msg 8 (u.ptpSeq 0) l [], msg 0 (u.ptpSeq 0) l []] else []) ++ u.out ∧
      t.tbs.syncAt = (if sync then some u.now else u.tbs.syncAt) ∧ t.tbs.annAt = (if ann then some u.now else u.tbs.annAt) ∧
      t.regs = u.regs) ∧
    Does (.announceTimeout dt) dt
      (fun u => u.nat Obj.ptpPortState ≠ 6 ∧ u.leaderHeard = false ∧ u.failover = none ∧ u.nat Obj.tbRole = 1) (fun u t =>
      t.nat Obj.ptpPortState = 4 ∧ t.nat Obj.ptpLeader = 0 ∧ (t.nat Obj.tbState = 0 ∨ t.nat Obj.tbState = 3) ∧ t.clk = u.clk) ∧
    Does (.announceTimeout dt) dt
      (fun u => u.nat Obj.ptpPortState ≠ 6 ∧ u.leaderHeard = false ∧ u.failover = none ∧ u.nat Obj.tbRole ≠ 1) (fun u t =>
      t.nat Obj.ptpPortState = 6 ∧ t.nat Obj.ptpLeader = 0 ∧ t.clk = u.clk) ∧
    Does (.announceTimeout dt) dt (fun u => u.nat Obj.ptpPortState ≠ 6 ∧ u.leaderHeard = false ∧ u.failover ≠ none) (fun u t =>
      t.nat Obj.ptpPortActive = 1 - u.nat Obj.ptpPortActive ∧ Counted u t Obj.ptpFailoverHem 0 1 ∧ t.clk = u.clk)

/-- The timebase itself (R209, R217): a step moves its time, and the latest strobe's place in it, by the whole amount while no
change of service or rate waits, and waits for one; each millisecond the increment moves by at most 16 ppm toward its target,
within 500 ppm, and a correction that meets that limit sets PULL_LIMIT; TB_FREQ is that of the increment, rounded down (log entry
38); TB_SET makes a step due. -/
def Sys2Proof.Claim.TimebaseSteps : Prop :=
  ∀ dt : Nat,
    (∀ d : Int, Does (.tbStep dt) dt
      (fun u => u.tbs.stepDue = some d ∧ u.changePending = false ∧ u.deadlineOf ≠ some u.stitch ∧ u.within 320 = false)
      (fun u t => t.clk = { u.clk with tb := (Int.ofNat u.clk.tb + d).toNat, strobeTb := (Int.ofNat u.clk.strobeTb + d).toNat } ∧
        t.tbs.stepDue = none ∧ t.tbs.stepped = true ∧ Counted u t Obj.tbStepHem 0 1 ∧ t.stitch = u.stitch ∧ t.fab = u.fab)) ∧
    Does (.tbStep dt) dt (fun u => u.changePending = true) (fun u t => t = u) ∧
    (∀ ref : Int, Does (.freqStep dt ref) dt (fun u => ∀ q, u.tbs.freqAt = some q → q + msPs ≤ u.now) (fun u t =>
      let lo : Int := nominalInc - incClamp
      let hi : Int := nominalInc + incClamp
      let want := u.incTarget ref
      let inc : Int := max lo (min hi (max (u.clk.inc - incStep) (min (u.clk.inc + incStep) want)))
      t.clk = { u.clk with inc := inc.toNat } ∧ t.tbs.freqAt = some u.now ∧
        t.obj Obj.tbFreq = ((inc - nominalInc) * 1000000000).fdiv nominalInc ∧
        ((inc = lo ∧ want < lo) ∨ (inc = hi ∧ hi < want) → u.tbs.clamped ≠ some want → t.bit Obj.refStatus 0 5 = true))) ∧
    (∀ (w : Writer) (ns : Nat), Writes (.tbSet dt w ns) dt w Obj.tbSet 0 ns (fun u t =>
      t.tbs.stepDue = some (ns * 2 ^ 32 - Int.ofNat u.clk.tb) ∧ t.clk = u.clk))

/-- The source that takes over for the crystal: 1 REF_IN, 2 WCK_IN, 3 the backup (R221). -/
def Sys2Proof.Claim.spareSource (refIn wckIn : Bool) : Nat := if refIn then 1 else if wckIn then 2 else 3

/-- References and media PLLs (R221–R227): with the crystal gone, REF_IN, WCK_IN or the backup takes over and both PLLs lose lock,
and so again where that reference is lost (log entry 146); a 1PPS edge that disciplines the timebase steps it once or is an offset; PLL_STATUS
follows lock; a slew whose steps have passed leaves the output running at its phase. -/
def Sys2Proof.Claim.ReferencesAndClocks : Prop :=
  ∀ dt : Nat,
    let taken (src : Nat) (u t : State) : Prop := t.tbs.src = src ∧ t.onBackup = (src == 3) ∧ t.pllLocked 0 = false ∧
      t.pllLocked 1 = false ∧ t.clk = u.clk
    Does (.xtalFail dt) dt (fun u => u.bit Obj.refStatus 0 0 = true) (fun u t =>
      t.bit Obj.refStatus 0 0 = false ∧ taken (spareSource (u.bit Obj.refStatus 0 2) (u.bit Obj.refStatus 0 1)) u t) ∧
    Does (.xtalRestore dt) dt (fun _ => True) (fun u t => t.bit Obj.refStatus 0 0 = true ∧ t.onBackup = false ∧ t.tbs.src = 0 ∧
      t.nat Obj.tbState = u.nat Obj.tbState ∧ t.clk = u.clk) ∧
    (∀ r : Fin 3, Does (.refPresent dt r) dt (fun _ => True) (fun u t => t.bit Obj.refStatus 0 (1 + r.val) = true ∧ t.tbs = u.tbs) ∧
      Does (.refLost dt r) dt (fun _ => True) (fun u t => t.bit Obj.refStatus 0 (1 + r.val) = false ∧ t.clk = u.clk ∧
        (u.tbs.src = 1 → r.val = 1 → taken (spareSource false (u.bit Obj.refStatus 0 1)) u t) ∧
        (u.tbs.src = 2 → r.val = 0 → taken (spareSource (u.bit Obj.refStatus 0 2) false) u t))) ∧
    Does (.ppsEdge dt) dt (fun _ => True) (fun u t => t.tbs.ppsAt = some u.now ∧ t.clk = u.clk ∧
      (u.nat Obj.tbTimeSrc = 1 → u.nat Obj.ptpPortState = 6 → u.bit Obj.refStatus 0 3 = true →
        u.nat Obj.tbState = 1 ∨ u.nat Obj.tbState = 2 →
        if u.tbs.ppsOk = false ∧ u.nat Obj.tbStepNs < u.ppsOffset.natAbs then t.tbs.stepDue = some (-u.ppsOffset * 2 ^ 32)
        else t.obj Obj.tbOffset = clampOffset u.ppsOffset)) ∧
    (∀ pll : Fin 2, Does (.lockLost dt pll) dt (fun u => u.pllLocked pll.val = true) (fun u t =>
      t.pllLocked pll.val = false ∧ Counted u t Obj.lockLostHem pll.val 1 ∧ t.tbs = u.tbs)) ∧
    (∀ pll : Fin 2, Does (.pllRelock dt pll) dt (fun _ => True) (fun u t => t.pllLocked pll.val = true ∧ t.tbs = u.tbs)) ∧
    (∀ i : Fin 10, Does (.clkSlewDone dt i) dt
      (fun u => u.nat Obj.clkState i.val = 5 ∧ u.phaseTo i.val (u.obj Obj.clkPhase i.val) = u.obj Obj.clkPhase i.val) (fun u t =>
      t.nat Obj.clkState i.val = 1 ∧ t.clk = u.clk ∧ t.tbs = { u.tbs with
        phase := setAt u.tbs.phase i.val (u.obj Obj.clkPhase i.val), phaseAt := setAt u.tbs.phaseAt i.val u.clk.tb }))

/-- PTP: `Claim.PtpFollower` and `Claim.PtpLeaders`. -/
def Sys2Proof.Claim.Ptp : Prop := PtpFollower ∧ PtpLeaders

/-- The timebase and its references: `Claim.TimebaseSteps` and `Claim.ReferencesAndClocks`. -/
def Sys2Proof.Claim.TimebaseAndClocks : Prop := TimebaseSteps ∧ ReferencesAndClocks

/-! ## sACN -/

/-- A data packet of the part's universes that R277 lets through. -/
def Sys2Proof.Claim.sacnGood (u : State) (p : SacnPkt) (i : Nat) : Prop :=
  p.valid = true ∧ p.cid.toNat ≠ u.ownCid ∧ p.discovery = false ∧ p.preview = false ∧ p.start = 0 ∧
    p.univ.toNat = u.ven.base + i ∧ i ≤ 32767 ∧ u.univRx i = true ∧
    (∀ x, u.sacnSrc? p.cid.toNat i = some x → seqOld p.seq.toNat x.seq = false) ∧
    (u.univPolicy i = 2 ∨ u.univPolicy i = 3 → u.pairFits i (.sacn p.cid.toNat) = true)

/-- sACN reception (R277–R281): an accepted packet is counted, and its source is live with its number and time; a
terminating one ends the source, one that is no valid packet or whose number is old is counted; a synchronization packet
and its timeout release what the source holds; a source expires after 2.5 s. That the number of a synchronization packet is kept for
2.5 s is log entry 78. -/
def Sys2Proof.Claim.SacnReception : Prop :=
  ∀ (dt : Nat) (port : Fin 4),
    (∀ (p : SacnPkt) (i : Nat) (v : State), Does (.sacnDataPacket dt port p false) dt
      (fun u => arrivesAt u port.val .sacn = some v ∧ sacnGood v p i)
      (fun u t => Counted u t Obj.sacnRxPktHem 0 1 ∧ t.clk = u.clk ∧ t.fab = u.fab ∧
        if p.term then ∀ x ∈ t.ven.srcs, ¬(x.cid = p.cid.toNat ∧ x.univ = i)
        else ∃ x ∈ t.ven.srcs, x.cid = p.cid.toNat ∧ x.univ = i ∧ x.seq = p.seq.toNat ∧ x.at_ = u.now ∧
          (p.sync ≠ 0 → x.held = some (p.sync.toNat, p.slots, u.now, p.prio.toNat)))) ∧
    (∀ (p : SacnPkt) (full : Bool) (v : State), Does (.sacnDataPacket dt port p full) dt
      (fun u => arrivesAt u port.val .sacn = some v ∧ p.valid = false)
      (fun u t => Counted u t Obj.sacnIgnoredHem 0 1 ∧ t.ven = u.ven ∧ t.dict = u.dict)) ∧
    (∀ (p : SacnPkt) (i : Nat) (x : SacnSrc) (full : Bool) (v : State), Does (.sacnDataPacket dt port p full) dt
      (fun u => arrivesAt u port.val .sacn = some v ∧ p.valid = true ∧ p.cid.toNat ≠ v.ownCid ∧ p.discovery = false ∧
        p.preview = false ∧ p.start = 0 ∧ p.univ.toNat = v.ven.base + i ∧ i ≤ 32767 ∧ v.univRx i = true ∧
        v.sacnSrc? p.cid.toNat i = some x ∧ seqOld p.seq.toNat x.seq = true)
      (fun u t => Counted u t Obj.sacnSeqHem 0 1 ∧ t.ven = u.ven ∧ t.dict = u.dict)) ∧
    (∀ (cid : BitVec 128) (addr : BitVec 16) (seq : BitVec 8) (v : State), Does (.sacnSyncPacket dt port true cid addr seq) dt
      (fun u => arrivesAt u port.val .sacn = some v ∧ cid.toNat ≠ u.ownCid ∧
        ∀ y ∈ u.ven.syncs, y.1 = cid.toNat → y.2.1 = addr.toNat → u.now < y.2.2.2 + 2500 * msPs → seqOld seq.toNat y.2.2.1 = false)
      (fun u t => Counted u t Obj.sacnRxPktHem 0 1 ∧ (cid.toNat, addr.toNat, seq.toNat, u.now) ∈ t.ven.syncs ∧
        t.heldFor cid.toNat addr.toNat = [])) ∧
    (∀ (cid : BitVec 128) (addr : BitVec 16) (e : SacnSrc × List Byte × Nat × Nat) (l : List (SacnSrc × List Byte × Nat × Nat)),
      Does (.sacnSyncTimeout dt cid addr) dt (fun u => u.heldFor cid.toNat addr.toNat = e :: l ∧ e.2.2.1 + 1000 * msPs ≤ u.now)
        (fun u t => Counted u t Obj.sacnSyncLostHem 0 1 ∧ t.heldFor cid.toNat addr.toNat = [])) ∧
    (∀ (cid : BitVec 128) (i : Fin 32768) (x : SacnSrc), Does (.sacnSourceExpire dt cid i) dt
      (fun u => u.sacnSrc? cid.toNat i.val = some x ∧ x.at_ + 2500 * msPs ≤ u.now)
      (fun u t => t.sacnSrc? cid.toNat i.val = none ∧ t.ven.syncs = u.ven.syncs ∧ t.clk = u.clk))

/-- sACN transmission (R282, R283): at a cue point each live universe's slots go to every port that carries it and can send
at once, under the universe's next number, one for all its ports (log entry 79); what is slow is dropped after 5 ms and counted; every 10 s each port's list of
universes is sent. -/
def Sys2Proof.Claim.SacnTransmission : Prop :=
  ∀ dt : Nat,
    (∀ (slow : List (Fin 4 × Fin 32768)) (full : BitVec 2), Does (.sacnCuePoint dt slow full) dt
      (fun u => u.atCue (u.nat Obj.sacnTxHz) = true ∧ u.ven.cueAt ≠ some u.stitch ∧ u.venueGated = false)
      (fun u t => t.ven.cueAt = some u.stitch ∧ t.ven.cueTime = u.now ∧ t.ven.srcs = u.ven.srcs ∧
        ∀ (i : Fin 32768) (port : Fin 4), i.val ∈ u.txUnivs → u.portCarries port.val i.val = true → u.portUp port.val = true →
          (port, i) ∉ slow → (port.val < 2 ∨ full.toNat.testBit (port.val - 2) = false) →
          let m : NetMsg := .sacn (0xEFFF0000 + (u.ven.base + i.val)) (u.ven.base + i.val)
            ((look (fun _ => 0) u.ven.seqs i.val + 1) % 256) (u.nat Obj.sacnTxPrio) (u.nat Obj.sacnSyncAddr) (u.blob Obj.sacnCid)
            (u.blob Obj.sacnName) false (u.activeSlots i.val)
          Out.frame port.val (u.netTag port.val (some 2) m) m ∈ t.out)) ∧
    Does (.sacnTxLate dt) dt (fun u => u.ven.slow ≠ [] ∧ u.ven.cueTime + 5 * msPs ≤ u.now) (fun u t =>
      t.ven = { u.ven with slow := [] } ∧ Counted u t Obj.sacnTxLateHem 0 u.ven.slow.length) ∧
    Does (.sacnDiscovery dt) dt (fun u => u.ven.discAt + 10000 * msPs ≤ u.now ∧ u.venueGated = false) (fun u t =>
      t.ven = { u.ven with discAt := u.now } ∧ t.regs = u.regs ∧
        ∀ port : Fin 4, u.portUp port.val = true → u.txUnivs.filter (u.portCarries port.val) ≠ [] →
          let m : NetMsg := .sacnDiscovery (u.blob Obj.sacnCid) (u.blob Obj.sacnName)
            ((u.txUnivs.filter (u.portCarries port.val)).map (· + u.ven.base))
          Out.frame port.val (u.netTag port.val (some 2) m) m ∈ t.out)

/-! ## DMX512, RDM and T1S -/

/-- DMX (R284–R287, R295): at its cue point, from which a frame's length runs (log entry 173), a port in OUT mode sends its
universe's slots with its timing, or counts a skip; in TRIM, once the safety table is in force, a port it names sends its safe look
at the 22 Hz cue points, and with no valid table the port reads NO_LOOK there (R315); a frame sent leaves it
idle; a good received frame makes its source live, a bad break is counted, and 1.25 s end the
source. -/
def Sys2Proof.Claim.DmxPorts : Prop :=
  ∀ (dt : Nat) (p : Fin 8),
    let cue (u : State) : Prop := u.ven.dmx.length = 8 ∧ u.level = 0 ∧ u.venueGated = false ∧ dmxMode (u.dmxCfg p.val) = 1 ∧
      u.atCue (dmxHz (u.dmxCfg p.val)) = true ∧ (u.dmxPort p.val).cueAt ≠ some u.stitch
    Does (.dmxCuePoint dt p) dt (fun u => cue u ∧ (u.dmxPort p.val).sending = none ∧ (u.dmxPort p.val).req = none) (fun u t =>
      let x := u.nat Obj.dmxTiming p.val
      let n := bits (u.dmxCfg p.val) 19 10
      (t.dmxPort p.val).sending = some (u.now + max (bits x 29 20 + bits x 19 10 + 44 * (min n 512 + 1) + bits x 6 0 * min n 512) 1204 * 1000000) ∧
        (t.dmxPort p.val).cueAt = some u.stitch ∧
        t.out = .dmx p.val (bits x 29 20) (bits x 19 10) (bits x 6 0)
          ((u.activeSlots (u.nat Obj.dmxUniv p.val)).take n) :: u.out) ∧
    Does (.dmxCuePoint dt p) dt (fun u => cue u ∧ ((∃ q, (u.dmxPort p.val).sending = some q ∧ u.now < q) ∨
        ((u.dmxPort p.val).sending = none ∧ (u.dmxPort p.val).req ≠ none))) (fun u t =>
      Counted u t Obj.dmxSkipHem p.val 1 ∧ t.out = u.out ∧ (t.dmxPort p.val).sending = (u.dmxPort p.val).sending) ∧
    Does (.dmxCuePoint dt p) dt
      (fun u => u.ven.dmx.length = 8 ∧ u.level = 1 ∧ u.safe.since.isSome = true ∧ u.pw.hush = false ∧ u.lookOn p.val = true ∧
        u.atCue 22 = true ∧ (u.dmxPort p.val).cueAt ≠ some u.stitch ∧ (u.dmxPort p.val).sending = none)
      (fun u t => (t.dmxPort p.val).sending = some (u.now + 22760 * 1000000) ∧ (t.dmxPort p.val).cueAt = some u.stitch ∧
        t.out = .dmx p.val 176 12 0 (lookAll (fun _ => (0 : Byte)) u.safe.table (0x1600 + 512 * p.val) 512) :: u.out) ∧
    Does (.dmxCuePoint dt p) dt
      (fun u => u.ven.dmx.length = 8 ∧ u.level = 1 ∧ u.safe.valid = false ∧ u.atCue 22 = true ∧ (u.dmxPort p.val).cueAt ≠ some u.stitch)
      (fun u t => t.nat Obj.dmxState p.val = 5 ∧ t.out = u.out) ∧
    Does (.dmxFrameSent dt p) dt (fun u => u.ven.dmx.length = 8 ∧ ∃ q, (u.dmxPort p.val).sending = some q ∧ q ≤ u.now) (fun u t =>
      (t.dmxPort p.val).sending = none ∧ Counted u t Obj.dmxFrameHem p.val 1 ∧ t.out = u.out) ∧
    (∀ f : DmxFrame, Does (.dmxFrameReceived dt p f) dt
      (fun u => u.ven.dmx.length = 8 ∧ dmxMode (u.dmxCfg p.val) = 2 ∧ 88000 ≤ f.brk ∧ f.brkInSlot = false ∧ f.badStop = false ∧
        8000 ≤ f.mab ∧ f.start = 0)
      (fun u t => (t.dmxPort p.val).inAt = some u.now ∧ Counted u t Obj.dmxFrameHem p.val 1 ∧ t.out = u.out)) ∧
    (∀ f : DmxFrame, Does (.dmxFrameReceived dt p f) dt
      (fun u => dmxMode (u.dmxCfg p.val) = 2 ∧ (f.brk < 88000 ∨ f.brkInSlot = true))
      (fun u t => t.ven = u.ven ∧ t.dict = u.dict ∧ Counted u t Obj.dmxBreakHem p.val 1)) ∧
    (∀ q : Nat, Does (.dmxSourceExpire dt p) dt
      (fun u => u.ven.dmx.length = 8 ∧ (u.dmxPort p.val).inAt = some q ∧ q + 1250 * msPs ≤ u.now)
      (fun u t => (t.dmxPort p.val).inAt = none ∧ t.out = u.out ∧
        ∀ num, slotBase ≤ num → num ≤ 0x1FFFFFF → ∀ c ∈ t.contribsOf num, c.src ≠ .dmx p.val))

/-- RDM (R288–R290): a command waits until a gap holds it, its answer or timeout ends it with RDM_RESP, and a discovery
branches, mutes and lists devices. -/
def Sys2Proof.Claim.RdmPorts : Prop :=
  ∀ (dt : Nat) (p : Fin 8),
    (∀ (w : Writer) (l : List Byte), WritesBlob (.rdmCmd dt w p l) dt w (Obj.rdmCmd0 + p.val) l (fun u t =>
      t.ven.dmx = modAt u.ven.dmx p.val (fun d => { d with cmd := some l }) ∧ t.blob (Obj.rdmResp0 + p.val) = [])) ∧
    (∀ (w : Writer) (v : Byte), Writes (.rdmDiscover dt w v) dt w Obj.rdmDiscover 0 v.toNat (fun u t =>
      v.toNat < 8 ∧ t.nat Obj.rdmDiscState v.toNat = 1 ∧
        (u.ven.dmx.length = 8 → (t.dmxPort v.toNat).disc = some ⟨2, [(0, 0xFFFFFFFFFFFE, 0)], none, 0, false⟩))) ∧
    (∀ r : RdmReq, Does (.rdmTransaction dt p) dt
      (fun u => u.ven.dmx.length = 8 ∧ (u.dmxPort p.val).nextReq = some r ∧ u.rdmOn p.val = true ∧
        (u.dmxPort p.val).sending = none ∧ (u.dmxPort p.val).req = none ∧ (bits (u.dmxCfg p.val) 23 20 ≤ (u.dmxPort p.val).since ∨
          (bits (u.nat Obj.dmxTiming p.val) 29 20 + bits (u.nat Obj.dmxTiming p.val) 19 10 + 44 * r.bytes + 2800) * 1000000 <
            u.toCue p.val))
      (fun u t => (t.dmxPort p.val).req = some r ∧ t.out = .rdm p.val (bits (u.nat Obj.rdmSrcUid p.val) 47 0) r :: u.out ∧
        (t.dmxPort p.val).reqEnd = u.now +
          (bits (u.nat Obj.dmxTiming p.val) 29 20 + bits (u.nat Obj.dmxTiming p.val) 19 10 + 44 * r.bytes + 2800) * 1000000)) ∧
    (∀ (r : RdmAnswer) (l : List Byte), Does (.rdmResponse dt p r) dt
      (fun u => u.ven.dmx.length = 8 ∧ (u.dmxPort p.val).req = some (.cmd l) ∧ r.badBrk = false ∧ r.badStop = false ∧
        rdmBroadcast l = false)
      (fun u t => (t.dmxPort p.val).req = none ∧ (t.dmxPort p.val).cmd = none ∧
        t.blob (Obj.rdmResp0 + p.val) = (if r.csumOk then rdmAnswer r.rtype.val r.pid.toNat r.data else rdmAnswer 0x11 (rdmPid l) []) ∧
        (r.csumOk = false → Counted u t Obj.rdmCsumHem p.val 1))) ∧
    (∀ (r : RdmAnswer) (lo hi : Nat) (x : Disc), Does (.rdmResponse dt p r) dt
      (fun u => u.ven.dmx.length = 8 ∧ (u.dmxPort p.val).req = some (.branch lo hi) ∧ (u.dmxPort p.val).disc = some x ∧
        r.badBrk = false ∧ r.badStop = false ∧ r.formOk = true ∧ r.csumOk = true)
      (fun _ t => (t.dmxPort p.val).req = none ∧ (t.dmxPort p.val).disc = some { x with muting := some r.uid.toNat })) ∧
    (∀ (r : RdmAnswer) (uid : Nat) (x : Disc), Does (.rdmResponse dt p r) dt
      (fun u => u.ven.dmx.length = 8 ∧ (u.dmxPort p.val).req = some (.mute uid) ∧ (u.dmxPort p.val).disc = some x ∧ x.found < 256 ∧
        u.isStranger uid = false ∧ r.badBrk = false ∧ r.badStop = false ∧ r.csumOk = true ∧ r.rtype = 0)
      (fun _ t => (t.dmxPort p.val).req = none ∧ t.nat (Obj.rdmUids0 + p.val) x.found = uid)) ∧
    (∀ l : List Byte, Does (.rdmTimeout dt p) dt (fun u => u.ven.dmx.length = 8 ∧ (u.dmxPort p.val).req = some (.cmd l) ∧ (u.dmxPort p.val).reqEnd ≤ u.now) (fun u t =>
      (t.dmxPort p.val).req = none ∧ (t.dmxPort p.val).cmd = none ∧
        t.blob (Obj.rdmResp0 + p.val) = rdmAnswer (if rdmBroadcast l then 0x12 else 0x10) (rdmPid l) [] ∧
        (rdmBroadcast l = false → Counted u t Obj.rdmTimeoutHem p.val 1)))

/-- The 10BASE-T1S segments (R292): beacons lost and found set T1S_STATE, and collisions and jabbers are counted. -/
def Sys2Proof.Claim.T1sSegments : Prop :=
  ∀ (dt : Nat) (g : Fin 2),
    Does (.t1sBeacon dt g) dt (fun u => u.nat Obj.t1sState g.val = 3) (fun u t => t.nat Obj.t1sState g.val = 1 ∧ t.ven = u.ven) ∧
    Does (.t1sBeaconLoss dt g) dt (fun u => u.follower g.val = true ∧ u.nat Obj.t1sState g.val = 1) (fun u t =>
      t.nat Obj.t1sState g.val = 3 ∧ Counted u t Obj.t1sBeaconLossHem g.val 1 ∧ t.ven = u.ven) ∧
    (∀ n : Fin 16, Does (.t1sCollision dt g (.collision n)) dt (fun u => u.bit Obj.t1sCfg g.val 0 = true) (fun u t =>
      Counted u t Obj.t1sCollHem g.val 1 ∧ (n.val = 15 → Counted u t Obj.t1sTxDropHem g.val 1) ∧
        (n.val ≠ 15 → t.nat Obj.t1sTxDropHem g.val = u.nat Obj.t1sTxDropHem g.val) ∧ t.ven = u.ven)) ∧
    Does (.t1sCollision dt g .jabber) dt (fun u => u.bit Obj.t1sCfg g.val 0 = true) (fun u t =>
      Counted u t Obj.t1sJabberHem g.val 1 ∧ t.ven = u.ven ∧ t.out = u.out)

/-- DMX, RDM and T1S: `Claim.DmxPorts`, `Claim.RdmPorts` and `Claim.T1sSegments`. -/
def Obligations.DmxRdmAndT1s : Prop := DmxPorts ∧ RdmPorts ∧ T1sSegments

/-! ## OSC -/

/-- OSC (R293, R294; OSC_RX_HEM counts a peer's datagram, matched or not: log entry 87): a stranger's datagram and a message for no
entry are counted; a message that names an entry and is
accepted writes its object and renews its peer; a silent peer's writes end; a mapping entry is stored; at a boundary of
OSC_INTERVAL an entry whose object has changed goes to every peer that can be reached, with its value as the argument where its tag
is an integer or a string that holds it, and none goes before its boundary. -/
def Obligations.OscMessages : Prop :=
  ∀ dt : Nat,
    (∀ (port : Fin 4) (ip : BitVec 32) (udp : BitVec 16) (l : List OscMsg) (v : State), Does (.oscPacket dt port ip udp l) dt
      (fun u => u.boot.admitted = true ∧ arrivesAt u port.val .osc = some v ∧ v.oscPeer? ip.toNat udp.toNat = none)
      (fun u t => Counted u t Obj.oscStrangerHem 0 1 ∧ t.ven = u.ven ∧ t.dict = u.dict)) ∧
    (∀ (port : Fin 4) (ip : BitVec 32) (udp : BitVec 16) (m : OscMsg) (v : State) (k : Nat), Does (.oscPacket dt port ip udp [m]) dt
      (fun u => u.boot.admitted = true ∧ arrivesAt u port.val .osc = some v ∧ v.oscPeer? ip.toNat udp.toNat = some k ∧
        v.oscEntry? m.addr = none)
      (fun u t => Counted u t Obj.oscRxHem 0 1 ∧ Counted u t Obj.oscUnmatchedHem 0 1 ∧ t.ven = u.ven ∧ t.dict = u.dict)) ∧
    (∀ (port : Fin 4) (ip : BitVec 32) (udp : BitVec 16) (m : OscMsg) (v : State) (k : Nat) (e bytes : List Byte) (a : OscArg) (d : ODesc),
      let q : WReq := ⟨leNat (e.take 4), 0, 1, d.code, bytes⟩
      let counted (v : State) := (v.bump Obj.oscRxHem).fresh.2
      let r (v : State) := (counted v).write1 ⟨.osc k, some (v.nat Obj.oscRole), v.nat Obj.oscPrio⟩ q
      Does (.oscPacket dt port ip udp [m]) dt
        (fun u => u.boot.admitted = true ∧ arrivesAt u port.val .osc = some v ∧ v.oscPeer? ip.toNat udp.toNat = some k ∧
          v.oscEntry? m.addr = some e ∧ m.arg = some a ∧ (counted v).desc? (leNat (e.take 4)) = some d ∧ d.arr = false ∧
          (∀ up, oscBytes d.ty a up = some bytes) ∧ (r v).1 = St.ok)
        (fun u t => t.regs = (r v).2.regs ∧ t.blobs = (r v).2.blobs ∧ t.dict = (r v).2.dict ∧
          t.ven.oscAt = setAt (r v).2.ven.oscAt k (some u.now))) ∧
    (∀ (k : Fin 8) (q : Nat), Does (.oscPeerExpire dt k) dt
      (fun u => u.ven.oscAt.getD k.val none = some q ∧ q + 10000 * msPs ≤ u.now)
      (fun u t => t.ven = { u.ven with oscAt := setAt u.ven.oscAt k.val none } ∧
        ∀ num, slotBase ≤ num → num ≤ 0x1FFFFFF → ∀ c ∈ t.contribsOf num, c.src ≠ .osc k.val)) ∧
    (∀ (w : Writer) (l : List Byte), WritesBlob (.oscMapEntry dt w l) dt w Obj.oscMapEntry l (fun u t =>
      t.ven.map = put (fun _ => List.replicate 72 0) u.ven.map (u.nat Obj.oscMapSel) l ∧ l.length = 72 ∧ t.ven.oscAt = u.ven.oscAt)) ∧
    (∀ (full : BitVec 2) (i : Nat) (e : List Byte) (d : ODesc), Does (.oscSend dt full) dt
      (fun u => u.venueGated = false ∧ u.ven.map.filter (fun x => decide (2 ≤ oscDir x.2) && u.oscDue x.1) = [(i, e)] ∧
        u.desc? (leNat (e.take 4)) = some d ∧ d.arr = false ∧ d.may 2 (some (u.nat Obj.oscRole)) = true ∧
        look (fun _ => 0) u.ven.mapLast i < look (fun _ => 0) u.chg (leNat (e.take 4)))
      (fun u t => look (fun _ => 0) t.ven.mapLast i = u.chgSeq ∧ t.ven.map = u.ven.map ∧
        ∀ (k : Fin 8) (port : Nat), let v := u.nat Obj.oscPeers k.val
          bits v 15 0 ≠ 0 → u.oscPort? (bits v 47 16) = some port → (port < 2 ∨ full.toNat.testBit (port - 2) = false) →
          ∃ arg,
            (e.getD 5 0 = 0 → d.ty ≠ .str → d.ty ≠ .f32 → arg = beBytes 4 (d.ty.decode (u.oscValue e).1 % 2 ^ 32).toNat) ∧
            (e.getD 5 0 = 3 → d.ty = .str → arg = (u.oscValue e).1) ∧
            let m : NetMsg := .osc (bits v 47 16) (bits v 15 0) (oscAddr e) (e.getD 5 0).toNat arg
            Out.frame port (u.netTag port (some 2) m) m ∈ t.out)) ∧
    (∀ full : BitVec 2, Does (.oscSend dt full) dt
      (fun u => u.venueGated = true ∨ u.ven.map.filter (fun x => decide (2 ≤ oscDir x.2) && u.oscDue x.1) = []) (fun u t => t = u))

/-! ## Frames -/

/-- The commands that write an object of the writer's choice, or reset the part: what they change follows from the object
written, and the statements above say it. Requests for package memory do so where a core's access is among them. -/
def Sys2Proof.Claim.reachesObjects : Instr → Bool
  | .arbRequest _ l => l.any (fun q => match q with
    | .burst .. => false
    | .access .. => true)
  | .commitCancel .. | .groupTableWrite .. | .placeFull .. | .placeRemove .. | .placeRestore ..
  | .placeMove .. | .placeSetTap .. | .placeRebalance .. | .patStageData .. | .resourceMapWrite ..
  | .bobbinMapWrite .. | .bobbinOwnerWrite .. | .streamEnable .. | .shRxMapCommit .. | .shTxMapCommit ..
  | .shPairMode .. | .tdmMapCommit .. | .tdmCfgWrite .. | .tbSet .. | .ptpProfileWrite .. | .clkPhaseWrite ..
  | .sessKick .. | .dictCcRingConfig .. | .dmaGo .. | .dmaStop .. | .univCfgWrite .. | .dmxCfgWrite ..
  | .rdmCmd .. | .rdmDiscover .. | .oscMapEntry .. | .coreRelease .. | .accept .. | .keyRevoke ..
  | .updBegin .. | .validate .. | .trialReset .. | .updData .. | .safeStageData .. | .safeWrite ..
  | .measExtGo .. | .resetCmd .. | .ccReset .. | .ownerKeyHash .. | .lcAdvance .. | .debugOpen ..
  | .powerCmdRun .. | .powerCmdHush .. | .powerCmdStandby .. | .needleBist .. | .memoryBist .. | .analog ..
  | .testEnd .. | .ndlStickyWrite .. | .ndlTapeStatusWrite .. | .avsStatusWrite .. | .vcoreLimitWrite ..
  | .objectWrite .. | .ccCommitGo .. | .objectWindowStore .. | .ccMsgGo .. | .write .. | .blockWrite ..
  | .dictCcSub .. | .ccTackGo .. | .ccUntack .. | .serMGo .. | .oscPacket .. | .thmOp .. | .dbgAccess ..
  | .powerOn .. | .journalRestore .. | .trialWdog .. | .delayedReset .. | .resetN .. | .pgoodLoss ..
  | .wake .. | .standbyEntryDone .. | .vkeepLoss .. => true
  | _ => false

/-- The commands whose own effect may change bobbin memory. -/
def Sys2Proof.Claim.mayBob : Instr → Bool
  | .stitchStrobe .. | .bldW .. | .bldT .. | .bstW .. | .bstT .. | .placementLoaded .. | .migrationDecision ..
  | .spoolFetchDone .. | .spoolDrainDone .. | .spoolLate .. | .handoverDone .. | .bobbinWindowAccess .. | .rtpPacket ..
  | .inletPoolWrite .. | .outletPoolRead .. | .txPacket .. | .dmaPieceDone .. | .safetyMatrixStart .. | .pleatWakeStart .. => true
  | _ => false

/-- The commands whose own effect may change package memory. -/
def Sys2Proof.Claim.mayPm : Instr → Bool
  | .stitchStrobe .. | .placementLoaded .. | .spoolDrainDone .. | .burstDone .. | .subscribe .. | .notify ..
  | .rtpPacket .. | .outletPoolRead .. | .serialMasterDone .. | .dmaPieceDone .. | .chunkLoaded .. | .thmOpDone ..
  | .debugPreempt .. | .handoverDone .. => true
  | _ => false

/-- The commands whose own effect may change the flash. -/
def Sys2Proof.Claim.mayFlash : Instr → Bool
  | .journalBatch .. | .journalEraseDone .. | .serialMasterDone .. | .slotChoice .. | .manifestCheck ..
  | .chunkLoaded .. | .recoveryOpen .. | .recoveryData .. | .recoveryClose .. | .updValidateDone .. => true
  | _ => false

/-- The commands whose own effect may change the DRAM arbiter. -/
def Sys2Proof.Claim.mayArb : Instr → Bool
  | .arbRequest .. | .burstDone .. | .grantEnd .. | .debugPreempt .. | .refresh .. | .spoolFetch .. | .spoolDrain ..
  | .chunkLoaded .. | .dmaPieceDone .. => true
  | _ => false

/-- The commands whose own effect may change the cores' accesses that wait for package memory. -/
def Sys2Proof.Claim.mayCoreWaits : Instr → Bool
  | .burstDone .. | .chunkLoaded .. => true
  | _ => false

/-- The commands whose own effect may change the owner windows' queue. -/
def Sys2Proof.Claim.mayBobWaits : Instr → Bool
  | .handoverDone .. | .bobbinWindowAccess .. | .chunkLoaded .. => true
  | _ => false

/-- The commands whose own effect may change the Shuttles' accesses that wait for a hand-over. -/
def Sys2Proof.Claim.mayShWaits : Instr → Bool
  | .rtpPacket .. | .inletPoolWrite .. | .outletPoolRead .. | .txPacket .. | .handoverDone .. => true
  | _ => false

/-- The commands whose own effect may change DMA channels. -/
def Sys2Proof.Claim.mayDma : Instr → Bool
  | .dmaPieceDone .. | .handoverDone .. | .chunkLoaded .. => true
  | _ => false

/-- The commands whose own effect may change the pools and the regulator. -/
def Sys2Proof.Claim.mayFab : Instr → Bool
  | .stitchStrobe .. | .inletCutoff .. | .inletDistribution .. | .deadline .. | .runComplete ..
  | .fittingEnd .. | .avsAck .. | .avsAckTimeout .. | .shed .. | .progRefetchDone .. | .placementDecided ..
  | .placementLoaded .. | .inletPoolWrite .. | .testLengthEnd .. | .handoverDone .. => true
  | _ => false

/-- The commands whose own effect may change basting. -/
def Sys2Proof.Claim.mayBaste : Instr → Bool
  | .stitchStrobe .. | .commit .. | .group0Commit .. | .pageCopyDone .. | .placementLoaded ..
  | .objectWindowLoad .. | .hello .. | .cert .. | .key .. | .read .. | .blockRead .. | .subscribe ..
  | .unsubscribe .. | .tack .. | .renew .. | .untack .. | .bye .. | .recoveryOpen .. | .recoveryData ..
  | .recoveryClose .. | .selInAssert .. | .serialWriteFrame .. => true
  | _ => false

/-- The commands whose own effect may change the Last. -/
def Sys2Proof.Claim.mayLast : Instr → Bool
  | .stitchStrobe .. | .deadline .. | .runComplete .. | .avsAck .. | .avsAckTimeout .. | .hemBoundary ..
  | .progRefetchDone .. | .xyRefetchDone .. | .placementDecided .. | .placementLoaded ..
  | .migrationDecision .. | .migrationCopyDone .. | .migForced .. | .spoolFetch .. | .spoolFetchDone ..
  | .spoolLate .. | .spoolDrain .. | .spoolDrainDone .. | .subscribe .. | .notify .. | .journalBatch ..
  | .sensorUpdate .. | .safetyMatrixStart .. => true
  | _ => false

/-- The commands whose own effect may change the hem. -/
def Sys2Proof.Claim.mayHem : Instr → Bool
  | .stitchStrobe .. | .hemBoundary .. | .tbStep .. => true
  | _ => false

/-- The commands whose own effect may change the Shuttles. -/
def Sys2Proof.Claim.maySh : Instr → Bool
  | .stitchStrobe .. | .commit .. | .rxFrame .. | .rtpPacket .. | .arpFrame .. | .icmpEcho .. | .igmpQuery ..
  | .igmpFallbackEnd .. | .inletPoolWrite .. | .outletPoolRead .. | .txPacket .. | .auditRecordExpire ..
  | .ptpSync .. | .ptpFollowUp .. | .ptpDelayResp .. | .ptpAnnounce .. | .hello .. | .cert .. | .key ..
  | .read .. | .blockRead .. | .subscribe .. | .unsubscribe .. | .tack .. | .renew .. | .untack .. | .bye ..
  | .sacnDataPacket .. | .sacnSyncPacket .. | .recoveryOpen .. | .recoveryData .. | .recoveryClose ..
  | .delayReqReceived .. | .linkUp .. | .handoverDone .. => true
  | _ => false

/-- The commands whose own effect may change the TDM ports. -/
def Sys2Proof.Claim.mayTdm : Instr → Bool
  | .stitchStrobe .. | .inletCutoff .. | .tdmRxFrame .. | .tdmTxFrame .. | .tdmNoClock .. | .xtalFail ..
  | .lockLost .. | .refLost .. => true
  | _ => false

/-- The commands whose own effect may change the timebase. -/
def Sys2Proof.Claim.mayTbs : Instr → Bool
  | .stitchStrobe .. | .linkDown .. | .linkUp .. | .ptpSync .. | .ptpFollowUp .. | .ptpDelayResp ..
  | .delayReqSend .. | .ptpAnnounce .. | .ptpLeaderSend .. | .announceTimeout .. | .syncTimeout ..
  | .tbStep .. | .xtalFail .. | .xtalRestore .. | .refLost .. | .ppsEdge .. | .safetyMatrixStart .. | .clkSlewDone ..
  | .freqStep .. => true
  | _ => false

/-- The commands whose own effect may change the venue ports. -/
def Sys2Proof.Claim.mayVen : Instr → Bool
  | .stitchStrobe .. | .sacnDataPacket .. | .sacnSyncPacket .. | .sacnSyncTimeout .. | .sacnSourceExpire ..
  | .sacnCuePoint .. | .sacnTxLate .. | .sacnDiscovery .. | .dmxCuePoint .. | .dmxFrameReceived ..
  | .dmxSourceExpire .. | .rdmTransaction .. | .rdmResponse .. | .rdmTimeout .. | .oscPeerExpire ..
  | .oscSend .. | .dmxFrameSent .. => true
  | _ => false

/-- The commands whose own effect may change the debug port. -/
def Sys2Proof.Claim.mayDbg : Instr → Bool
  | .chunkLoaded .. | .dbgChallenge .. | .dbgResponse .. | .dbgEnd .. | .trstN .. | .debugSessionTimeout ..
  | .challengeLockoutEnd .. | .idcode .. | .bypass .. | .samplePreload .. | .extest .. | .debugPreempt .. => true
  | _ => false

/-- The commands whose own effect may change the power states. -/
def Sys2Proof.Claim.mayPw : Instr → Bool
  | .stitchStrobe .. | .avsAck .. | .avsAckTimeout .. | .migrationDecision .. | .placementLoaded .. | .safetyMatrixStart ..
  | .pleatWakeStart .. | .pleatReady .. | .testLengthEnd .. | .historyZeroingDone .. => true
  | _ => false

/-- Memories keep what they hold but for the commands that store to them: bobbins and their parity, package memory, the flash,
and the queues of the DRAM arbiter, the owner windows, the cores' and the Shuttles' accesses and DMA. -/
def Obligations.MemoriesChangeOnlyByTheirCommands : Prop :=
  ∀ (c : Instr) (s t : State), exec c s = .next t → reachesObjects c = false →
    (mayBob c = false → t.bob = s.bob ∧ t.bobBad = s.bobBad) ∧
    (mayPm c = false → t.pm = s.pm) ∧
    (mayFlash c = false → t.flash = s.flash) ∧
    (mayArb c = false → t.arb = s.arb) ∧
    (mayBobWaits c = false → t.bobWaits = s.bobWaits) ∧
    (mayCoreWaits c = false → t.coreWaits = s.coreWaits) ∧
    (mayShWaits c = false → t.shWaits = s.shWaits) ∧
    t.worn = s.worn ∧
    (mayDma c = false → t.dma = s.dma)

/-- Each unit changes by its own commands alone. -/
def Obligations.UnitsChangeOnlyByTheirCommands : Prop :=
  ∀ (c : Instr) (s t : State), exec c s = .next t → reachesObjects c = false →
    (mayFab c = false → t.fab = s.fab) ∧
    (mayBaste c = false → t.baste = s.baste) ∧
    (mayLast c = false → t.last = s.last) ∧
    (mayHem c = false → t.hem = s.hem) ∧
    (maySh c = false → t.sh = s.sh) ∧
    (mayTdm c = false → t.tdm = s.tdm) ∧
    (mayTbs c = false → t.tbs = s.tbs) ∧
    (mayVen c = false → t.ven = s.ven) ∧
    (mayDbg c = false → t.dbg = s.dbg) ∧
    (wakesPart c = false → t.island = s.island) ∧
    (mayPw c = false → t.pw = s.pw)

/-! ## Statements of several parts -/

/-- The queue: every step takes the front command off it, and with none waiting one cycle passes (the model's choice,
log entry 1). `Claim.StepTakesOneCommand`, `Claim.EmptyQueueLetsOneCyclePass` -/
def Obligations.QueueAndIdle : Prop := StepTakesOneCommand ∧ EmptyQueueLetsOneCyclePass

/-- The state after reset: the values the spec gives, the model's choices (log entries 2 and 8), and memories in
canonical form. `Claim.ResetValues`, `Claim.ResetMemoryCanonical` -/
def Obligations.ResetState : Prop := ResetValues ∧ ResetMemoryCanonical

/-- The inlet and outlet pools. `Claim.InletCutoffCloses`, `Claim.InletDistributionFills`,
`Claim.DeadlineCollectsTheOutletBank` -/
def Obligations.InletAndOutletPools : Prop := InletCutoffCloses ∧ InletDistributionFills ∧ DeadlineCollectsTheOutletBank

/-- Runs that end, and the fittings they count in. `Claim.RunsEnd`, `Claim.FittingReports` -/
def Obligations.RunsAndFittings : Prop := RunsEnd ∧ FittingReports

/-- What an accepted write leaves in its object. `Claim.ObjectWriteStores`, `Claim.StoredWrites` -/
def Obligations.AcceptedWrites : Prop := ObjectWriteStores ∧ StoredWrites

/-- Commits and the group tables. `Claim.CommitLife`, `Claim.GroupTableWrites` -/
def Obligations.CommitsAndGroups : Prop := CommitLife ∧ GroupTableWrites

/-- Placement commands and the pattern staged for them. `Claim.PlacementCommands`, `Claim.PatternStaging` -/
def Obligations.PlacementRequests : Prop := PlacementCommands ∧ PatternStaging

/-- Bobbin ownership, and the arbiter of package memory. `Claim.BobbinOwners`, `Claim.CoreAccesses`, `Claim.Arbiters` -/
def Obligations.BobbinsAndArbiter : Prop := BobbinOwners ∧ CoreAccesses ∧ Arbiters

/-- Writes that are refused: with which status, and what they leave alone. `Claim.RefusedWriteChangesNothing`,
`Claim.WriteStatusOrder` -/
def Obligations.RefusedWrites : Prop := RefusedWriteChangesNothing ∧ WriteStatusOrder

/-- The control cores' ways to the dictionary. `Claim.ObjectWindow`, `Claim.MessagePath`, `Claim.CoreDictionaryRows` -/
def Obligations.CoreDictionaryPaths : Prop := ObjectWindow ∧ MessagePath ∧ CoreDictionaryRows

/-- The steps of a placement and of a migration. `Claim.PlacementSteps`, `Claim.Migrations` -/
def Obligations.PlacementAndMigration : Prop := PlacementSteps ∧ Migrations

/-- The operations of Ursin: that a message which passes is served, and what each operation does.
`Claim.SessionMessagesAreServed`, `Claim.OperationsEffects` -/
def Obligations.UrsinOperations : Prop := SessionMessagesAreServed ∧ OperationsEffects

/-- sACN, received and sent. `Claim.SacnReception`, `Claim.SacnTransmission` -/
def Obligations.SacnUniverses : Prop := SacnReception ∧ SacnTransmission

/-- The serial port and the DMA engine. `Claim.SerialPort`, `Claim.DmaChains` -/
def Obligations.SerialAndDma : Prop := SerialPort ∧ DmaChains

/-- PTP, the timebase, its references and the clock outputs. `Claim.Ptp`, `Claim.TimebaseAndClocks` -/
def Obligations.PtpAndTimebase : Prop := Ptp ∧ TimebaseAndClocks

/-- The boot chain and updates. `Claim.BootChain`, `Claim.Updates` -/
def Obligations.BootAndUpdate : Prop := BootChain ∧ Updates

/-- D arithmetic and the compares. `Claim.NeedleDArithmetic`, `Claim.NeedleCompares` -/
def Obligations.NeedleWordArithmetic : Prop := NeedleDArithmetic ∧ NeedleCompares

/-- Sessions: the handshake that makes one, and the timers that end it. `Claim.HandshakeMakesASession`,
`Claim.SessionTimers` -/
def Obligations.SessionsBeginAndEnd : Prop := HandshakeMakesASession ∧ SessionTimers
end

