-- ==== Sys2Proof/Laws/Sparse.lean ====
section
/-!
SUPPORT. Laws of the sparse stores: a read after a write, at the same key and at any other, and the canonical form that
every write keeps.
-/

namespace Sys2Proof.Machine

variable {α : Type}

theorem look_filter_self (d : Nat → α) (m : Sparse α) (k : Nat) :
    look d (m.filter (fun e => e.1 != k)) k = d k := by
  induction m with
  | nil => rfl
  | cons e t ih =>
    obtain ⟨j, w⟩ := e
    by_cases h : j = k
    · subst h; simpa using ih
    · simp [h, look, ih]

theorem look_filter_ne (d : Nat → α) (m : Sparse α) {k q : Nat} (h : q ≠ k) :
    look d (m.filter (fun e => e.1 != k)) q = look d m q := by
  induction m with
  | nil => rfl
  | cons e t ih =>
    obtain ⟨j, w⟩ := e
    by_cases hj : j = k
    · subst hj; simp [look, ih, Ne.symm h]
    · simp [hj, look, ih]

theorem look_insertAt_self (d : Nat → α) (m : Sparse α) (k : Nat) (v : α) : look d (insertAt m k v) k = v := by
  induction m with
  | nil => simp [insertAt, look]
  | cons e t ih =>
    obtain ⟨j, w⟩ := e
    simp only [insertAt]
    split
    · simp [look]
    · split
      · simp [look]
      · rename_i h
        simp [look, Ne.symm h, ih]

theorem look_insertAt_ne (d : Nat → α) (m : Sparse α) {k q : Nat} (v : α) (h : q ≠ k) :
    look d (insertAt m k v) q = look d m q := by
  induction m with
  | nil => simp [insertAt, look, Ne.symm h]
  | cons e t ih =>
    obtain ⟨j, w⟩ := e
    simp only [insertAt]
    split
    · simp [look, Ne.symm h]
    · split
      · rename_i hk
        subst hk
        simp [look, Ne.symm h]
      · simp [look, ih]

/-- A read at the key just written gives the value written. -/
@[simp] theorem look_put_self [DecidableEq α] (d : Nat → α) (m : Sparse α) (k : Nat) (v : α) : look d (put d m k v) k = v := by
  unfold put
  split
  · rename_i h; rw [look_filter_self, h]
  · exact look_insertAt_self d m k v

/-- A write leaves every other key alone. -/
theorem look_put_ne [DecidableEq α] (d : Nat → α) (m : Sparse α) {k q : Nat} (v : α) (h : q ≠ k) : look d (put d m k v) q = look d m q := by
  unfold put
  split
  · exact look_filter_ne d m h
  · exact look_insertAt_ne d m v h

/-- Both cases of a read after a write. -/
theorem look_put [DecidableEq α] (d : Nat → α) (m : Sparse α) (k q : Nat) (v : α) :
    look d (put d m k v) q = if q = k then v else look d m q := by
  by_cases h : q = k
  · subst h; simp
  · simp [h, look_put_ne]

/-! ## The canonical form -/

theorem keysAbove_filter (p : Nat × α → Bool) (k : Nat) (m : Sparse α) (h : keysAbove k m = true) :
    keysAbove k (m.filter p) = true := by
  induction m with
  | nil => rfl
  | cons e t ih =>
    obtain ⟨j, w⟩ := e
    simp only [keysAbove, Bool.and_eq_true, decide_eq_true_eq] at h
    by_cases hp : p (j, w)
    · simp [hp, keysAbove, h.1, ih h.2]
    · simp [hp, ih h.2]

theorem keysAbove_insertAt (m : Sparse α) {j k : Nat} (v : α) (hjk : j < k) (h : keysAbove j m = true) :
    keysAbove j (insertAt m k v) = true := by
  induction m with
  | nil => simp [insertAt, keysAbove, hjk]
  | cons e t ih =>
    obtain ⟨i, w⟩ := e
    simp only [keysAbove, Bool.and_eq_true, decide_eq_true_eq] at h
    simp only [insertAt]
    split
    · simp [keysAbove, hjk, h]
    · split
      · simp [keysAbove, hjk, h]
      · simp [keysAbove, h.1, ih h.2]

theorem keysAbove_trans (m : Sparse α) {j k : Nat} (hjk : j ≤ k) (h : keysAbove k m = true) : keysAbove j m = true := by
  induction m with
  | nil => rfl
  | cons e t ih =>
    obtain ⟨i, w⟩ := e
    simp only [keysAbove, Bool.and_eq_true, decide_eq_true_eq] at h ⊢
    exact ⟨by omega, ih h.2⟩

/-- Dropping entries keeps the canonical form. -/
theorem canonical_filter [DecidableEq α] (d : Nat → α) (p : Nat × α → Bool) (m : Sparse α) (h : canonical d m = true) :
    canonical d (m.filter p) = true := by
  induction m with
  | nil => rfl
  | cons e t ih =>
    obtain ⟨j, w⟩ := e
    simp only [canonical, Bool.and_eq_true] at h
    by_cases hp : p (j, w)
    · simp [hp, canonical, keysAbove_filter p j t h.1.1, ih h.2, of_decide_eq_true h.1.2]
    · simp [hp, ih h.2]

theorem canonical_insertAt [DecidableEq α] (d : Nat → α) (m : Sparse α) (k : Nat) (v : α) (hv : v ≠ d k) (h : canonical d m = true) :
    canonical d (insertAt m k v) = true := by
  induction m with
  | nil => simp [insertAt, canonical, keysAbove, hv]
  | cons e t ih =>
    obtain ⟨j, w⟩ := e
    simp only [canonical, Bool.and_eq_true] at h
    simp only [insertAt]
    split
    · rename_i hk
      simp [canonical, keysAbove, hk, hv, h.1.1, h.2, of_decide_eq_true h.1.2, keysAbove_trans t (Nat.le_of_lt hk) h.1.1]
    · split
      · rename_i hk
        subst hk
        simp [canonical, hv, h.1.1, h.2]
      · rename_i h1 h2
        simp [canonical, of_decide_eq_true h.1.2, ih h.2,
          keysAbove_insertAt t v (by omega : j < k) h.1.1]

/-- Every write keeps the canonical form. -/
theorem canonical_put [DecidableEq α] (d : Nat → α) (m : Sparse α) (k : Nat) (v : α) (h : canonical d m = true) :
    canonical d (put d m k v) = true := by
  unfold put
  split
  · exact canonical_filter d _ m h
  · rename_i hv; exact canonical_insertAt d m k v hv h

theorem canonical_putAll [DecidableEq α] (d : Nat → α) (l : List α) (m : Sparse α) (k : Nat) (h : canonical d m = true) :
    canonical d (putAll d m k l) = true := by
  induction l generalizing m k with
  | nil => exact h
  | cons v t ih => exact ih _ _ (canonical_put d m k v h)

/-- A run of writes leaves every key outside it alone. -/
theorem look_putAll_out [DecidableEq α] (d : Nat → α) (l : List α) (m : Sparse α) (k q : Nat) (h : q < k ∨ k + l.length ≤ q) :
    look d (putAll d m k l) q = look d m q := by
  induction l generalizing m k with
  | nil => rfl
  | cons v t ih =>
    simp only [List.length_cons] at h
    rw [putAll, ih _ _ (by omega), look_put_ne d m v (by omega)]

end Sys2Proof.Machine
end

