-- ==== Sys2Proof/Laws/State.lean ====
section
/-!
SUPPORT. What the named operations on State leave alone, one lemma per operation and field, and what a read of an object,
a needle or a counter gives after each write.
-/

namespace Sys2Proof.Machine

variable (s : State)


/-! ## touch, setObj and what is written by it -/

@[simp] theorem State.touch_pending (n : Nat) : (s.touch n).pending = s.pending := rfl
@[simp] theorem State.touch_deadlineOf (n : Nat) : (s.touch n).deadlineOf = s.deadlineOf := rfl
@[simp] theorem State.touch_phase (n : Nat) : (s.touch n).phase = s.phase := rfl
@[simp] theorem State.touch_e16 (n : Nat) : (s.touch n).e16 = s.e16 := rfl
@[simp] theorem State.touch_clk (n : Nat) : (s.touch n).clk = s.clk := rfl
@[simp] theorem State.touch_ndl (n : Nat) : (s.touch n).ndl = s.ndl := rfl
@[simp] theorem State.touch_bob (n : Nat) : (s.touch n).bob = s.bob := rfl
@[simp] theorem State.touch_pm (n : Nat) : (s.touch n).pm = s.pm := rfl
@[simp] theorem State.touch_fab (n : Nat) : (s.touch n).fab = s.fab := rfl
@[simp] theorem State.touch_baste (n : Nat) : (s.touch n).baste = s.baste := rfl
@[simp] theorem State.touch_last (n : Nat) : (s.touch n).last = s.last := rfl
@[simp] theorem State.touch_pw (n : Nat) : (s.touch n).pw = s.pw := rfl
@[simp] theorem State.touch_arb (n : Nat) : (s.touch n).arb = s.arb := rfl
@[simp] theorem State.touch_bobBad (n : Nat) : (s.touch n).bobBad = s.bobBad := rfl
@[simp] theorem State.touch_bobWaits (n : Nat) : (s.touch n).bobWaits = s.bobWaits := rfl
@[simp] theorem State.touch_shWaits (n : Nat) : (s.touch n).shWaits = s.shWaits := rfl
@[simp] theorem State.touch_coreWaits (n : Nat) : (s.touch n).coreWaits = s.coreWaits := rfl
@[simp] theorem State.touch_hem (n : Nat) : (s.touch n).hem = s.hem := rfl
@[simp] theorem State.touch_sh (n : Nat) : (s.touch n).sh = s.sh := rfl
@[simp] theorem State.touch_tdm (n : Nat) : (s.touch n).tdm = s.tdm := rfl
@[simp] theorem State.touch_tbs (n : Nat) : (s.touch n).tbs = s.tbs := rfl
@[simp] theorem State.touch_safe (n : Nat) : (s.touch n).safe = s.safe := rfl
@[simp] theorem State.touch_dict (n : Nat) : (s.touch n).dict = s.dict := rfl
@[simp] theorem State.touch_ursin (n : Nat) : (s.touch n).ursin = s.ursin := rfl
@[simp] theorem State.touch_ven (n : Nat) : (s.touch n).ven = s.ven := rfl
@[simp] theorem State.touch_ser (n : Nat) : (s.touch n).ser = s.ser := rfl
@[simp] theorem State.touch_dma (n : Nat) : (s.touch n).dma = s.dma := rfl
@[simp] theorem State.touch_dmaLast (n : Nat) : (s.touch n).dmaLast = s.dmaLast := rfl
@[simp] theorem State.touch_flash (n : Nat) : (s.touch n).flash = s.flash := rfl
@[simp] theorem State.touch_worn (n : Nat) : (s.touch n).worn = s.worn := rfl
@[simp] theorem State.touch_keyKill (n : Nat) : (s.touch n).keyKill = s.keyKill := rfl
@[simp] theorem State.touch_island (n : Nat) : (s.touch n).island = s.island := rfl
@[simp] theorem State.touch_boot (n : Nat) : (s.touch n).boot = s.boot := rfl
@[simp] theorem State.touch_dbg (n : Nat) : (s.touch n).dbg = s.dbg := rfl
@[simp] theorem State.touch_misc (n : Nat) : (s.touch n).misc = s.misc := rfl
@[simp] theorem State.touch_out (n : Nat) : (s.touch n).out = s.out := rfl
@[simp] theorem State.touch_free (n : Nat) : (s.touch n).free = s.free := rfl
@[simp] theorem State.touch_regs (n : Nat) : (s.touch n).regs = s.regs := rfl
@[simp] theorem State.touch_blobs (n : Nat) : (s.touch n).blobs = s.blobs := rfl
@[simp] theorem State.touch_evts (n : Nat) : (s.touch n).evts = s.evts := rfl
@[simp] theorem State.setObj_pending (n i : Nat) (v : Int) : (s.setObj n i v).pending = s.pending := by
  unfold State.setObj; split <;> rfl
@[simp] theorem State.setObj_deadlineOf (n i : Nat) (v : Int) : (s.setObj n i v).deadlineOf = s.deadlineOf := by
  unfold State.setObj; split <;> rfl
@[simp] theorem State.setObj_phase (n i : Nat) (v : Int) : (s.setObj n i v).phase = s.phase := by
  unfold State.setObj; split <;> rfl
@[simp] theorem State.setObj_e16 (n i : Nat) (v : Int) : (s.setObj n i v).e16 = s.e16 := by
  unfold State.setObj; split <;> rfl
@[simp] theorem State.setObj_clk (n i : Nat) (v : Int) : (s.setObj n i v).clk = s.clk := by
  unfold State.setObj; split <;> rfl
@[simp] theorem State.setObj_ndl (n i : Nat) (v : Int) : (s.setObj n i v).ndl = s.ndl := by
  unfold State.setObj; split <;> rfl
@[simp] theorem State.setObj_bob (n i : Nat) (v : Int) : (s.setObj n i v).bob = s.bob := by
  unfold State.setObj; split <;> rfl
@[simp] theorem State.setObj_pm (n i : Nat) (v : Int) : (s.setObj n i v).pm = s.pm := by
  unfold State.setObj; split <;> rfl
@[simp] theorem State.setObj_fab (n i : Nat) (v : Int) : (s.setObj n i v).fab = s.fab := by
  unfold State.setObj; split <;> rfl
@[simp] theorem State.setObj_baste (n i : Nat) (v : Int) : (s.setObj n i v).baste = s.baste := by
  unfold State.setObj; split <;> rfl
@[simp] theorem State.setObj_last (n i : Nat) (v : Int) : (s.setObj n i v).last = s.last := by
  unfold State.setObj; split <;> rfl
@[simp] theorem State.setObj_pw (n i : Nat) (v : Int) : (s.setObj n i v).pw = s.pw := by
  unfold State.setObj; split <;> rfl
@[simp] theorem State.setObj_arb (n i : Nat) (v : Int) : (s.setObj n i v).arb = s.arb := by
  unfold State.setObj; split <;> rfl
@[simp] theorem State.setObj_bobBad (n i : Nat) (v : Int) : (s.setObj n i v).bobBad = s.bobBad := by
  unfold State.setObj; split <;> rfl
@[simp] theorem State.setObj_bobWaits (n i : Nat) (v : Int) : (s.setObj n i v).bobWaits = s.bobWaits := by
  unfold State.setObj; split <;> rfl
@[simp] theorem State.setObj_shWaits (n i : Nat) (v : Int) : (s.setObj n i v).shWaits = s.shWaits := by
  unfold State.setObj; split <;> rfl
@[simp] theorem State.setObj_coreWaits (n i : Nat) (v : Int) : (s.setObj n i v).coreWaits = s.coreWaits := by
  unfold State.setObj; split <;> rfl
@[simp] theorem State.setObj_hem (n i : Nat) (v : Int) : (s.setObj n i v).hem = s.hem := by
  unfold State.setObj; split <;> rfl
@[simp] theorem State.setObj_sh (n i : Nat) (v : Int) : (s.setObj n i v).sh = s.sh := by
  unfold State.setObj; split <;> rfl
@[simp] theorem State.setObj_tdm (n i : Nat) (v : Int) : (s.setObj n i v).tdm = s.tdm := by
  unfold State.setObj; split <;> rfl
@[simp] theorem State.setObj_tbs (n i : Nat) (v : Int) : (s.setObj n i v).tbs = s.tbs := by
  unfold State.setObj; split <;> rfl
@[simp] theorem State.setObj_safe (n i : Nat) (v : Int) : (s.setObj n i v).safe = s.safe := by
  unfold State.setObj; split <;> rfl
@[simp] theorem State.setObj_dict (n i : Nat) (v : Int) : (s.setObj n i v).dict = s.dict := by
  unfold State.setObj; split <;> rfl
@[simp] theorem State.setObj_ursin (n i : Nat) (v : Int) : (s.setObj n i v).ursin = s.ursin := by
  unfold State.setObj; split <;> rfl
@[simp] theorem State.setObj_ven (n i : Nat) (v : Int) : (s.setObj n i v).ven = s.ven := by
  unfold State.setObj; split <;> rfl
@[simp] theorem State.setObj_ser (n i : Nat) (v : Int) : (s.setObj n i v).ser = s.ser := by
  unfold State.setObj; split <;> rfl
@[simp] theorem State.setObj_dma (n i : Nat) (v : Int) : (s.setObj n i v).dma = s.dma := by
  unfold State.setObj; split <;> rfl
@[simp] theorem State.setObj_dmaLast (n i : Nat) (v : Int) : (s.setObj n i v).dmaLast = s.dmaLast := by
  unfold State.setObj; split <;> rfl
@[simp] theorem State.setObj_flash (n i : Nat) (v : Int) : (s.setObj n i v).flash = s.flash := by
  unfold State.setObj; split <;> rfl
@[simp] theorem State.setObj_worn (n i : Nat) (v : Int) : (s.setObj n i v).worn = s.worn := by
  unfold State.setObj; split <;> rfl
@[simp] theorem State.setObj_keyKill (n i : Nat) (v : Int) : (s.setObj n i v).keyKill = s.keyKill := by
  unfold State.setObj; split <;> rfl
@[simp] theorem State.setObj_island (n i : Nat) (v : Int) : (s.setObj n i v).island = s.island := by
  unfold State.setObj; split <;> rfl
@[simp] theorem State.setObj_boot (n i : Nat) (v : Int) : (s.setObj n i v).boot = s.boot := by
  unfold State.setObj; split <;> rfl
@[simp] theorem State.setObj_dbg (n i : Nat) (v : Int) : (s.setObj n i v).dbg = s.dbg := by
  unfold State.setObj; split <;> rfl
@[simp] theorem State.setObj_misc (n i : Nat) (v : Int) : (s.setObj n i v).misc = s.misc := by
  unfold State.setObj; split <;> rfl
@[simp] theorem State.setObj_out (n i : Nat) (v : Int) : (s.setObj n i v).out = s.out := by
  unfold State.setObj; split <;> rfl
@[simp] theorem State.setObj_free (n i : Nat) (v : Int) : (s.setObj n i v).free = s.free := by
  unfold State.setObj; split <;> rfl
@[simp] theorem State.setObj_blobs (n i : Nat) (v : Int) : (s.setObj n i v).blobs = s.blobs := by
  unfold State.setObj; split <;> rfl
@[simp] theorem State.setObj_evts (n i : Nat) (v : Int) : (s.setObj n i v).evts = s.evts := by
  unfold State.setObj; split <;> rfl
@[simp] theorem State.setNat_pending (n i v : Nat) : (s.setNat n i v).pending = s.pending := s.setObj_pending n i _
@[simp] theorem State.setNat_deadlineOf (n i v : Nat) : (s.setNat n i v).deadlineOf = s.deadlineOf := s.setObj_deadlineOf n i _
@[simp] theorem State.setNat_phase (n i v : Nat) : (s.setNat n i v).phase = s.phase := s.setObj_phase n i _
@[simp] theorem State.setNat_e16 (n i v : Nat) : (s.setNat n i v).e16 = s.e16 := s.setObj_e16 n i _
@[simp] theorem State.setNat_clk (n i v : Nat) : (s.setNat n i v).clk = s.clk := s.setObj_clk n i _
@[simp] theorem State.setNat_ndl (n i v : Nat) : (s.setNat n i v).ndl = s.ndl := s.setObj_ndl n i _
@[simp] theorem State.setNat_bob (n i v : Nat) : (s.setNat n i v).bob = s.bob := s.setObj_bob n i _
@[simp] theorem State.setNat_pm (n i v : Nat) : (s.setNat n i v).pm = s.pm := s.setObj_pm n i _
@[simp] theorem State.setNat_fab (n i v : Nat) : (s.setNat n i v).fab = s.fab := s.setObj_fab n i _
@[simp] theorem State.setNat_baste (n i v : Nat) : (s.setNat n i v).baste = s.baste := s.setObj_baste n i _
@[simp] theorem State.setNat_last (n i v : Nat) : (s.setNat n i v).last = s.last := s.setObj_last n i _
@[simp] theorem State.setNat_pw (n i v : Nat) : (s.setNat n i v).pw = s.pw := s.setObj_pw n i _
@[simp] theorem State.setNat_arb (n i v : Nat) : (s.setNat n i v).arb = s.arb := s.setObj_arb n i _
@[simp] theorem State.setNat_bobBad (n i v : Nat) : (s.setNat n i v).bobBad = s.bobBad := s.setObj_bobBad n i _
@[simp] theorem State.setNat_bobWaits (n i v : Nat) : (s.setNat n i v).bobWaits = s.bobWaits := s.setObj_bobWaits n i _
@[simp] theorem State.setNat_shWaits (n i v : Nat) : (s.setNat n i v).shWaits = s.shWaits := s.setObj_shWaits n i _
@[simp] theorem State.setNat_coreWaits (n i v : Nat) : (s.setNat n i v).coreWaits = s.coreWaits := s.setObj_coreWaits n i _
@[simp] theorem State.setNat_hem (n i v : Nat) : (s.setNat n i v).hem = s.hem := s.setObj_hem n i _
@[simp] theorem State.setNat_sh (n i v : Nat) : (s.setNat n i v).sh = s.sh := s.setObj_sh n i _
@[simp] theorem State.setNat_tdm (n i v : Nat) : (s.setNat n i v).tdm = s.tdm := s.setObj_tdm n i _
@[simp] theorem State.setNat_tbs (n i v : Nat) : (s.setNat n i v).tbs = s.tbs := s.setObj_tbs n i _
@[simp] theorem State.setNat_safe (n i v : Nat) : (s.setNat n i v).safe = s.safe := s.setObj_safe n i _
@[simp] theorem State.setNat_dict (n i v : Nat) : (s.setNat n i v).dict = s.dict := s.setObj_dict n i _
@[simp] theorem State.setNat_ursin (n i v : Nat) : (s.setNat n i v).ursin = s.ursin := s.setObj_ursin n i _
@[simp] theorem State.setNat_ven (n i v : Nat) : (s.setNat n i v).ven = s.ven := s.setObj_ven n i _
@[simp] theorem State.setNat_ser (n i v : Nat) : (s.setNat n i v).ser = s.ser := s.setObj_ser n i _
@[simp] theorem State.setNat_dma (n i v : Nat) : (s.setNat n i v).dma = s.dma := s.setObj_dma n i _
@[simp] theorem State.setNat_dmaLast (n i v : Nat) : (s.setNat n i v).dmaLast = s.dmaLast := s.setObj_dmaLast n i _
@[simp] theorem State.setNat_flash (n i v : Nat) : (s.setNat n i v).flash = s.flash := s.setObj_flash n i _
@[simp] theorem State.setNat_worn (n i v : Nat) : (s.setNat n i v).worn = s.worn := s.setObj_worn n i _
@[simp] theorem State.setNat_keyKill (n i v : Nat) : (s.setNat n i v).keyKill = s.keyKill := s.setObj_keyKill n i _
@[simp] theorem State.setNat_island (n i v : Nat) : (s.setNat n i v).island = s.island := s.setObj_island n i _
@[simp] theorem State.setNat_boot (n i v : Nat) : (s.setNat n i v).boot = s.boot := s.setObj_boot n i _
@[simp] theorem State.setNat_dbg (n i v : Nat) : (s.setNat n i v).dbg = s.dbg := s.setObj_dbg n i _
@[simp] theorem State.setNat_misc (n i v : Nat) : (s.setNat n i v).misc = s.misc := s.setObj_misc n i _
@[simp] theorem State.setNat_out (n i v : Nat) : (s.setNat n i v).out = s.out := s.setObj_out n i _
@[simp] theorem State.setNat_free (n i v : Nat) : (s.setNat n i v).free = s.free := s.setObj_free n i _
@[simp] theorem State.setNat_blobs (n i v : Nat) : (s.setNat n i v).blobs = s.blobs := s.setObj_blobs n i _
@[simp] theorem State.setNat_evts (n i v : Nat) : (s.setNat n i v).evts = s.evts := s.setObj_evts n i _
@[simp] theorem State.setBit_pending (n i b : Nat) (on : Bool) : (s.setBit n i b on).pending = s.pending := s.setNat_pending n i _
@[simp] theorem State.setMapBit_pending (n b : Nat) (on : Bool) : (s.setMapBit n b on).pending = s.pending := s.setNat_pending n _ _
@[simp] theorem State.setField_pending (n i a b v : Nat) : (s.setField n i a b v).pending = s.pending := s.setNat_pending n i _
@[simp] theorem State.setBit_deadlineOf (n i b : Nat) (on : Bool) : (s.setBit n i b on).deadlineOf = s.deadlineOf := s.setNat_deadlineOf n i _
@[simp] theorem State.setMapBit_deadlineOf (n b : Nat) (on : Bool) : (s.setMapBit n b on).deadlineOf = s.deadlineOf := s.setNat_deadlineOf n _ _
@[simp] theorem State.setField_deadlineOf (n i a b v : Nat) : (s.setField n i a b v).deadlineOf = s.deadlineOf := s.setNat_deadlineOf n i _
@[simp] theorem State.setBit_phase (n i b : Nat) (on : Bool) : (s.setBit n i b on).phase = s.phase := s.setNat_phase n i _
@[simp] theorem State.setMapBit_phase (n b : Nat) (on : Bool) : (s.setMapBit n b on).phase = s.phase := s.setNat_phase n _ _
@[simp] theorem State.setField_phase (n i a b v : Nat) : (s.setField n i a b v).phase = s.phase := s.setNat_phase n i _
@[simp] theorem State.setBit_e16 (n i b : Nat) (on : Bool) : (s.setBit n i b on).e16 = s.e16 := s.setNat_e16 n i _
@[simp] theorem State.setMapBit_e16 (n b : Nat) (on : Bool) : (s.setMapBit n b on).e16 = s.e16 := s.setNat_e16 n _ _
@[simp] theorem State.setField_e16 (n i a b v : Nat) : (s.setField n i a b v).e16 = s.e16 := s.setNat_e16 n i _
@[simp] theorem State.setBit_clk (n i b : Nat) (on : Bool) : (s.setBit n i b on).clk = s.clk := s.setNat_clk n i _
@[simp] theorem State.setMapBit_clk (n b : Nat) (on : Bool) : (s.setMapBit n b on).clk = s.clk := s.setNat_clk n _ _
@[simp] theorem State.setField_clk (n i a b v : Nat) : (s.setField n i a b v).clk = s.clk := s.setNat_clk n i _
@[simp] theorem State.setBit_ndl (n i b : Nat) (on : Bool) : (s.setBit n i b on).ndl = s.ndl := s.setNat_ndl n i _
@[simp] theorem State.setMapBit_ndl (n b : Nat) (on : Bool) : (s.setMapBit n b on).ndl = s.ndl := s.setNat_ndl n _ _
@[simp] theorem State.setField_ndl (n i a b v : Nat) : (s.setField n i a b v).ndl = s.ndl := s.setNat_ndl n i _
@[simp] theorem State.setBit_bob (n i b : Nat) (on : Bool) : (s.setBit n i b on).bob = s.bob := s.setNat_bob n i _
@[simp] theorem State.setMapBit_bob (n b : Nat) (on : Bool) : (s.setMapBit n b on).bob = s.bob := s.setNat_bob n _ _
@[simp] theorem State.setField_bob (n i a b v : Nat) : (s.setField n i a b v).bob = s.bob := s.setNat_bob n i _
@[simp] theorem State.setBit_pm (n i b : Nat) (on : Bool) : (s.setBit n i b on).pm = s.pm := s.setNat_pm n i _
@[simp] theorem State.setMapBit_pm (n b : Nat) (on : Bool) : (s.setMapBit n b on).pm = s.pm := s.setNat_pm n _ _
@[simp] theorem State.setField_pm (n i a b v : Nat) : (s.setField n i a b v).pm = s.pm := s.setNat_pm n i _
@[simp] theorem State.setBit_fab (n i b : Nat) (on : Bool) : (s.setBit n i b on).fab = s.fab := s.setNat_fab n i _
@[simp] theorem State.setMapBit_fab (n b : Nat) (on : Bool) : (s.setMapBit n b on).fab = s.fab := s.setNat_fab n _ _
@[simp] theorem State.setField_fab (n i a b v : Nat) : (s.setField n i a b v).fab = s.fab := s.setNat_fab n i _
@[simp] theorem State.setBit_baste (n i b : Nat) (on : Bool) : (s.setBit n i b on).baste = s.baste := s.setNat_baste n i _
@[simp] theorem State.setMapBit_baste (n b : Nat) (on : Bool) : (s.setMapBit n b on).baste = s.baste := s.setNat_baste n _ _
@[simp] theorem State.setField_baste (n i a b v : Nat) : (s.setField n i a b v).baste = s.baste := s.setNat_baste n i _
@[simp] theorem State.setBit_last (n i b : Nat) (on : Bool) : (s.setBit n i b on).last = s.last := s.setNat_last n i _
@[simp] theorem State.setMapBit_last (n b : Nat) (on : Bool) : (s.setMapBit n b on).last = s.last := s.setNat_last n _ _
@[simp] theorem State.setField_last (n i a b v : Nat) : (s.setField n i a b v).last = s.last := s.setNat_last n i _
@[simp] theorem State.setBit_pw (n i b : Nat) (on : Bool) : (s.setBit n i b on).pw = s.pw := s.setNat_pw n i _
@[simp] theorem State.setMapBit_pw (n b : Nat) (on : Bool) : (s.setMapBit n b on).pw = s.pw := s.setNat_pw n _ _
@[simp] theorem State.setField_pw (n i a b v : Nat) : (s.setField n i a b v).pw = s.pw := s.setNat_pw n i _
@[simp] theorem State.setBit_arb (n i b : Nat) (on : Bool) : (s.setBit n i b on).arb = s.arb := s.setNat_arb n i _
@[simp] theorem State.setMapBit_arb (n b : Nat) (on : Bool) : (s.setMapBit n b on).arb = s.arb := s.setNat_arb n _ _
@[simp] theorem State.setField_arb (n i a b v : Nat) : (s.setField n i a b v).arb = s.arb := s.setNat_arb n i _
@[simp] theorem State.setBit_bobBad (n i b : Nat) (on : Bool) : (s.setBit n i b on).bobBad = s.bobBad := s.setNat_bobBad n i _
@[simp] theorem State.setMapBit_bobBad (n b : Nat) (on : Bool) : (s.setMapBit n b on).bobBad = s.bobBad := s.setNat_bobBad n _ _
@[simp] theorem State.setField_bobBad (n i a b v : Nat) : (s.setField n i a b v).bobBad = s.bobBad := s.setNat_bobBad n i _
@[simp] theorem State.setBit_bobWaits (n i b : Nat) (on : Bool) : (s.setBit n i b on).bobWaits = s.bobWaits := s.setNat_bobWaits n i _
@[simp] theorem State.setMapBit_bobWaits (n b : Nat) (on : Bool) : (s.setMapBit n b on).bobWaits = s.bobWaits := s.setNat_bobWaits n _ _
@[simp] theorem State.setField_bobWaits (n i a b v : Nat) : (s.setField n i a b v).bobWaits = s.bobWaits := s.setNat_bobWaits n i _
@[simp] theorem State.setBit_shWaits (n i b : Nat) (on : Bool) : (s.setBit n i b on).shWaits = s.shWaits := s.setNat_shWaits n i _
@[simp] theorem State.setMapBit_shWaits (n b : Nat) (on : Bool) : (s.setMapBit n b on).shWaits = s.shWaits := s.setNat_shWaits n _ _
@[simp] theorem State.setField_shWaits (n i a b v : Nat) : (s.setField n i a b v).shWaits = s.shWaits := s.setNat_shWaits n i _
@[simp] theorem State.setBit_coreWaits (n i b : Nat) (on : Bool) : (s.setBit n i b on).coreWaits = s.coreWaits := s.setNat_coreWaits n i _
@[simp] theorem State.setMapBit_coreWaits (n b : Nat) (on : Bool) : (s.setMapBit n b on).coreWaits = s.coreWaits := s.setNat_coreWaits n _ _
@[simp] theorem State.setField_coreWaits (n i a b v : Nat) : (s.setField n i a b v).coreWaits = s.coreWaits := s.setNat_coreWaits n i _
@[simp] theorem State.setBit_hem (n i b : Nat) (on : Bool) : (s.setBit n i b on).hem = s.hem := s.setNat_hem n i _
@[simp] theorem State.setMapBit_hem (n b : Nat) (on : Bool) : (s.setMapBit n b on).hem = s.hem := s.setNat_hem n _ _
@[simp] theorem State.setField_hem (n i a b v : Nat) : (s.setField n i a b v).hem = s.hem := s.setNat_hem n i _
@[simp] theorem State.setBit_sh (n i b : Nat) (on : Bool) : (s.setBit n i b on).sh = s.sh := s.setNat_sh n i _
@[simp] theorem State.setMapBit_sh (n b : Nat) (on : Bool) : (s.setMapBit n b on).sh = s.sh := s.setNat_sh n _ _
@[simp] theorem State.setField_sh (n i a b v : Nat) : (s.setField n i a b v).sh = s.sh := s.setNat_sh n i _
@[simp] theorem State.setBit_tdm (n i b : Nat) (on : Bool) : (s.setBit n i b on).tdm = s.tdm := s.setNat_tdm n i _
@[simp] theorem State.setMapBit_tdm (n b : Nat) (on : Bool) : (s.setMapBit n b on).tdm = s.tdm := s.setNat_tdm n _ _
@[simp] theorem State.setField_tdm (n i a b v : Nat) : (s.setField n i a b v).tdm = s.tdm := s.setNat_tdm n i _
@[simp] theorem State.setBit_tbs (n i b : Nat) (on : Bool) : (s.setBit n i b on).tbs = s.tbs := s.setNat_tbs n i _
@[simp] theorem State.setMapBit_tbs (n b : Nat) (on : Bool) : (s.setMapBit n b on).tbs = s.tbs := s.setNat_tbs n _ _
@[simp] theorem State.setField_tbs (n i a b v : Nat) : (s.setField n i a b v).tbs = s.tbs := s.setNat_tbs n i _
@[simp] theorem State.setBit_safe (n i b : Nat) (on : Bool) : (s.setBit n i b on).safe = s.safe := s.setNat_safe n i _
@[simp] theorem State.setMapBit_safe (n b : Nat) (on : Bool) : (s.setMapBit n b on).safe = s.safe := s.setNat_safe n _ _
@[simp] theorem State.setField_safe (n i a b v : Nat) : (s.setField n i a b v).safe = s.safe := s.setNat_safe n i _
@[simp] theorem State.setBit_dict (n i b : Nat) (on : Bool) : (s.setBit n i b on).dict = s.dict := s.setNat_dict n i _
@[simp] theorem State.setMapBit_dict (n b : Nat) (on : Bool) : (s.setMapBit n b on).dict = s.dict := s.setNat_dict n _ _
@[simp] theorem State.setField_dict (n i a b v : Nat) : (s.setField n i a b v).dict = s.dict := s.setNat_dict n i _
@[simp] theorem State.setBit_ursin (n i b : Nat) (on : Bool) : (s.setBit n i b on).ursin = s.ursin := s.setNat_ursin n i _
@[simp] theorem State.setMapBit_ursin (n b : Nat) (on : Bool) : (s.setMapBit n b on).ursin = s.ursin := s.setNat_ursin n _ _
@[simp] theorem State.setField_ursin (n i a b v : Nat) : (s.setField n i a b v).ursin = s.ursin := s.setNat_ursin n i _
@[simp] theorem State.setBit_ven (n i b : Nat) (on : Bool) : (s.setBit n i b on).ven = s.ven := s.setNat_ven n i _
@[simp] theorem State.setMapBit_ven (n b : Nat) (on : Bool) : (s.setMapBit n b on).ven = s.ven := s.setNat_ven n _ _
@[simp] theorem State.setField_ven (n i a b v : Nat) : (s.setField n i a b v).ven = s.ven := s.setNat_ven n i _
@[simp] theorem State.setBit_ser (n i b : Nat) (on : Bool) : (s.setBit n i b on).ser = s.ser := s.setNat_ser n i _
@[simp] theorem State.setMapBit_ser (n b : Nat) (on : Bool) : (s.setMapBit n b on).ser = s.ser := s.setNat_ser n _ _
@[simp] theorem State.setField_ser (n i a b v : Nat) : (s.setField n i a b v).ser = s.ser := s.setNat_ser n i _
@[simp] theorem State.setBit_dma (n i b : Nat) (on : Bool) : (s.setBit n i b on).dma = s.dma := s.setNat_dma n i _
@[simp] theorem State.setMapBit_dma (n b : Nat) (on : Bool) : (s.setMapBit n b on).dma = s.dma := s.setNat_dma n _ _
@[simp] theorem State.setField_dma (n i a b v : Nat) : (s.setField n i a b v).dma = s.dma := s.setNat_dma n i _
@[simp] theorem State.setBit_dmaLast (n i b : Nat) (on : Bool) : (s.setBit n i b on).dmaLast = s.dmaLast := s.setNat_dmaLast n i _
@[simp] theorem State.setMapBit_dmaLast (n b : Nat) (on : Bool) : (s.setMapBit n b on).dmaLast = s.dmaLast := s.setNat_dmaLast n _ _
@[simp] theorem State.setField_dmaLast (n i a b v : Nat) : (s.setField n i a b v).dmaLast = s.dmaLast := s.setNat_dmaLast n i _
@[simp] theorem State.setBit_flash (n i b : Nat) (on : Bool) : (s.setBit n i b on).flash = s.flash := s.setNat_flash n i _
@[simp] theorem State.setMapBit_flash (n b : Nat) (on : Bool) : (s.setMapBit n b on).flash = s.flash := s.setNat_flash n _ _
@[simp] theorem State.setField_flash (n i a b v : Nat) : (s.setField n i a b v).flash = s.flash := s.setNat_flash n i _
@[simp] theorem State.setBit_worn (n i b : Nat) (on : Bool) : (s.setBit n i b on).worn = s.worn := s.setNat_worn n i _
@[simp] theorem State.setMapBit_worn (n b : Nat) (on : Bool) : (s.setMapBit n b on).worn = s.worn := s.setNat_worn n _ _
@[simp] theorem State.setField_worn (n i a b v : Nat) : (s.setField n i a b v).worn = s.worn := s.setNat_worn n i _
@[simp] theorem State.setBit_keyKill (n i b : Nat) (on : Bool) : (s.setBit n i b on).keyKill = s.keyKill := s.setNat_keyKill n i _
@[simp] theorem State.setMapBit_keyKill (n b : Nat) (on : Bool) : (s.setMapBit n b on).keyKill = s.keyKill := s.setNat_keyKill n _ _
@[simp] theorem State.setField_keyKill (n i a b v : Nat) : (s.setField n i a b v).keyKill = s.keyKill := s.setNat_keyKill n i _
@[simp] theorem State.setBit_island (n i b : Nat) (on : Bool) : (s.setBit n i b on).island = s.island := s.setNat_island n i _
@[simp] theorem State.setMapBit_island (n b : Nat) (on : Bool) : (s.setMapBit n b on).island = s.island := s.setNat_island n _ _
@[simp] theorem State.setField_island (n i a b v : Nat) : (s.setField n i a b v).island = s.island := s.setNat_island n i _
@[simp] theorem State.setBit_boot (n i b : Nat) (on : Bool) : (s.setBit n i b on).boot = s.boot := s.setNat_boot n i _
@[simp] theorem State.setMapBit_boot (n b : Nat) (on : Bool) : (s.setMapBit n b on).boot = s.boot := s.setNat_boot n _ _
@[simp] theorem State.setField_boot (n i a b v : Nat) : (s.setField n i a b v).boot = s.boot := s.setNat_boot n i _
@[simp] theorem State.setBit_dbg (n i b : Nat) (on : Bool) : (s.setBit n i b on).dbg = s.dbg := s.setNat_dbg n i _
@[simp] theorem State.setMapBit_dbg (n b : Nat) (on : Bool) : (s.setMapBit n b on).dbg = s.dbg := s.setNat_dbg n _ _
@[simp] theorem State.setField_dbg (n i a b v : Nat) : (s.setField n i a b v).dbg = s.dbg := s.setNat_dbg n i _
@[simp] theorem State.setBit_misc (n i b : Nat) (on : Bool) : (s.setBit n i b on).misc = s.misc := s.setNat_misc n i _
@[simp] theorem State.setMapBit_misc (n b : Nat) (on : Bool) : (s.setMapBit n b on).misc = s.misc := s.setNat_misc n _ _
@[simp] theorem State.setField_misc (n i a b v : Nat) : (s.setField n i a b v).misc = s.misc := s.setNat_misc n i _
@[simp] theorem State.setBit_out (n i b : Nat) (on : Bool) : (s.setBit n i b on).out = s.out := s.setNat_out n i _
@[simp] theorem State.setMapBit_out (n b : Nat) (on : Bool) : (s.setMapBit n b on).out = s.out := s.setNat_out n _ _
@[simp] theorem State.setField_out (n i a b v : Nat) : (s.setField n i a b v).out = s.out := s.setNat_out n i _
@[simp] theorem State.setBit_free (n i b : Nat) (on : Bool) : (s.setBit n i b on).free = s.free := s.setNat_free n i _
@[simp] theorem State.setMapBit_free (n b : Nat) (on : Bool) : (s.setMapBit n b on).free = s.free := s.setNat_free n _ _
@[simp] theorem State.setField_free (n i a b v : Nat) : (s.setField n i a b v).free = s.free := s.setNat_free n i _
@[simp] theorem State.setBit_blobs (n i b : Nat) (on : Bool) : (s.setBit n i b on).blobs = s.blobs := s.setNat_blobs n i _
@[simp] theorem State.setMapBit_blobs (n b : Nat) (on : Bool) : (s.setMapBit n b on).blobs = s.blobs := s.setNat_blobs n _ _
@[simp] theorem State.setField_blobs (n i a b v : Nat) : (s.setField n i a b v).blobs = s.blobs := s.setNat_blobs n i _
@[simp] theorem State.setBit_evts (n i b : Nat) (on : Bool) : (s.setBit n i b on).evts = s.evts := s.setNat_evts n i _
@[simp] theorem State.setMapBit_evts (n b : Nat) (on : Bool) : (s.setMapBit n b on).evts = s.evts := s.setNat_evts n _ _
@[simp] theorem State.setField_evts (n i a b v : Nat) : (s.setField n i a b v).evts = s.evts := s.setNat_evts n i _
@[simp] theorem State.setBlob_pending (n : Nat) (l : List Byte) : (s.setBlob n l).pending = s.pending := by
  unfold State.setBlob; split <;> rfl
@[simp] theorem State.setBlob_deadlineOf (n : Nat) (l : List Byte) : (s.setBlob n l).deadlineOf = s.deadlineOf := by
  unfold State.setBlob; split <;> rfl
@[simp] theorem State.setBlob_phase (n : Nat) (l : List Byte) : (s.setBlob n l).phase = s.phase := by
  unfold State.setBlob; split <;> rfl
@[simp] theorem State.setBlob_e16 (n : Nat) (l : List Byte) : (s.setBlob n l).e16 = s.e16 := by
  unfold State.setBlob; split <;> rfl
@[simp] theorem State.setBlob_clk (n : Nat) (l : List Byte) : (s.setBlob n l).clk = s.clk := by
  unfold State.setBlob; split <;> rfl
@[simp] theorem State.setBlob_ndl (n : Nat) (l : List Byte) : (s.setBlob n l).ndl = s.ndl := by
  unfold State.setBlob; split <;> rfl
@[simp] theorem State.setBlob_bob (n : Nat) (l : List Byte) : (s.setBlob n l).bob = s.bob := by
  unfold State.setBlob; split <;> rfl
@[simp] theorem State.setBlob_pm (n : Nat) (l : List Byte) : (s.setBlob n l).pm = s.pm := by
  unfold State.setBlob; split <;> rfl
@[simp] theorem State.setBlob_fab (n : Nat) (l : List Byte) : (s.setBlob n l).fab = s.fab := by
  unfold State.setBlob; split <;> rfl
@[simp] theorem State.setBlob_baste (n : Nat) (l : List Byte) : (s.setBlob n l).baste = s.baste := by
  unfold State.setBlob; split <;> rfl
@[simp] theorem State.setBlob_last (n : Nat) (l : List Byte) : (s.setBlob n l).last = s.last := by
  unfold State.setBlob; split <;> rfl
@[simp] theorem State.setBlob_pw (n : Nat) (l : List Byte) : (s.setBlob n l).pw = s.pw := by
  unfold State.setBlob; split <;> rfl
@[simp] theorem State.setBlob_arb (n : Nat) (l : List Byte) : (s.setBlob n l).arb = s.arb := by
  unfold State.setBlob; split <;> rfl
@[simp] theorem State.setBlob_bobBad (n : Nat) (l : List Byte) : (s.setBlob n l).bobBad = s.bobBad := by
  unfold State.setBlob; split <;> rfl
@[simp] theorem State.setBlob_bobWaits (n : Nat) (l : List Byte) : (s.setBlob n l).bobWaits = s.bobWaits := by
  unfold State.setBlob; split <;> rfl
@[simp] theorem State.setBlob_shWaits (n : Nat) (l : List Byte) : (s.setBlob n l).shWaits = s.shWaits := by
  unfold State.setBlob; split <;> rfl
@[simp] theorem State.setBlob_coreWaits (n : Nat) (l : List Byte) : (s.setBlob n l).coreWaits = s.coreWaits := by
  unfold State.setBlob; split <;> rfl
@[simp] theorem State.setBlob_hem (n : Nat) (l : List Byte) : (s.setBlob n l).hem = s.hem := by
  unfold State.setBlob; split <;> rfl
@[simp] theorem State.setBlob_sh (n : Nat) (l : List Byte) : (s.setBlob n l).sh = s.sh := by
  unfold State.setBlob; split <;> rfl
@[simp] theorem State.setBlob_tdm (n : Nat) (l : List Byte) : (s.setBlob n l).tdm = s.tdm := by
  unfold State.setBlob; split <;> rfl
@[simp] theorem State.setBlob_tbs (n : Nat) (l : List Byte) : (s.setBlob n l).tbs = s.tbs := by
  unfold State.setBlob; split <;> rfl
@[simp] theorem State.setBlob_safe (n : Nat) (l : List Byte) : (s.setBlob n l).safe = s.safe := by
  unfold State.setBlob; split <;> rfl
@[simp] theorem State.setBlob_dict (n : Nat) (l : List Byte) : (s.setBlob n l).dict = s.dict := by
  unfold State.setBlob; split <;> rfl
@[simp] theorem State.setBlob_ursin (n : Nat) (l : List Byte) : (s.setBlob n l).ursin = s.ursin := by
  unfold State.setBlob; split <;> rfl
@[simp] theorem State.setBlob_ven (n : Nat) (l : List Byte) : (s.setBlob n l).ven = s.ven := by
  unfold State.setBlob; split <;> rfl
@[simp] theorem State.setBlob_ser (n : Nat) (l : List Byte) : (s.setBlob n l).ser = s.ser := by
  unfold State.setBlob; split <;> rfl
@[simp] theorem State.setBlob_dma (n : Nat) (l : List Byte) : (s.setBlob n l).dma = s.dma := by
  unfold State.setBlob; split <;> rfl
@[simp] theorem State.setBlob_dmaLast (n : Nat) (l : List Byte) : (s.setBlob n l).dmaLast = s.dmaLast := by
  unfold State.setBlob; split <;> rfl
@[simp] theorem State.setBlob_flash (n : Nat) (l : List Byte) : (s.setBlob n l).flash = s.flash := by
  unfold State.setBlob; split <;> rfl
@[simp] theorem State.setBlob_worn (n : Nat) (l : List Byte) : (s.setBlob n l).worn = s.worn := by
  unfold State.setBlob; split <;> rfl
@[simp] theorem State.setBlob_keyKill (n : Nat) (l : List Byte) : (s.setBlob n l).keyKill = s.keyKill := by
  unfold State.setBlob; split <;> rfl
@[simp] theorem State.setBlob_island (n : Nat) (l : List Byte) : (s.setBlob n l).island = s.island := by
  unfold State.setBlob; split <;> rfl
@[simp] theorem State.setBlob_boot (n : Nat) (l : List Byte) : (s.setBlob n l).boot = s.boot := by
  unfold State.setBlob; split <;> rfl
@[simp] theorem State.setBlob_dbg (n : Nat) (l : List Byte) : (s.setBlob n l).dbg = s.dbg := by
  unfold State.setBlob; split <;> rfl
@[simp] theorem State.setBlob_misc (n : Nat) (l : List Byte) : (s.setBlob n l).misc = s.misc := by
  unfold State.setBlob; split <;> rfl
@[simp] theorem State.setBlob_out (n : Nat) (l : List Byte) : (s.setBlob n l).out = s.out := by
  unfold State.setBlob; split <;> rfl
@[simp] theorem State.setBlob_free (n : Nat) (l : List Byte) : (s.setBlob n l).free = s.free := by
  unfold State.setBlob; split <;> rfl
@[simp] theorem State.setBlob_regs (n : Nat) (l : List Byte) : (s.setBlob n l).regs = s.regs := by
  unfold State.setBlob; split <;> rfl
@[simp] theorem State.setBlob_evts (n : Nat) (l : List Byte) : (s.setBlob n l).evts = s.evts := by
  unfold State.setBlob; split <;> rfl

/-! ## Counters -/

@[simp] theorem State.setOvf_pending (n i : Nat) : (s.setOvf n i).pending = s.pending := by
  unfold State.setOvf; split <;> (try rfl); dsimp only; split <;> (try rfl); split <;> simp
@[simp] theorem State.setOvf_deadlineOf (n i : Nat) : (s.setOvf n i).deadlineOf = s.deadlineOf := by
  unfold State.setOvf; split <;> (try rfl); dsimp only; split <;> (try rfl); split <;> simp
@[simp] theorem State.setOvf_phase (n i : Nat) : (s.setOvf n i).phase = s.phase := by
  unfold State.setOvf; split <;> (try rfl); dsimp only; split <;> (try rfl); split <;> simp
@[simp] theorem State.setOvf_e16 (n i : Nat) : (s.setOvf n i).e16 = s.e16 := by
  unfold State.setOvf; split <;> (try rfl); dsimp only; split <;> (try rfl); split <;> simp
@[simp] theorem State.setOvf_clk (n i : Nat) : (s.setOvf n i).clk = s.clk := by
  unfold State.setOvf; split <;> (try rfl); dsimp only; split <;> (try rfl); split <;> simp
@[simp] theorem State.setOvf_ndl (n i : Nat) : (s.setOvf n i).ndl = s.ndl := by
  unfold State.setOvf; split <;> (try rfl); dsimp only; split <;> (try rfl); split <;> simp
@[simp] theorem State.setOvf_bob (n i : Nat) : (s.setOvf n i).bob = s.bob := by
  unfold State.setOvf; split <;> (try rfl); dsimp only; split <;> (try rfl); split <;> simp
@[simp] theorem State.setOvf_pm (n i : Nat) : (s.setOvf n i).pm = s.pm := by
  unfold State.setOvf; split <;> (try rfl); dsimp only; split <;> (try rfl); split <;> simp
@[simp] theorem State.setOvf_fab (n i : Nat) : (s.setOvf n i).fab = s.fab := by
  unfold State.setOvf; split <;> (try rfl); dsimp only; split <;> (try rfl); split <;> simp
@[simp] theorem State.setOvf_baste (n i : Nat) : (s.setOvf n i).baste = s.baste := by
  unfold State.setOvf; split <;> (try rfl); dsimp only; split <;> (try rfl); split <;> simp
@[simp] theorem State.setOvf_last (n i : Nat) : (s.setOvf n i).last = s.last := by
  unfold State.setOvf; split <;> (try rfl); dsimp only; split <;> (try rfl); split <;> simp
@[simp] theorem State.setOvf_pw (n i : Nat) : (s.setOvf n i).pw = s.pw := by
  unfold State.setOvf; split <;> (try rfl); dsimp only; split <;> (try rfl); split <;> simp
@[simp] theorem State.setOvf_arb (n i : Nat) : (s.setOvf n i).arb = s.arb := by
  unfold State.setOvf; split <;> (try rfl); dsimp only; split <;> (try rfl); split <;> simp
@[simp] theorem State.setOvf_bobBad (n i : Nat) : (s.setOvf n i).bobBad = s.bobBad := by
  unfold State.setOvf; split <;> (try rfl); dsimp only; split <;> (try rfl); split <;> simp
@[simp] theorem State.setOvf_bobWaits (n i : Nat) : (s.setOvf n i).bobWaits = s.bobWaits := by
  unfold State.setOvf; split <;> (try rfl); dsimp only; split <;> (try rfl); split <;> simp
@[simp] theorem State.setOvf_shWaits (n i : Nat) : (s.setOvf n i).shWaits = s.shWaits := by
  unfold State.setOvf; split <;> (try rfl); dsimp only; split <;> (try rfl); split <;> simp
@[simp] theorem State.setOvf_coreWaits (n i : Nat) : (s.setOvf n i).coreWaits = s.coreWaits := by
  unfold State.setOvf; split <;> (try rfl); dsimp only; split <;> (try rfl); split <;> simp
@[simp] theorem State.setOvf_hem (n i : Nat) : (s.setOvf n i).hem = s.hem := by
  unfold State.setOvf; split <;> (try rfl); dsimp only; split <;> (try rfl); split <;> simp
@[simp] theorem State.setOvf_sh (n i : Nat) : (s.setOvf n i).sh = s.sh := by
  unfold State.setOvf; split <;> (try rfl); dsimp only; split <;> (try rfl); split <;> simp
@[simp] theorem State.setOvf_tdm (n i : Nat) : (s.setOvf n i).tdm = s.tdm := by
  unfold State.setOvf; split <;> (try rfl); dsimp only; split <;> (try rfl); split <;> simp
@[simp] theorem State.setOvf_tbs (n i : Nat) : (s.setOvf n i).tbs = s.tbs := by
  unfold State.setOvf; split <;> (try rfl); dsimp only; split <;> (try rfl); split <;> simp
@[simp] theorem State.setOvf_safe (n i : Nat) : (s.setOvf n i).safe = s.safe := by
  unfold State.setOvf; split <;> (try rfl); dsimp only; split <;> (try rfl); split <;> simp
@[simp] theorem State.setOvf_dict (n i : Nat) : (s.setOvf n i).dict = s.dict := by
  unfold State.setOvf; split <;> (try rfl); dsimp only; split <;> (try rfl); split <;> simp
@[simp] theorem State.setOvf_ursin (n i : Nat) : (s.setOvf n i).ursin = s.ursin := by
  unfold State.setOvf; split <;> (try rfl); dsimp only; split <;> (try rfl); split <;> simp
@[simp] theorem State.setOvf_ven (n i : Nat) : (s.setOvf n i).ven = s.ven := by
  unfold State.setOvf; split <;> (try rfl); dsimp only; split <;> (try rfl); split <;> simp
@[simp] theorem State.setOvf_ser (n i : Nat) : (s.setOvf n i).ser = s.ser := by
  unfold State.setOvf; split <;> (try rfl); dsimp only; split <;> (try rfl); split <;> simp
@[simp] theorem State.setOvf_dma (n i : Nat) : (s.setOvf n i).dma = s.dma := by
  unfold State.setOvf; split <;> (try rfl); dsimp only; split <;> (try rfl); split <;> simp
@[simp] theorem State.setOvf_dmaLast (n i : Nat) : (s.setOvf n i).dmaLast = s.dmaLast := by
  unfold State.setOvf; split <;> (try rfl); dsimp only; split <;> (try rfl); split <;> simp
@[simp] theorem State.setOvf_flash (n i : Nat) : (s.setOvf n i).flash = s.flash := by
  unfold State.setOvf; split <;> (try rfl); dsimp only; split <;> (try rfl); split <;> simp
@[simp] theorem State.setOvf_worn (n i : Nat) : (s.setOvf n i).worn = s.worn := by
  unfold State.setOvf; split <;> (try rfl); dsimp only; split <;> (try rfl); split <;> simp
@[simp] theorem State.setOvf_keyKill (n i : Nat) : (s.setOvf n i).keyKill = s.keyKill := by
  unfold State.setOvf; split <;> (try rfl); dsimp only; split <;> (try rfl); split <;> simp
@[simp] theorem State.setOvf_island (n i : Nat) : (s.setOvf n i).island = s.island := by
  unfold State.setOvf; split <;> (try rfl); dsimp only; split <;> (try rfl); split <;> simp
@[simp] theorem State.setOvf_boot (n i : Nat) : (s.setOvf n i).boot = s.boot := by
  unfold State.setOvf; split <;> (try rfl); dsimp only; split <;> (try rfl); split <;> simp
@[simp] theorem State.setOvf_dbg (n i : Nat) : (s.setOvf n i).dbg = s.dbg := by
  unfold State.setOvf; split <;> (try rfl); dsimp only; split <;> (try rfl); split <;> simp
@[simp] theorem State.setOvf_misc (n i : Nat) : (s.setOvf n i).misc = s.misc := by
  unfold State.setOvf; split <;> (try rfl); dsimp only; split <;> (try rfl); split <;> simp
@[simp] theorem State.setOvf_out (n i : Nat) : (s.setOvf n i).out = s.out := by
  unfold State.setOvf; split <;> (try rfl); dsimp only; split <;> (try rfl); split <;> simp
@[simp] theorem State.setOvf_free (n i : Nat) : (s.setOvf n i).free = s.free := by
  unfold State.setOvf; split <;> (try rfl); dsimp only; split <;> (try rfl); split <;> simp
@[simp] theorem State.setOvf_blobs (n i : Nat) : (s.setOvf n i).blobs = s.blobs := by
  unfold State.setOvf; split <;> (try rfl); dsimp only; split <;> (try rfl); split <;> simp
@[simp] theorem State.setOvf_evts (n i : Nat) : (s.setOvf n i).evts = s.evts := by
  unfold State.setOvf; split <;> (try rfl); dsimp only; split <;> (try rfl); split <;> simp
@[simp] theorem State.bump_pending (n i k : Nat) : (s.bump n i k).pending = s.pending := by
  unfold State.bump; dsimp only; split <;> simp
@[simp] theorem State.bumpLife_pending (n k : Nat) : (s.bumpLife n k).pending = s.pending := s.setNat_pending n _ _
@[simp] theorem State.raise_pending (n i v : Nat) : (s.raise n i v).pending = s.pending := by
  unfold State.raise; split <;> simp
@[simp] theorem State.bump_deadlineOf (n i k : Nat) : (s.bump n i k).deadlineOf = s.deadlineOf := by
  unfold State.bump; dsimp only; split <;> simp
@[simp] theorem State.bumpLife_deadlineOf (n k : Nat) : (s.bumpLife n k).deadlineOf = s.deadlineOf := s.setNat_deadlineOf n _ _
@[simp] theorem State.raise_deadlineOf (n i v : Nat) : (s.raise n i v).deadlineOf = s.deadlineOf := by
  unfold State.raise; split <;> simp
@[simp] theorem State.bump_phase (n i k : Nat) : (s.bump n i k).phase = s.phase := by
  unfold State.bump; dsimp only; split <;> simp
@[simp] theorem State.bumpLife_phase (n k : Nat) : (s.bumpLife n k).phase = s.phase := s.setNat_phase n _ _
@[simp] theorem State.raise_phase (n i v : Nat) : (s.raise n i v).phase = s.phase := by
  unfold State.raise; split <;> simp
@[simp] theorem State.bump_e16 (n i k : Nat) : (s.bump n i k).e16 = s.e16 := by
  unfold State.bump; dsimp only; split <;> simp
@[simp] theorem State.bumpLife_e16 (n k : Nat) : (s.bumpLife n k).e16 = s.e16 := s.setNat_e16 n _ _
@[simp] theorem State.raise_e16 (n i v : Nat) : (s.raise n i v).e16 = s.e16 := by
  unfold State.raise; split <;> simp
@[simp] theorem State.bump_clk (n i k : Nat) : (s.bump n i k).clk = s.clk := by
  unfold State.bump; dsimp only; split <;> simp
@[simp] theorem State.bumpLife_clk (n k : Nat) : (s.bumpLife n k).clk = s.clk := s.setNat_clk n _ _
@[simp] theorem State.raise_clk (n i v : Nat) : (s.raise n i v).clk = s.clk := by
  unfold State.raise; split <;> simp
@[simp] theorem State.bump_ndl (n i k : Nat) : (s.bump n i k).ndl = s.ndl := by
  unfold State.bump; dsimp only; split <;> simp
@[simp] theorem State.bumpLife_ndl (n k : Nat) : (s.bumpLife n k).ndl = s.ndl := s.setNat_ndl n _ _
@[simp] theorem State.raise_ndl (n i v : Nat) : (s.raise n i v).ndl = s.ndl := by
  unfold State.raise; split <;> simp
@[simp] theorem State.bump_bob (n i k : Nat) : (s.bump n i k).bob = s.bob := by
  unfold State.bump; dsimp only; split <;> simp
@[simp] theorem State.bumpLife_bob (n k : Nat) : (s.bumpLife n k).bob = s.bob := s.setNat_bob n _ _
@[simp] theorem State.raise_bob (n i v : Nat) : (s.raise n i v).bob = s.bob := by
  unfold State.raise; split <;> simp
@[simp] theorem State.bump_pm (n i k : Nat) : (s.bump n i k).pm = s.pm := by
  unfold State.bump; dsimp only; split <;> simp
@[simp] theorem State.bumpLife_pm (n k : Nat) : (s.bumpLife n k).pm = s.pm := s.setNat_pm n _ _
@[simp] theorem State.raise_pm (n i v : Nat) : (s.raise n i v).pm = s.pm := by
  unfold State.raise; split <;> simp
@[simp] theorem State.bump_fab (n i k : Nat) : (s.bump n i k).fab = s.fab := by
  unfold State.bump; dsimp only; split <;> simp
@[simp] theorem State.bumpLife_fab (n k : Nat) : (s.bumpLife n k).fab = s.fab := s.setNat_fab n _ _
@[simp] theorem State.raise_fab (n i v : Nat) : (s.raise n i v).fab = s.fab := by
  unfold State.raise; split <;> simp
@[simp] theorem State.bump_baste (n i k : Nat) : (s.bump n i k).baste = s.baste := by
  unfold State.bump; dsimp only; split <;> simp
@[simp] theorem State.bumpLife_baste (n k : Nat) : (s.bumpLife n k).baste = s.baste := s.setNat_baste n _ _
@[simp] theorem State.raise_baste (n i v : Nat) : (s.raise n i v).baste = s.baste := by
  unfold State.raise; split <;> simp
@[simp] theorem State.bump_last (n i k : Nat) : (s.bump n i k).last = s.last := by
  unfold State.bump; dsimp only; split <;> simp
@[simp] theorem State.bumpLife_last (n k : Nat) : (s.bumpLife n k).last = s.last := s.setNat_last n _ _
@[simp] theorem State.raise_last (n i v : Nat) : (s.raise n i v).last = s.last := by
  unfold State.raise; split <;> simp
@[simp] theorem State.bump_pw (n i k : Nat) : (s.bump n i k).pw = s.pw := by
  unfold State.bump; dsimp only; split <;> simp
@[simp] theorem State.bumpLife_pw (n k : Nat) : (s.bumpLife n k).pw = s.pw := s.setNat_pw n _ _
@[simp] theorem State.raise_pw (n i v : Nat) : (s.raise n i v).pw = s.pw := by
  unfold State.raise; split <;> simp
@[simp] theorem State.bump_arb (n i k : Nat) : (s.bump n i k).arb = s.arb := by
  unfold State.bump; dsimp only; split <;> simp
@[simp] theorem State.bumpLife_arb (n k : Nat) : (s.bumpLife n k).arb = s.arb := s.setNat_arb n _ _
@[simp] theorem State.raise_arb (n i v : Nat) : (s.raise n i v).arb = s.arb := by
  unfold State.raise; split <;> simp
@[simp] theorem State.bump_bobBad (n i k : Nat) : (s.bump n i k).bobBad = s.bobBad := by
  unfold State.bump; dsimp only; split <;> simp
@[simp] theorem State.bumpLife_bobBad (n k : Nat) : (s.bumpLife n k).bobBad = s.bobBad := s.setNat_bobBad n _ _
@[simp] theorem State.raise_bobBad (n i v : Nat) : (s.raise n i v).bobBad = s.bobBad := by
  unfold State.raise; split <;> simp
@[simp] theorem State.bump_bobWaits (n i k : Nat) : (s.bump n i k).bobWaits = s.bobWaits := by
  unfold State.bump; dsimp only; split <;> simp
@[simp] theorem State.bumpLife_bobWaits (n k : Nat) : (s.bumpLife n k).bobWaits = s.bobWaits := s.setNat_bobWaits n _ _
@[simp] theorem State.raise_bobWaits (n i v : Nat) : (s.raise n i v).bobWaits = s.bobWaits := by
  unfold State.raise; split <;> simp
@[simp] theorem State.bump_shWaits (n i k : Nat) : (s.bump n i k).shWaits = s.shWaits := by
  unfold State.bump; dsimp only; split <;> simp
@[simp] theorem State.bumpLife_shWaits (n k : Nat) : (s.bumpLife n k).shWaits = s.shWaits := s.setNat_shWaits n _ _
@[simp] theorem State.raise_shWaits (n i v : Nat) : (s.raise n i v).shWaits = s.shWaits := by
  unfold State.raise; split <;> simp
@[simp] theorem State.bump_coreWaits (n i k : Nat) : (s.bump n i k).coreWaits = s.coreWaits := by
  unfold State.bump; dsimp only; split <;> simp
@[simp] theorem State.bumpLife_coreWaits (n k : Nat) : (s.bumpLife n k).coreWaits = s.coreWaits := s.setNat_coreWaits n _ _
@[simp] theorem State.raise_coreWaits (n i v : Nat) : (s.raise n i v).coreWaits = s.coreWaits := by
  unfold State.raise; split <;> simp
@[simp] theorem State.bump_hem (n i k : Nat) : (s.bump n i k).hem = s.hem := by
  unfold State.bump; dsimp only; split <;> simp
@[simp] theorem State.bumpLife_hem (n k : Nat) : (s.bumpLife n k).hem = s.hem := s.setNat_hem n _ _
@[simp] theorem State.raise_hem (n i v : Nat) : (s.raise n i v).hem = s.hem := by
  unfold State.raise; split <;> simp
@[simp] theorem State.bump_sh (n i k : Nat) : (s.bump n i k).sh = s.sh := by
  unfold State.bump; dsimp only; split <;> simp
@[simp] theorem State.bumpLife_sh (n k : Nat) : (s.bumpLife n k).sh = s.sh := s.setNat_sh n _ _
@[simp] theorem State.raise_sh (n i v : Nat) : (s.raise n i v).sh = s.sh := by
  unfold State.raise; split <;> simp
@[simp] theorem State.bump_tdm (n i k : Nat) : (s.bump n i k).tdm = s.tdm := by
  unfold State.bump; dsimp only; split <;> simp
@[simp] theorem State.bumpLife_tdm (n k : Nat) : (s.bumpLife n k).tdm = s.tdm := s.setNat_tdm n _ _
@[simp] theorem State.raise_tdm (n i v : Nat) : (s.raise n i v).tdm = s.tdm := by
  unfold State.raise; split <;> simp
@[simp] theorem State.bump_tbs (n i k : Nat) : (s.bump n i k).tbs = s.tbs := by
  unfold State.bump; dsimp only; split <;> simp
@[simp] theorem State.bumpLife_tbs (n k : Nat) : (s.bumpLife n k).tbs = s.tbs := s.setNat_tbs n _ _
@[simp] theorem State.raise_tbs (n i v : Nat) : (s.raise n i v).tbs = s.tbs := by
  unfold State.raise; split <;> simp
@[simp] theorem State.bump_safe (n i k : Nat) : (s.bump n i k).safe = s.safe := by
  unfold State.bump; dsimp only; split <;> simp
@[simp] theorem State.bumpLife_safe (n k : Nat) : (s.bumpLife n k).safe = s.safe := s.setNat_safe n _ _
@[simp] theorem State.raise_safe (n i v : Nat) : (s.raise n i v).safe = s.safe := by
  unfold State.raise; split <;> simp
@[simp] theorem State.bump_dict (n i k : Nat) : (s.bump n i k).dict = s.dict := by
  unfold State.bump; dsimp only; split <;> simp
@[simp] theorem State.bumpLife_dict (n k : Nat) : (s.bumpLife n k).dict = s.dict := s.setNat_dict n _ _
@[simp] theorem State.raise_dict (n i v : Nat) : (s.raise n i v).dict = s.dict := by
  unfold State.raise; split <;> simp
@[simp] theorem State.bump_ursin (n i k : Nat) : (s.bump n i k).ursin = s.ursin := by
  unfold State.bump; dsimp only; split <;> simp
@[simp] theorem State.bumpLife_ursin (n k : Nat) : (s.bumpLife n k).ursin = s.ursin := s.setNat_ursin n _ _
@[simp] theorem State.raise_ursin (n i v : Nat) : (s.raise n i v).ursin = s.ursin := by
  unfold State.raise; split <;> simp
@[simp] theorem State.bump_ven (n i k : Nat) : (s.bump n i k).ven = s.ven := by
  unfold State.bump; dsimp only; split <;> simp
@[simp] theorem State.bumpLife_ven (n k : Nat) : (s.bumpLife n k).ven = s.ven := s.setNat_ven n _ _
@[simp] theorem State.raise_ven (n i v : Nat) : (s.raise n i v).ven = s.ven := by
  unfold State.raise; split <;> simp
@[simp] theorem State.bump_ser (n i k : Nat) : (s.bump n i k).ser = s.ser := by
  unfold State.bump; dsimp only; split <;> simp
@[simp] theorem State.bumpLife_ser (n k : Nat) : (s.bumpLife n k).ser = s.ser := s.setNat_ser n _ _
@[simp] theorem State.raise_ser (n i v : Nat) : (s.raise n i v).ser = s.ser := by
  unfold State.raise; split <;> simp
@[simp] theorem State.bump_dma (n i k : Nat) : (s.bump n i k).dma = s.dma := by
  unfold State.bump; dsimp only; split <;> simp
@[simp] theorem State.bumpLife_dma (n k : Nat) : (s.bumpLife n k).dma = s.dma := s.setNat_dma n _ _
@[simp] theorem State.raise_dma (n i v : Nat) : (s.raise n i v).dma = s.dma := by
  unfold State.raise; split <;> simp
@[simp] theorem State.bump_dmaLast (n i k : Nat) : (s.bump n i k).dmaLast = s.dmaLast := by
  unfold State.bump; dsimp only; split <;> simp
@[simp] theorem State.bumpLife_dmaLast (n k : Nat) : (s.bumpLife n k).dmaLast = s.dmaLast := s.setNat_dmaLast n _ _
@[simp] theorem State.raise_dmaLast (n i v : Nat) : (s.raise n i v).dmaLast = s.dmaLast := by
  unfold State.raise; split <;> simp
@[simp] theorem State.bump_flash (n i k : Nat) : (s.bump n i k).flash = s.flash := by
  unfold State.bump; dsimp only; split <;> simp
@[simp] theorem State.bumpLife_flash (n k : Nat) : (s.bumpLife n k).flash = s.flash := s.setNat_flash n _ _
@[simp] theorem State.raise_flash (n i v : Nat) : (s.raise n i v).flash = s.flash := by
  unfold State.raise; split <;> simp
@[simp] theorem State.bump_worn (n i k : Nat) : (s.bump n i k).worn = s.worn := by
  unfold State.bump; dsimp only; split <;> simp
@[simp] theorem State.bumpLife_worn (n k : Nat) : (s.bumpLife n k).worn = s.worn := s.setNat_worn n _ _
@[simp] theorem State.raise_worn (n i v : Nat) : (s.raise n i v).worn = s.worn := by
  unfold State.raise; split <;> simp
@[simp] theorem State.bump_keyKill (n i k : Nat) : (s.bump n i k).keyKill = s.keyKill := by
  unfold State.bump; dsimp only; split <;> simp
@[simp] theorem State.bumpLife_keyKill (n k : Nat) : (s.bumpLife n k).keyKill = s.keyKill := s.setNat_keyKill n _ _
@[simp] theorem State.raise_keyKill (n i v : Nat) : (s.raise n i v).keyKill = s.keyKill := by
  unfold State.raise; split <;> simp
@[simp] theorem State.bump_island (n i k : Nat) : (s.bump n i k).island = s.island := by
  unfold State.bump; dsimp only; split <;> simp
@[simp] theorem State.bumpLife_island (n k : Nat) : (s.bumpLife n k).island = s.island := s.setNat_island n _ _
@[simp] theorem State.raise_island (n i v : Nat) : (s.raise n i v).island = s.island := by
  unfold State.raise; split <;> simp
@[simp] theorem State.bump_boot (n i k : Nat) : (s.bump n i k).boot = s.boot := by
  unfold State.bump; dsimp only; split <;> simp
@[simp] theorem State.bumpLife_boot (n k : Nat) : (s.bumpLife n k).boot = s.boot := s.setNat_boot n _ _
@[simp] theorem State.raise_boot (n i v : Nat) : (s.raise n i v).boot = s.boot := by
  unfold State.raise; split <;> simp
@[simp] theorem State.bump_dbg (n i k : Nat) : (s.bump n i k).dbg = s.dbg := by
  unfold State.bump; dsimp only; split <;> simp
@[simp] theorem State.bumpLife_dbg (n k : Nat) : (s.bumpLife n k).dbg = s.dbg := s.setNat_dbg n _ _
@[simp] theorem State.raise_dbg (n i v : Nat) : (s.raise n i v).dbg = s.dbg := by
  unfold State.raise; split <;> simp
@[simp] theorem State.bump_misc (n i k : Nat) : (s.bump n i k).misc = s.misc := by
  unfold State.bump; dsimp only; split <;> simp
@[simp] theorem State.bumpLife_misc (n k : Nat) : (s.bumpLife n k).misc = s.misc := s.setNat_misc n _ _
@[simp] theorem State.raise_misc (n i v : Nat) : (s.raise n i v).misc = s.misc := by
  unfold State.raise; split <;> simp
@[simp] theorem State.bump_out (n i k : Nat) : (s.bump n i k).out = s.out := by
  unfold State.bump; dsimp only; split <;> simp
@[simp] theorem State.bumpLife_out (n k : Nat) : (s.bumpLife n k).out = s.out := s.setNat_out n _ _
@[simp] theorem State.raise_out (n i v : Nat) : (s.raise n i v).out = s.out := by
  unfold State.raise; split <;> simp
@[simp] theorem State.bump_free (n i k : Nat) : (s.bump n i k).free = s.free := by
  unfold State.bump; dsimp only; split <;> simp
@[simp] theorem State.bumpLife_free (n k : Nat) : (s.bumpLife n k).free = s.free := s.setNat_free n _ _
@[simp] theorem State.raise_free (n i v : Nat) : (s.raise n i v).free = s.free := by
  unfold State.raise; split <;> simp
@[simp] theorem State.bump_blobs (n i k : Nat) : (s.bump n i k).blobs = s.blobs := by
  unfold State.bump; dsimp only; split <;> simp
@[simp] theorem State.bumpLife_blobs (n k : Nat) : (s.bumpLife n k).blobs = s.blobs := s.setNat_blobs n _ _
@[simp] theorem State.raise_blobs (n i v : Nat) : (s.raise n i v).blobs = s.blobs := by
  unfold State.raise; split <;> simp
@[simp] theorem State.bump_evts (n i k : Nat) : (s.bump n i k).evts = s.evts := by
  unfold State.bump; dsimp only; split <;> simp
@[simp] theorem State.bumpLife_evts (n k : Nat) : (s.bumpLife n k).evts = s.evts := s.setNat_evts n _ _
@[simp] theorem State.raise_evts (n i v : Nat) : (s.raise n i v).evts = s.evts := by
  unfold State.raise; split <;> simp

/-! ## The event log -/

@[simp] theorem State.logAt_pending (c r k a b d : Nat) : (s.logAt c r k a b d).pending = s.pending := by
  unfold State.logAt; dsimp only; split <;> simp
@[simp] theorem State.log_pending (c a b d r : Nat) : (s.log c a b d r).pending = s.pending := s.logAt_pending c r _ a b d
@[simp] theorem State.logAt_deadlineOf (c r k a b d : Nat) : (s.logAt c r k a b d).deadlineOf = s.deadlineOf := by
  unfold State.logAt; dsimp only; split <;> simp
@[simp] theorem State.log_deadlineOf (c a b d r : Nat) : (s.log c a b d r).deadlineOf = s.deadlineOf := s.logAt_deadlineOf c r _ a b d
@[simp] theorem State.logAt_phase (c r k a b d : Nat) : (s.logAt c r k a b d).phase = s.phase := by
  unfold State.logAt; dsimp only; split <;> simp
@[simp] theorem State.log_phase (c a b d r : Nat) : (s.log c a b d r).phase = s.phase := s.logAt_phase c r _ a b d
@[simp] theorem State.logAt_e16 (c r k a b d : Nat) : (s.logAt c r k a b d).e16 = s.e16 := by
  unfold State.logAt; dsimp only; split <;> simp
@[simp] theorem State.log_e16 (c a b d r : Nat) : (s.log c a b d r).e16 = s.e16 := s.logAt_e16 c r _ a b d
@[simp] theorem State.logAt_clk (c r k a b d : Nat) : (s.logAt c r k a b d).clk = s.clk := by
  unfold State.logAt; dsimp only; split <;> simp
@[simp] theorem State.log_clk (c a b d r : Nat) : (s.log c a b d r).clk = s.clk := s.logAt_clk c r _ a b d
@[simp] theorem State.logAt_ndl (c r k a b d : Nat) : (s.logAt c r k a b d).ndl = s.ndl := by
  unfold State.logAt; dsimp only; split <;> simp
@[simp] theorem State.log_ndl (c a b d r : Nat) : (s.log c a b d r).ndl = s.ndl := s.logAt_ndl c r _ a b d
@[simp] theorem State.logAt_bob (c r k a b d : Nat) : (s.logAt c r k a b d).bob = s.bob := by
  unfold State.logAt; dsimp only; split <;> simp
@[simp] theorem State.log_bob (c a b d r : Nat) : (s.log c a b d r).bob = s.bob := s.logAt_bob c r _ a b d
@[simp] theorem State.logAt_pm (c r k a b d : Nat) : (s.logAt c r k a b d).pm = s.pm := by
  unfold State.logAt; dsimp only; split <;> simp
@[simp] theorem State.log_pm (c a b d r : Nat) : (s.log c a b d r).pm = s.pm := s.logAt_pm c r _ a b d
@[simp] theorem State.logAt_fab (c r k a b d : Nat) : (s.logAt c r k a b d).fab = s.fab := by
  unfold State.logAt; dsimp only; split <;> simp
@[simp] theorem State.log_fab (c a b d r : Nat) : (s.log c a b d r).fab = s.fab := s.logAt_fab c r _ a b d
@[simp] theorem State.logAt_baste (c r k a b d : Nat) : (s.logAt c r k a b d).baste = s.baste := by
  unfold State.logAt; dsimp only; split <;> simp
@[simp] theorem State.log_baste (c a b d r : Nat) : (s.log c a b d r).baste = s.baste := s.logAt_baste c r _ a b d
@[simp] theorem State.logAt_last (c r k a b d : Nat) : (s.logAt c r k a b d).last = s.last := by
  unfold State.logAt; dsimp only; split <;> simp
@[simp] theorem State.log_last (c a b d r : Nat) : (s.log c a b d r).last = s.last := s.logAt_last c r _ a b d
@[simp] theorem State.logAt_pw (c r k a b d : Nat) : (s.logAt c r k a b d).pw = s.pw := by
  unfold State.logAt; dsimp only; split <;> simp
@[simp] theorem State.log_pw (c a b d r : Nat) : (s.log c a b d r).pw = s.pw := s.logAt_pw c r _ a b d
@[simp] theorem State.logAt_arb (c r k a b d : Nat) : (s.logAt c r k a b d).arb = s.arb := by
  unfold State.logAt; dsimp only; split <;> simp
@[simp] theorem State.log_arb (c a b d r : Nat) : (s.log c a b d r).arb = s.arb := s.logAt_arb c r _ a b d
@[simp] theorem State.logAt_bobBad (c r k a b d : Nat) : (s.logAt c r k a b d).bobBad = s.bobBad := by
  unfold State.logAt; dsimp only; split <;> simp
@[simp] theorem State.log_bobBad (c a b d r : Nat) : (s.log c a b d r).bobBad = s.bobBad := s.logAt_bobBad c r _ a b d
@[simp] theorem State.logAt_bobWaits (c r k a b d : Nat) : (s.logAt c r k a b d).bobWaits = s.bobWaits := by
  unfold State.logAt; dsimp only; split <;> simp
@[simp] theorem State.log_bobWaits (c a b d r : Nat) : (s.log c a b d r).bobWaits = s.bobWaits := s.logAt_bobWaits c r _ a b d
@[simp] theorem State.logAt_shWaits (c r k a b d : Nat) : (s.logAt c r k a b d).shWaits = s.shWaits := by
  unfold State.logAt; dsimp only; split <;> simp
@[simp] theorem State.log_shWaits (c a b d r : Nat) : (s.log c a b d r).shWaits = s.shWaits := s.logAt_shWaits c r _ a b d
@[simp] theorem State.logAt_coreWaits (c r k a b d : Nat) : (s.logAt c r k a b d).coreWaits = s.coreWaits := by
  unfold State.logAt; dsimp only; split <;> simp
@[simp] theorem State.log_coreWaits (c a b d r : Nat) : (s.log c a b d r).coreWaits = s.coreWaits := s.logAt_coreWaits c r _ a b d
@[simp] theorem State.logAt_hem (c r k a b d : Nat) : (s.logAt c r k a b d).hem = s.hem := by
  unfold State.logAt; dsimp only; split <;> simp
@[simp] theorem State.log_hem (c a b d r : Nat) : (s.log c a b d r).hem = s.hem := s.logAt_hem c r _ a b d
@[simp] theorem State.logAt_sh (c r k a b d : Nat) : (s.logAt c r k a b d).sh = s.sh := by
  unfold State.logAt; dsimp only; split <;> simp
@[simp] theorem State.log_sh (c a b d r : Nat) : (s.log c a b d r).sh = s.sh := s.logAt_sh c r _ a b d
@[simp] theorem State.logAt_tdm (c r k a b d : Nat) : (s.logAt c r k a b d).tdm = s.tdm := by
  unfold State.logAt; dsimp only; split <;> simp
@[simp] theorem State.log_tdm (c a b d r : Nat) : (s.log c a b d r).tdm = s.tdm := s.logAt_tdm c r _ a b d
@[simp] theorem State.logAt_tbs (c r k a b d : Nat) : (s.logAt c r k a b d).tbs = s.tbs := by
  unfold State.logAt; dsimp only; split <;> simp
@[simp] theorem State.log_tbs (c a b d r : Nat) : (s.log c a b d r).tbs = s.tbs := s.logAt_tbs c r _ a b d
@[simp] theorem State.logAt_safe (c r k a b d : Nat) : (s.logAt c r k a b d).safe = s.safe := by
  unfold State.logAt; dsimp only; split <;> simp
@[simp] theorem State.log_safe (c a b d r : Nat) : (s.log c a b d r).safe = s.safe := s.logAt_safe c r _ a b d
@[simp] theorem State.logAt_dict (c r k a b d : Nat) : (s.logAt c r k a b d).dict = s.dict := by
  unfold State.logAt; dsimp only; split <;> simp
@[simp] theorem State.log_dict (c a b d r : Nat) : (s.log c a b d r).dict = s.dict := s.logAt_dict c r _ a b d
@[simp] theorem State.logAt_ursin (c r k a b d : Nat) : (s.logAt c r k a b d).ursin = s.ursin := by
  unfold State.logAt; dsimp only; split <;> simp
@[simp] theorem State.log_ursin (c a b d r : Nat) : (s.log c a b d r).ursin = s.ursin := s.logAt_ursin c r _ a b d
@[simp] theorem State.logAt_ven (c r k a b d : Nat) : (s.logAt c r k a b d).ven = s.ven := by
  unfold State.logAt; dsimp only; split <;> simp
@[simp] theorem State.log_ven (c a b d r : Nat) : (s.log c a b d r).ven = s.ven := s.logAt_ven c r _ a b d
@[simp] theorem State.logAt_ser (c r k a b d : Nat) : (s.logAt c r k a b d).ser = s.ser := by
  unfold State.logAt; dsimp only; split <;> simp
@[simp] theorem State.log_ser (c a b d r : Nat) : (s.log c a b d r).ser = s.ser := s.logAt_ser c r _ a b d
@[simp] theorem State.logAt_dma (c r k a b d : Nat) : (s.logAt c r k a b d).dma = s.dma := by
  unfold State.logAt; dsimp only; split <;> simp
@[simp] theorem State.log_dma (c a b d r : Nat) : (s.log c a b d r).dma = s.dma := s.logAt_dma c r _ a b d
@[simp] theorem State.logAt_dmaLast (c r k a b d : Nat) : (s.logAt c r k a b d).dmaLast = s.dmaLast := by
  unfold State.logAt; dsimp only; split <;> simp
@[simp] theorem State.log_dmaLast (c a b d r : Nat) : (s.log c a b d r).dmaLast = s.dmaLast := s.logAt_dmaLast c r _ a b d
@[simp] theorem State.logAt_flash (c r k a b d : Nat) : (s.logAt c r k a b d).flash = s.flash := by
  unfold State.logAt; dsimp only; split <;> simp
@[simp] theorem State.log_flash (c a b d r : Nat) : (s.log c a b d r).flash = s.flash := s.logAt_flash c r _ a b d
@[simp] theorem State.logAt_worn (c r k a b d : Nat) : (s.logAt c r k a b d).worn = s.worn := by
  unfold State.logAt; dsimp only; split <;> simp
@[simp] theorem State.log_worn (c a b d r : Nat) : (s.log c a b d r).worn = s.worn := s.logAt_worn c r _ a b d
@[simp] theorem State.logAt_keyKill (c r k a b d : Nat) : (s.logAt c r k a b d).keyKill = s.keyKill := by
  unfold State.logAt; dsimp only; split <;> simp
@[simp] theorem State.log_keyKill (c a b d r : Nat) : (s.log c a b d r).keyKill = s.keyKill := s.logAt_keyKill c r _ a b d
@[simp] theorem State.logAt_island (c r k a b d : Nat) : (s.logAt c r k a b d).island = s.island := by
  unfold State.logAt; dsimp only; split <;> simp
@[simp] theorem State.log_island (c a b d r : Nat) : (s.log c a b d r).island = s.island := s.logAt_island c r _ a b d
@[simp] theorem State.logAt_boot (c r k a b d : Nat) : (s.logAt c r k a b d).boot = s.boot := by
  unfold State.logAt; dsimp only; split <;> simp
@[simp] theorem State.log_boot (c a b d r : Nat) : (s.log c a b d r).boot = s.boot := s.logAt_boot c r _ a b d
@[simp] theorem State.logAt_dbg (c r k a b d : Nat) : (s.logAt c r k a b d).dbg = s.dbg := by
  unfold State.logAt; dsimp only; split <;> simp
@[simp] theorem State.log_dbg (c a b d r : Nat) : (s.log c a b d r).dbg = s.dbg := s.logAt_dbg c r _ a b d
@[simp] theorem State.logAt_misc (c r k a b d : Nat) : (s.logAt c r k a b d).misc = s.misc := by
  unfold State.logAt; dsimp only; split <;> simp
@[simp] theorem State.log_misc (c a b d r : Nat) : (s.log c a b d r).misc = s.misc := s.logAt_misc c r _ a b d
@[simp] theorem State.logAt_out (c r k a b d : Nat) : (s.logAt c r k a b d).out = s.out := by
  unfold State.logAt; dsimp only; split <;> simp
@[simp] theorem State.log_out (c a b d r : Nat) : (s.log c a b d r).out = s.out := s.logAt_out c r _ a b d
@[simp] theorem State.logAt_free (c r k a b d : Nat) : (s.logAt c r k a b d).free = s.free := by
  unfold State.logAt; dsimp only; split <;> simp
@[simp] theorem State.log_free (c a b d r : Nat) : (s.log c a b d r).free = s.free := s.logAt_free c r _ a b d

/-! ## Needles, time, outputs and free values -/

@[simp] theorem State.setNeedle_pending (n : Nat) (nd : Needle) : (s.setNeedle n nd).pending = s.pending := rfl
@[simp] theorem State.modNeedle_pending (n : Nat) (f : Needle → Needle) : (s.modNeedle n f).pending = s.pending := rfl
@[simp] theorem State.setNeedle_deadlineOf (n : Nat) (nd : Needle) : (s.setNeedle n nd).deadlineOf = s.deadlineOf := rfl
@[simp] theorem State.modNeedle_deadlineOf (n : Nat) (f : Needle → Needle) : (s.modNeedle n f).deadlineOf = s.deadlineOf := rfl
@[simp] theorem State.setNeedle_phase (n : Nat) (nd : Needle) : (s.setNeedle n nd).phase = s.phase := rfl
@[simp] theorem State.modNeedle_phase (n : Nat) (f : Needle → Needle) : (s.modNeedle n f).phase = s.phase := rfl
@[simp] theorem State.setNeedle_e16 (n : Nat) (nd : Needle) : (s.setNeedle n nd).e16 = s.e16 := rfl
@[simp] theorem State.modNeedle_e16 (n : Nat) (f : Needle → Needle) : (s.modNeedle n f).e16 = s.e16 := rfl
@[simp] theorem State.setNeedle_clk (n : Nat) (nd : Needle) : (s.setNeedle n nd).clk = s.clk := rfl
@[simp] theorem State.modNeedle_clk (n : Nat) (f : Needle → Needle) : (s.modNeedle n f).clk = s.clk := rfl
@[simp] theorem State.setNeedle_bob (n : Nat) (nd : Needle) : (s.setNeedle n nd).bob = s.bob := rfl
@[simp] theorem State.modNeedle_bob (n : Nat) (f : Needle → Needle) : (s.modNeedle n f).bob = s.bob := rfl
@[simp] theorem State.setNeedle_pm (n : Nat) (nd : Needle) : (s.setNeedle n nd).pm = s.pm := rfl
@[simp] theorem State.modNeedle_pm (n : Nat) (f : Needle → Needle) : (s.modNeedle n f).pm = s.pm := rfl
@[simp] theorem State.setNeedle_fab (n : Nat) (nd : Needle) : (s.setNeedle n nd).fab = s.fab := rfl
@[simp] theorem State.modNeedle_fab (n : Nat) (f : Needle → Needle) : (s.modNeedle n f).fab = s.fab := rfl
@[simp] theorem State.setNeedle_baste (n : Nat) (nd : Needle) : (s.setNeedle n nd).baste = s.baste := rfl
@[simp] theorem State.modNeedle_baste (n : Nat) (f : Needle → Needle) : (s.modNeedle n f).baste = s.baste := rfl
@[simp] theorem State.setNeedle_last (n : Nat) (nd : Needle) : (s.setNeedle n nd).last = s.last := rfl
@[simp] theorem State.modNeedle_last (n : Nat) (f : Needle → Needle) : (s.modNeedle n f).last = s.last := rfl
@[simp] theorem State.setNeedle_pw (n : Nat) (nd : Needle) : (s.setNeedle n nd).pw = s.pw := rfl
@[simp] theorem State.modNeedle_pw (n : Nat) (f : Needle → Needle) : (s.modNeedle n f).pw = s.pw := rfl
@[simp] theorem State.setNeedle_arb (n : Nat) (nd : Needle) : (s.setNeedle n nd).arb = s.arb := rfl
@[simp] theorem State.modNeedle_arb (n : Nat) (f : Needle → Needle) : (s.modNeedle n f).arb = s.arb := rfl
@[simp] theorem State.setNeedle_bobBad (n : Nat) (nd : Needle) : (s.setNeedle n nd).bobBad = s.bobBad := rfl
@[simp] theorem State.modNeedle_bobBad (n : Nat) (f : Needle → Needle) : (s.modNeedle n f).bobBad = s.bobBad := rfl
@[simp] theorem State.setNeedle_bobWaits (n : Nat) (nd : Needle) : (s.setNeedle n nd).bobWaits = s.bobWaits := rfl
@[simp] theorem State.modNeedle_bobWaits (n : Nat) (f : Needle → Needle) : (s.modNeedle n f).bobWaits = s.bobWaits := rfl
@[simp] theorem State.setNeedle_shWaits (n : Nat) (nd : Needle) : (s.setNeedle n nd).shWaits = s.shWaits := rfl
@[simp] theorem State.modNeedle_shWaits (n : Nat) (f : Needle → Needle) : (s.modNeedle n f).shWaits = s.shWaits := rfl
@[simp] theorem State.setNeedle_coreWaits (n : Nat) (nd : Needle) : (s.setNeedle n nd).coreWaits = s.coreWaits := rfl
@[simp] theorem State.modNeedle_coreWaits (n : Nat) (f : Needle → Needle) : (s.modNeedle n f).coreWaits = s.coreWaits := rfl
@[simp] theorem State.setNeedle_hem (n : Nat) (nd : Needle) : (s.setNeedle n nd).hem = s.hem := rfl
@[simp] theorem State.modNeedle_hem (n : Nat) (f : Needle → Needle) : (s.modNeedle n f).hem = s.hem := rfl
@[simp] theorem State.setNeedle_sh (n : Nat) (nd : Needle) : (s.setNeedle n nd).sh = s.sh := rfl
@[simp] theorem State.modNeedle_sh (n : Nat) (f : Needle → Needle) : (s.modNeedle n f).sh = s.sh := rfl
@[simp] theorem State.setNeedle_tdm (n : Nat) (nd : Needle) : (s.setNeedle n nd).tdm = s.tdm := rfl
@[simp] theorem State.modNeedle_tdm (n : Nat) (f : Needle → Needle) : (s.modNeedle n f).tdm = s.tdm := rfl
@[simp] theorem State.setNeedle_tbs (n : Nat) (nd : Needle) : (s.setNeedle n nd).tbs = s.tbs := rfl
@[simp] theorem State.modNeedle_tbs (n : Nat) (f : Needle → Needle) : (s.modNeedle n f).tbs = s.tbs := rfl
@[simp] theorem State.setNeedle_safe (n : Nat) (nd : Needle) : (s.setNeedle n nd).safe = s.safe := rfl
@[simp] theorem State.modNeedle_safe (n : Nat) (f : Needle → Needle) : (s.modNeedle n f).safe = s.safe := rfl
@[simp] theorem State.setNeedle_dict (n : Nat) (nd : Needle) : (s.setNeedle n nd).dict = s.dict := rfl
@[simp] theorem State.modNeedle_dict (n : Nat) (f : Needle → Needle) : (s.modNeedle n f).dict = s.dict := rfl
@[simp] theorem State.setNeedle_ursin (n : Nat) (nd : Needle) : (s.setNeedle n nd).ursin = s.ursin := rfl
@[simp] theorem State.modNeedle_ursin (n : Nat) (f : Needle → Needle) : (s.modNeedle n f).ursin = s.ursin := rfl
@[simp] theorem State.setNeedle_ven (n : Nat) (nd : Needle) : (s.setNeedle n nd).ven = s.ven := rfl
@[simp] theorem State.modNeedle_ven (n : Nat) (f : Needle → Needle) : (s.modNeedle n f).ven = s.ven := rfl
@[simp] theorem State.setNeedle_ser (n : Nat) (nd : Needle) : (s.setNeedle n nd).ser = s.ser := rfl
@[simp] theorem State.modNeedle_ser (n : Nat) (f : Needle → Needle) : (s.modNeedle n f).ser = s.ser := rfl
@[simp] theorem State.setNeedle_dma (n : Nat) (nd : Needle) : (s.setNeedle n nd).dma = s.dma := rfl
@[simp] theorem State.modNeedle_dma (n : Nat) (f : Needle → Needle) : (s.modNeedle n f).dma = s.dma := rfl
@[simp] theorem State.setNeedle_dmaLast (n : Nat) (nd : Needle) : (s.setNeedle n nd).dmaLast = s.dmaLast := rfl
@[simp] theorem State.modNeedle_dmaLast (n : Nat) (f : Needle → Needle) : (s.modNeedle n f).dmaLast = s.dmaLast := rfl
@[simp] theorem State.setNeedle_flash (n : Nat) (nd : Needle) : (s.setNeedle n nd).flash = s.flash := rfl
@[simp] theorem State.modNeedle_flash (n : Nat) (f : Needle → Needle) : (s.modNeedle n f).flash = s.flash := rfl
@[simp] theorem State.setNeedle_worn (n : Nat) (nd : Needle) : (s.setNeedle n nd).worn = s.worn := rfl
@[simp] theorem State.modNeedle_worn (n : Nat) (f : Needle → Needle) : (s.modNeedle n f).worn = s.worn := rfl
@[simp] theorem State.setNeedle_keyKill (n : Nat) (nd : Needle) : (s.setNeedle n nd).keyKill = s.keyKill := rfl
@[simp] theorem State.modNeedle_keyKill (n : Nat) (f : Needle → Needle) : (s.modNeedle n f).keyKill = s.keyKill := rfl
@[simp] theorem State.setNeedle_island (n : Nat) (nd : Needle) : (s.setNeedle n nd).island = s.island := rfl
@[simp] theorem State.modNeedle_island (n : Nat) (f : Needle → Needle) : (s.modNeedle n f).island = s.island := rfl
@[simp] theorem State.setNeedle_boot (n : Nat) (nd : Needle) : (s.setNeedle n nd).boot = s.boot := rfl
@[simp] theorem State.modNeedle_boot (n : Nat) (f : Needle → Needle) : (s.modNeedle n f).boot = s.boot := rfl
@[simp] theorem State.setNeedle_dbg (n : Nat) (nd : Needle) : (s.setNeedle n nd).dbg = s.dbg := rfl
@[simp] theorem State.modNeedle_dbg (n : Nat) (f : Needle → Needle) : (s.modNeedle n f).dbg = s.dbg := rfl
@[simp] theorem State.setNeedle_misc (n : Nat) (nd : Needle) : (s.setNeedle n nd).misc = s.misc := rfl
@[simp] theorem State.modNeedle_misc (n : Nat) (f : Needle → Needle) : (s.modNeedle n f).misc = s.misc := rfl
@[simp] theorem State.setNeedle_out (n : Nat) (nd : Needle) : (s.setNeedle n nd).out = s.out := rfl
@[simp] theorem State.modNeedle_out (n : Nat) (f : Needle → Needle) : (s.modNeedle n f).out = s.out := rfl
@[simp] theorem State.setNeedle_free (n : Nat) (nd : Needle) : (s.setNeedle n nd).free = s.free := rfl
@[simp] theorem State.modNeedle_free (n : Nat) (f : Needle → Needle) : (s.modNeedle n f).free = s.free := rfl
@[simp] theorem State.setNeedle_chg (n : Nat) (nd : Needle) : (s.setNeedle n nd).chg = s.chg := rfl
@[simp] theorem State.modNeedle_chg (n : Nat) (f : Needle → Needle) : (s.modNeedle n f).chg = s.chg := rfl
@[simp] theorem State.setNeedle_chgSeq (n : Nat) (nd : Needle) : (s.setNeedle n nd).chgSeq = s.chgSeq := rfl
@[simp] theorem State.modNeedle_chgSeq (n : Nat) (f : Needle → Needle) : (s.modNeedle n f).chgSeq = s.chgSeq := rfl
@[simp] theorem State.setNeedle_evts (n : Nat) (nd : Needle) : (s.setNeedle n nd).evts = s.evts := rfl
@[simp] theorem State.modNeedle_evts (n : Nat) (f : Needle → Needle) : (s.modNeedle n f).evts = s.evts := rfl
@[simp] theorem State.setNeedle_regs (n : Nat) (nd : Needle) : (s.setNeedle n nd).regs = s.regs := rfl
@[simp] theorem State.modNeedle_regs (n : Nat) (f : Needle → Needle) : (s.modNeedle n f).regs = s.regs := rfl
@[simp] theorem State.setNeedle_blobs (n : Nat) (nd : Needle) : (s.setNeedle n nd).blobs = s.blobs := rfl
@[simp] theorem State.modNeedle_blobs (n : Nat) (f : Needle → Needle) : (s.modNeedle n f).blobs = s.blobs := rfl
@[simp] theorem State.emit_pending (o : Out) : (s.emit o).pending = s.pending := rfl
@[simp] theorem State.emit_deadlineOf (o : Out) : (s.emit o).deadlineOf = s.deadlineOf := rfl
@[simp] theorem State.emit_phase (o : Out) : (s.emit o).phase = s.phase := rfl
@[simp] theorem State.emit_e16 (o : Out) : (s.emit o).e16 = s.e16 := rfl
@[simp] theorem State.emit_clk (o : Out) : (s.emit o).clk = s.clk := rfl
@[simp] theorem State.emit_ndl (o : Out) : (s.emit o).ndl = s.ndl := rfl
@[simp] theorem State.emit_bob (o : Out) : (s.emit o).bob = s.bob := rfl
@[simp] theorem State.emit_pm (o : Out) : (s.emit o).pm = s.pm := rfl
@[simp] theorem State.emit_fab (o : Out) : (s.emit o).fab = s.fab := rfl
@[simp] theorem State.emit_baste (o : Out) : (s.emit o).baste = s.baste := rfl
@[simp] theorem State.emit_last (o : Out) : (s.emit o).last = s.last := rfl
@[simp] theorem State.emit_pw (o : Out) : (s.emit o).pw = s.pw := rfl
@[simp] theorem State.emit_arb (o : Out) : (s.emit o).arb = s.arb := rfl
@[simp] theorem State.emit_bobBad (o : Out) : (s.emit o).bobBad = s.bobBad := rfl
@[simp] theorem State.emit_bobWaits (o : Out) : (s.emit o).bobWaits = s.bobWaits := rfl
@[simp] theorem State.emit_shWaits (o : Out) : (s.emit o).shWaits = s.shWaits := rfl
@[simp] theorem State.emit_coreWaits (o : Out) : (s.emit o).coreWaits = s.coreWaits := rfl
@[simp] theorem State.emit_hem (o : Out) : (s.emit o).hem = s.hem := rfl
@[simp] theorem State.emit_sh (o : Out) : (s.emit o).sh = s.sh := rfl
@[simp] theorem State.emit_tdm (o : Out) : (s.emit o).tdm = s.tdm := rfl
@[simp] theorem State.emit_tbs (o : Out) : (s.emit o).tbs = s.tbs := rfl
@[simp] theorem State.emit_safe (o : Out) : (s.emit o).safe = s.safe := rfl
@[simp] theorem State.emit_dict (o : Out) : (s.emit o).dict = s.dict := rfl
@[simp] theorem State.emit_ursin (o : Out) : (s.emit o).ursin = s.ursin := rfl
@[simp] theorem State.emit_ven (o : Out) : (s.emit o).ven = s.ven := rfl
@[simp] theorem State.emit_ser (o : Out) : (s.emit o).ser = s.ser := rfl
@[simp] theorem State.emit_dma (o : Out) : (s.emit o).dma = s.dma := rfl
@[simp] theorem State.emit_dmaLast (o : Out) : (s.emit o).dmaLast = s.dmaLast := rfl
@[simp] theorem State.emit_flash (o : Out) : (s.emit o).flash = s.flash := rfl
@[simp] theorem State.emit_worn (o : Out) : (s.emit o).worn = s.worn := rfl
@[simp] theorem State.emit_keyKill (o : Out) : (s.emit o).keyKill = s.keyKill := rfl
@[simp] theorem State.emit_island (o : Out) : (s.emit o).island = s.island := rfl
@[simp] theorem State.emit_boot (o : Out) : (s.emit o).boot = s.boot := rfl
@[simp] theorem State.emit_dbg (o : Out) : (s.emit o).dbg = s.dbg := rfl
@[simp] theorem State.emit_misc (o : Out) : (s.emit o).misc = s.misc := rfl
@[simp] theorem State.emit_free (o : Out) : (s.emit o).free = s.free := rfl
@[simp] theorem State.emit_chg (o : Out) : (s.emit o).chg = s.chg := rfl
@[simp] theorem State.emit_chgSeq (o : Out) : (s.emit o).chgSeq = s.chgSeq := rfl
@[simp] theorem State.emit_evts (o : Out) : (s.emit o).evts = s.evts := rfl
@[simp] theorem State.emit_regs (o : Out) : (s.emit o).regs = s.regs := rfl
@[simp] theorem State.emit_blobs (o : Out) : (s.emit o).blobs = s.blobs := rfl
@[simp] theorem tick_pending (dt : Nat) : (tick dt s).pending = s.pending := rfl
@[simp] theorem tick_deadlineOf (dt : Nat) : (tick dt s).deadlineOf = s.deadlineOf := rfl
@[simp] theorem tick_phase (dt : Nat) : (tick dt s).phase = s.phase := rfl
@[simp] theorem tick_e16 (dt : Nat) : (tick dt s).e16 = s.e16 := rfl
@[simp] theorem tick_ndl (dt : Nat) : (tick dt s).ndl = s.ndl := rfl
@[simp] theorem tick_bob (dt : Nat) : (tick dt s).bob = s.bob := rfl
@[simp] theorem tick_pm (dt : Nat) : (tick dt s).pm = s.pm := rfl
@[simp] theorem tick_fab (dt : Nat) : (tick dt s).fab = s.fab := rfl
@[simp] theorem tick_baste (dt : Nat) : (tick dt s).baste = s.baste := rfl
@[simp] theorem tick_last (dt : Nat) : (tick dt s).last = s.last := rfl
@[simp] theorem tick_pw (dt : Nat) : (tick dt s).pw = s.pw := rfl
@[simp] theorem tick_arb (dt : Nat) : (tick dt s).arb = s.arb := rfl
@[simp] theorem tick_bobBad (dt : Nat) : (tick dt s).bobBad = s.bobBad := rfl
@[simp] theorem tick_bobWaits (dt : Nat) : (tick dt s).bobWaits = s.bobWaits := rfl
@[simp] theorem tick_shWaits (dt : Nat) : (tick dt s).shWaits = s.shWaits := rfl
@[simp] theorem tick_coreWaits (dt : Nat) : (tick dt s).coreWaits = s.coreWaits := rfl
@[simp] theorem tick_hem (dt : Nat) : (tick dt s).hem = s.hem := rfl
@[simp] theorem tick_sh (dt : Nat) : (tick dt s).sh = s.sh := rfl
@[simp] theorem tick_tdm (dt : Nat) : (tick dt s).tdm = s.tdm := rfl
@[simp] theorem tick_tbs (dt : Nat) : (tick dt s).tbs = s.tbs := rfl
@[simp] theorem tick_safe (dt : Nat) : (tick dt s).safe = s.safe := rfl
@[simp] theorem tick_dict (dt : Nat) : (tick dt s).dict = s.dict := rfl
@[simp] theorem tick_ursin (dt : Nat) : (tick dt s).ursin = s.ursin := rfl
@[simp] theorem tick_ven (dt : Nat) : (tick dt s).ven = s.ven := rfl
@[simp] theorem tick_ser (dt : Nat) : (tick dt s).ser = s.ser := rfl
@[simp] theorem tick_dma (dt : Nat) : (tick dt s).dma = s.dma := rfl
@[simp] theorem tick_dmaLast (dt : Nat) : (tick dt s).dmaLast = s.dmaLast := rfl
@[simp] theorem tick_flash (dt : Nat) : (tick dt s).flash = s.flash := rfl
@[simp] theorem tick_worn (dt : Nat) : (tick dt s).worn = s.worn := rfl
@[simp] theorem tick_keyKill (dt : Nat) : (tick dt s).keyKill = s.keyKill := rfl
@[simp] theorem tick_island (dt : Nat) : (tick dt s).island = s.island := rfl
@[simp] theorem tick_boot (dt : Nat) : (tick dt s).boot = s.boot := rfl
@[simp] theorem tick_dbg (dt : Nat) : (tick dt s).dbg = s.dbg := rfl
@[simp] theorem tick_misc (dt : Nat) : (tick dt s).misc = s.misc := rfl
@[simp] theorem tick_out (dt : Nat) : (tick dt s).out = s.out := rfl
@[simp] theorem tick_free (dt : Nat) : (tick dt s).free = s.free := rfl
@[simp] theorem tick_chg (dt : Nat) : (tick dt s).chg = s.chg := rfl
@[simp] theorem tick_chgSeq (dt : Nat) : (tick dt s).chgSeq = s.chgSeq := rfl
@[simp] theorem tick_evts (dt : Nat) : (tick dt s).evts = s.evts := rfl
@[simp] theorem tick_regs (dt : Nat) : (tick dt s).regs = s.regs := rfl
@[simp] theorem tick_blobs (dt : Nat) : (tick dt s).blobs = s.blobs := rfl
@[simp] theorem State.fresh_pending : s.fresh.2.pending = s.pending := rfl
@[simp] theorem State.fresh_deadlineOf : s.fresh.2.deadlineOf = s.deadlineOf := rfl
@[simp] theorem State.fresh_phase : s.fresh.2.phase = s.phase := rfl
@[simp] theorem State.fresh_e16 : s.fresh.2.e16 = s.e16 := rfl
@[simp] theorem State.fresh_clk : s.fresh.2.clk = s.clk := rfl
@[simp] theorem State.fresh_ndl : s.fresh.2.ndl = s.ndl := rfl
@[simp] theorem State.fresh_bob : s.fresh.2.bob = s.bob := rfl
@[simp] theorem State.fresh_pm : s.fresh.2.pm = s.pm := rfl
@[simp] theorem State.fresh_fab : s.fresh.2.fab = s.fab := rfl
@[simp] theorem State.fresh_baste : s.fresh.2.baste = s.baste := rfl
@[simp] theorem State.fresh_last : s.fresh.2.last = s.last := rfl
@[simp] theorem State.fresh_pw : s.fresh.2.pw = s.pw := rfl
@[simp] theorem State.fresh_arb : s.fresh.2.arb = s.arb := rfl
@[simp] theorem State.fresh_bobBad : s.fresh.2.bobBad = s.bobBad := rfl
@[simp] theorem State.fresh_bobWaits : s.fresh.2.bobWaits = s.bobWaits := rfl
@[simp] theorem State.fresh_shWaits : s.fresh.2.shWaits = s.shWaits := rfl
@[simp] theorem State.fresh_coreWaits : s.fresh.2.coreWaits = s.coreWaits := rfl
@[simp] theorem State.fresh_hem : s.fresh.2.hem = s.hem := rfl
@[simp] theorem State.fresh_sh : s.fresh.2.sh = s.sh := rfl
@[simp] theorem State.fresh_tdm : s.fresh.2.tdm = s.tdm := rfl
@[simp] theorem State.fresh_tbs : s.fresh.2.tbs = s.tbs := rfl
@[simp] theorem State.fresh_safe : s.fresh.2.safe = s.safe := rfl
@[simp] theorem State.fresh_dict : s.fresh.2.dict = s.dict := rfl
@[simp] theorem State.fresh_ursin : s.fresh.2.ursin = s.ursin := rfl
@[simp] theorem State.fresh_ven : s.fresh.2.ven = s.ven := rfl
@[simp] theorem State.fresh_ser : s.fresh.2.ser = s.ser := rfl
@[simp] theorem State.fresh_dma : s.fresh.2.dma = s.dma := rfl
@[simp] theorem State.fresh_dmaLast : s.fresh.2.dmaLast = s.dmaLast := rfl
@[simp] theorem State.fresh_flash : s.fresh.2.flash = s.flash := rfl
@[simp] theorem State.fresh_worn : s.fresh.2.worn = s.worn := rfl
@[simp] theorem State.fresh_keyKill : s.fresh.2.keyKill = s.keyKill := rfl
@[simp] theorem State.fresh_island : s.fresh.2.island = s.island := rfl
@[simp] theorem State.fresh_boot : s.fresh.2.boot = s.boot := rfl
@[simp] theorem State.fresh_dbg : s.fresh.2.dbg = s.dbg := rfl
@[simp] theorem State.fresh_misc : s.fresh.2.misc = s.misc := rfl
@[simp] theorem State.fresh_out : s.fresh.2.out = s.out := rfl
@[simp] theorem State.fresh_chg : s.fresh.2.chg = s.chg := rfl
@[simp] theorem State.fresh_chgSeq : s.fresh.2.chgSeq = s.chgSeq := rfl
@[simp] theorem State.fresh_evts : s.fresh.2.evts = s.evts := rfl
@[simp] theorem State.fresh_regs : s.fresh.2.regs = s.regs := rfl
@[simp] theorem State.fresh_blobs : s.fresh.2.blobs = s.blobs := rfl
@[simp] theorem State.emit_out (o : Out) : (s.emit o).out = o :: s.out := rfl
@[simp] theorem State.fresh_free : s.fresh.2.free = s.free + 1 := rfl

/-! ## Reading an object after a write -/

theorem State.obj_def (n i : Nat) : s.obj n i = look (objRest s.e16) s.regs (objKey n i) := rfl

@[simp] theorem State.obj_touch (n m i : Nat) : (s.touch n).obj m i = s.obj m i := rfl

/-- An object's element reads as last written; every other element is left alone. -/
theorem State.obj_setObj (n i : Nat) (v : Int) (m j : Nat) :
    (s.setObj n i v).obj m j = if objKey m j = objKey n i then v else s.obj m j := by
  unfold State.setObj
  split
  · rename_i h
    split
    · rename_i hk
      rw [← h, State.obj_def, State.obj_def, hk]
    · rfl
  · show look (objRest s.e16) (put (objRest s.e16) s.regs (objKey n i) v) (objKey m j) = _
    rw [look_put]; rfl

@[simp] theorem State.obj_setObj_self (n i : Nat) (v : Int) : (s.setObj n i v).obj n i = v := by simp [State.obj_setObj]

theorem State.obj_setObj_ne (n i : Nat) (v : Int) (m j : Nat) (h : objKey m j ≠ objKey n i) :
    (s.setObj n i v).obj m j = s.obj m j := by simp [State.obj_setObj, h]

@[simp] theorem State.nat_setNat_self (n i v : Nat) : (s.setNat n i v).nat n i = v := by
  simp [State.setNat, State.nat]

theorem State.nat_setNat (n i v m j : Nat) :
    (s.setNat n i v).nat m j = if objKey m j = objKey n i then v else s.nat m j := by
  unfold State.nat State.setNat
  rw [State.obj_setObj]
  split <;> simp

theorem State.nat_setNat_ne (n i v m j : Nat) (h : objKey m j ≠ objKey n i) : (s.setNat n i v).nat m j = s.nat m j := by
  simp [State.nat_setNat, h]

@[simp] theorem State.blob_setBlob_self (n : Nat) (l : List Byte) : (s.setBlob n l).blob n = l := by
  unfold State.setBlob
  split
  · assumption
  · show look Obj.blobDflt (put Obj.blobDflt s.blobs n l) n = l
    exact look_put_self _ _ _ _

theorem State.blob_setBlob_ne (n : Nat) (l : List Byte) (m : Nat) (h : m ≠ n) : (s.setBlob n l).blob m = s.blob m := by
  unfold State.setBlob
  split
  · rfl
  · show look Obj.blobDflt (put Obj.blobDflt s.blobs n l) m = _
    exact look_put_ne _ _ _ h

/-- What leaves the register file and the machine's variant alone leaves every object alone. -/
theorem State.obj_congr (s t : State) (hr : t.regs = s.regs) (he : t.e16 = s.e16) (n i : Nat) : t.obj n i = s.obj n i := by
  rw [State.obj_def, State.obj_def, hr, he]

@[simp] theorem State.obj_setNeedle (n : Nat) (nd : Needle) (m i : Nat) : (s.setNeedle n nd).obj m i = s.obj m i := rfl
@[simp] theorem State.obj_modNeedle (n : Nat) (f : Needle → Needle) (m i : Nat) : (s.modNeedle n f).obj m i = s.obj m i := rfl
@[simp] theorem State.obj_emit (o : Out) (m i : Nat) : (s.emit o).obj m i = s.obj m i := rfl
@[simp] theorem State.obj_tick (dt m i : Nat) : (tick dt s).obj m i = s.obj m i := rfl
@[simp] theorem State.obj_setBlob (n : Nat) (l : List Byte) (m i : Nat) : (s.setBlob n l).obj m i = s.obj m i :=
  State.obj_congr _ _ (by simp) (by simp) m i
@[simp] theorem State.nat_setNeedle (n : Nat) (nd : Needle) (m i : Nat) : (s.setNeedle n nd).nat m i = s.nat m i := rfl
@[simp] theorem State.nat_modNeedle (n : Nat) (f : Needle → Needle) (m i : Nat) : (s.modNeedle n f).nat m i = s.nat m i := rfl
@[simp] theorem State.nat_emit (o : Out) (m i : Nat) : (s.emit o).nat m i = s.nat m i := rfl
@[simp] theorem State.nat_tick (dt m i : Nat) : (tick dt s).nat m i = s.nat m i := rfl
@[simp] theorem State.nat_setBlob (n : Nat) (l : List Byte) (m i : Nat) : (s.setBlob n l).nat m i = s.nat m i := by
  simp [State.nat]

/-! ## Needles -/

@[simp] theorem State.needle_setNeedle_self (n : Nat) (nd : Needle) : (s.setNeedle n nd).needle n = nd :=
  look_put_self _ _ _ _

theorem State.needle_setNeedle_ne (n : Nat) (nd : Needle) (m : Nat) (h : m ≠ n) : (s.setNeedle n nd).needle m = s.needle m :=
  look_put_ne _ _ _ h

@[simp] theorem State.needle_modNeedle_self (n : Nat) (f : Needle → Needle) : (s.modNeedle n f).needle n = f (s.needle n) :=
  State.needle_setNeedle_self _ _ _

theorem State.needle_modNeedle_ne (n : Nat) (f : Needle → Needle) (m : Nat) (h : m ≠ n) :
    (s.modNeedle n f).needle m = s.needle m := State.needle_setNeedle_ne _ _ _ _ h

/-- What leaves the needles' store alone leaves every needle alone. -/
theorem State.needle_congr (s t : State) (h : t.ndl = s.ndl) (n : Nat) : t.needle n = s.needle n := by
  unfold State.needle; rw [h]

end Sys2Proof.Machine
end

