-- ==== Sys2Proof/Laws/Ops.lean ====
section
/-!
SUPPORT. What the shared operations can do, said once: a meaning of a running part, a bit or field read back after its write, a
counter after a count, a control frame that reaches its protocol, a reply on a network port, and the end of a DMX frame.
-/

namespace Sys2Proof.Machine

/-! ## Meanings -/

theorem whenRunning_running (dt : Nat) (s : State) (f : State → State) (h : s.phase = .running) :
    whenRunning dt s f = .next (f (tick dt s)) := by
  simp [whenRunning, h]

theorem whenRunning_held (dt : Nat) (s : State) (f : State → State) (h : s.phase ≠ .running) :
    whenRunning dt s f = .next (tick dt s) := by
  simp [whenRunning, h]

/-! ## Bits, fields and counters -/

theorem bits_withBits (v hi lo f : Nat) : bits (withBits v hi lo f) hi lo = f % 2 ^ (hi - lo + 1) := by
  unfold withBits bits
  generalize hi - lo + 1 = w
  have hp : 0 < 2 ^ lo := Nat.two_pow_pos _
  have hq : 0 < 2 ^ w := Nat.two_pow_pos _
  generalize 2 ^ lo = p at *
  generalize 2 ^ w = q at *
  have h1 : v / p % q * p ≤ v := Nat.le_trans (Nat.mul_le_mul_right p (Nat.mod_le _ _)) (Nat.div_mul_le_self v p)
  rw [Nat.add_mul_div_right _ _ hp]
  have h2 : (v - v / p % q * p) / p = v / p - v / p % q := by
    rw [Nat.mul_comm (v / p % q) p] at h1 ⊢
    exact Nat.sub_mul_div_of_le v p (v / p % q) h1
  rw [h2, Nat.add_mod, show (v / p - v / p % q) % q = 0 from by
    have := Nat.div_add_mod (v / p) q
    rw [show v / p - v / p % q = q * (v / p / q) by omega, Nat.mul_mod_right]]
  simp

theorem State.field_setField (s : State) (n i hi lo f : Nat) :
    (s.setField n i hi lo f).field n i hi lo = f % 2 ^ (hi - lo + 1) := by
  simp [State.field, State.setField, bits_withBits]

/-- A counter below its limit takes the count, and no other element changes (R370). -/
theorem State.nat_bump (s : State) (n i k m j : Nat) (h : s.nat n i + k ≤ 0xFFFFFFFF) :
    (s.bump n i k).nat m j = if objKey m j = objKey n i then s.nat n i + k else s.nat m j := by
  simp only [State.bump, h, if_true, State.nat_setNat]

/-! ## What comes and goes on the network ports -/

/-- A control frame either does not come about or is handled, on a Shuttle by the state its queue leaves (R192, R291). -/
theorem State.arrives_cases (s : State) (port : Nat) (k : CtrlKind) (f : State → State) :
    (s.arrives port k f = s ∨ 2 ≤ port ∧ s.arrives port k f = f s) ∨
      port < 2 ∧ s.arrives port k f = s.takeCtrl port k (fun _ => f) := by
  unfold State.arrives
  split
  · exact .inr ⟨‹_›, rfl⟩
  · split
    · exact .inl (.inr ⟨by omega, rfl⟩)
    · exact .inl (.inl rfl)

/-- A frame goes out once, or, on a segment, where it meets the full queue, is dropped and counted (R292). -/
theorem State.queueNet_cases (s : State) (port : Nat) (cls : Option Nat) (m : NetMsg) :
    s.queueNet port cls m = s.emitNet port cls m ∨
      2 ≤ port ∧ (s.queueNet port cls m = s.fresh.2.emitNet port cls m ∨
        s.queueNet port cls m = s.fresh.2.bump Obj.t1sTxDropHem (port - 2)) := by
  unfold State.queueNet
  by_cases h : port < 2
  · simp [h]
  · refine .inr ⟨by omega, ?_⟩
    simp only [h, if_false]
    split
    · exact .inr rfl
    · exact .inl rfl

/-- A reply goes the way of a frame, or, where it would leave its segment, goes nowhere (R291). -/
theorem State.replyNet_cases (s : State) (port : Nat) (cls : Option Nat) (ip : Nat) (m : NetMsg) :
    s.offSegment port ip = true ∧ s.replyNet port cls ip m = s ∨
      s.offSegment port ip = false ∧ s.replyNet port cls ip m = s.queueNet port cls m := by
  unfold State.replyNet
  cases h : s.offSegment port ip <;> simp

@[simp] theorem State.emitNet_regs (s : State) (port : Nat) (cls : Option Nat) (m : NetMsg) :
    (s.emitNet port cls m).regs = s.regs := rfl
@[simp] theorem State.emitNet_sh (s : State) (port : Nat) (cls : Option Nat) (m : NetMsg) : (s.emitNet port cls m).sh = s.sh := rfl
@[simp] theorem State.emitNet_out (s : State) (port : Nat) (cls : Option Nat) (m : NetMsg) :
    (s.emitNet port cls m).out = .frame port (s.netTag port cls m) m :: s.out := rfl

/-- A message of the serial port is taken from the head of the receive buffer, or is not due (R301). -/
theorem State.takeUrsin_serial (s : State) (m : UMsg) (op : Nat) (f : State → State) (h : m.via = 4) :
    s.takeUrsin m op f = s ∨
      s.ser.frames.head? = some (rawOf m op) ∧
        (s.takeUrsin m op f = s.modSer (fun p => { p with frames := p.frames.drop 1 }) ∨
          s.takeUrsin m op f = f (s.modSer (fun p => { p with frames := p.frames.drop 1 }))) := by
  unfold State.takeUrsin
  simp only [h, if_true]
  split
  · refine .inr ⟨‹_›, ?_⟩
    split
    · exact .inr rfl
    · exact .inl rfl
  · exact .inl rfl

/-- A DMX port either goes on as it is, or its frame has ended: it is idle, and the frame counts (R286). -/
theorem State.settleDmx_cases (s : State) (p : Nat) :
    s.settleDmx p = s ∨
      (∃ t, (s.dmxPort p).sending = some t ∧ t ≤ s.now) ∧
        s.settleDmx p = ((s.modDmx p (fun d => { d with sending := none })).bump Obj.dmxFrameHem p).showDmx p := by
  unfold State.settleDmx
  split
  · rename_i h
    refine .inr ⟨?_, rfl⟩
    cases hs : (s.dmxPort p).sending with
    | none => simp [hs] at h
    | some t => exact ⟨t, rfl, by simpa [hs] using h⟩
  · exact .inl rfl

end Sys2Proof.Machine
end

