-- ==== Sys2Proof/Tests/Slice0.lean ====
section
/-!
SUPPORT. The author's own tests: ill-formed needle instructions that the checks of R71 refuse, words written out from the
encodings of R52 and R60, a few results taken from the spec's own examples, and for every statement with hypotheses a
witness of them, at a boundary where they have one.
-/

namespace Sys2Proof.Tests

set_option Elab.async false

open Sys2Proof Sys2Proof.Machine Sys2Proof.Claim

/-! ## Small terms -/

/-- No access. -/
def acc0 : Access := ⟨.none, 0, 0⟩
/-- Post-increment by pointer 0. -/
def accI : Access := ⟨.inc, 0, 0⟩
/-- The common fields with these accesses, unpredicated. -/
def gate (x y : Access) : Gate := ⟨false, 7, false, x, y, .good⟩
/-- Unpredicated with no access. -/
def g0 : Gate := gate acc0 acc0
/-- With both accesses. -/
def gxy : Gate := gate accI accI
/-- The state after reset. -/
def s0 : State := State.reset
/-- A writer with every right. -/
def wr : Writer := ⟨.session 1, some 4, 0⟩
/-- Give an element of an object a value. -/
def State.at_ (s : State) (num i : Nat) (v : Int) : State := s.setObj num i v
/-- FULL service. -/
def full : State := State.at_ s0 Obj.serviceLevel 0 0

/-! ## Ill-formed instructions are refused (R71) -/

theorem test_ill_pk7_pn : (Instr.nop 0 { g0 with pn := true }).wf = false := by decide
theorem test_ill_access_fields : (Instr.nop 0 (gate ⟨.none, 1, 0⟩ acc0)).wf = false := by decide
theorem test_ill_gsl_period : (Instr.gsl 0 g0 0 1025).wf = false := by decide
theorem test_ill_setl_zero : (Instr.setl 0 g0 0 0).wf = false := by decide
theorem test_ill_acmp_unsigned : (Instr.acmp 0 g0 0 0 0 .ltu).wf = false := by decide
theorem test_ill_quad_not_fetched : (Instr.mac4Dot 0 g0 0 .acc .fetched (.reg 0)).wf = false := by decide
theorem test_ill_scalar_not_fetched : (Instr.mac4Fan 0 g0 .acc (.lane 0) (.reg 0)).wf = false := by decide
theorem test_ill_pair_not_fetched : (Instr.cmac 0 g0 .acc .lo (.reg 0)).wf = false := by decide
theorem test_ill_bfly_same_pairs : (Instr.bfly 0 gxy 1 1 (.reg 0) (.reg 1) .lo).wf = false := by decide
theorem test_ill_bfly_two_fetched : (Instr.bfly 0 gxy 0 1 .lo .lo .lo).wf = false := by decide
theorem test_ill_store_without_access : (Instr.stx 0 g0 0).wf = false ∧ (Instr.staY 0 g0 0).wf = false := by decide
theorem test_ill_tlu_with_y : (Instr.tlu 0 (gate acc0 accI) 0 0 0).wf = false := by decide
theorem test_ill_seta_predicated : (Instr.seta 0 { g0 with pk := 0 } 0 5).wf = false := by decide
theorem test_ill_setb_of_stepped_pointer : (Instr.setb 0 (gate accI acc0) 0 5).wf = false := by decide
theorem test_ill_inq_offset : (Instr.inq 0 g0 0 2).wf = false := by decide
theorem test_ill_sinf_other_pleat : (Instr.sinf 0 g0 0 8 0 ⟨false, false⟩).wf = false := by decide
theorem test_ill_sinf_self : (Instr.sinf 3 g0 0 3 0 ⟨false, false⟩).wf = false := by decide
theorem test_ill_is_refused : exec (Instr.stx 0 g0 0) s0 = .refused (.illegalEncoding 5) := by rfl

/-! ## Words (R52, R60): opcode, S, PK, PN, X mode, pointer and modifier, the same of Y, operands -/

theorem test_word_nop : readSlot 0 0b00000000_0_111_0_000_00_000_000_00_000_00000000000000000000000000000000000 =
    some (.nop 0 g0) := by decide +kernel
theorem test_word_add : readSlot 0 0b00010000_1_111_0_000_00_000_000_00_000_0101_0110_0111_00000000000000000000000 =
    some (.add 0 { g0 with sat := true } 5 6 7) := by decide +kernel
theorem test_word_asl : readSlot 0 0b00100000_0_111_0_000_00_000_000_00_000_0001_0010_0011_00000000000000000_1_00000 =
    some (.asl 0 g0 1 2 3 true 0) := by decide +kernel
theorem test_word_cmp : readSlot 0 0b00110000_0_111_0_000_00_000_000_00_000_011_0_0101_0110_000_0010_0000000000000000 =
    some (.cmp 0 g0 3 5 6 .lt) := by decide +kernel
theorem test_word_mac4Dot : readSlot 0 0b01000000_0_111_0_001_01_010_010_11_011_10_01_000_101_0000000000000000000000000 =
    some (.mac4Dot 0 (gate ⟨.inc, 1, 2⟩ ⟨.incM, 3, 3⟩) 2 .sub .fetched (.reg 1)) := by decide +kernel
theorem test_word_aadd : readSlot 0 0b01010010_0_111_0_000_00_000_000_00_000_01_10_11_00000000000000000000000000000 =
    some (.aadd 0 g0 1 2 3) := by decide +kernel
theorem test_word_wb : readSlot 0 0b01100000_0_111_0_000_00_000_000_00_000_1001_10_00000000000000000000000000000 =
    some (.wb 0 g0 9 2) := by decide +kernel
theorem test_word_log2 : readSlot 0 0b01110000_0_111_0_000_00_000_000_00_000_0111_1000_000000000000000000000000000 =
    some (.log2 0 g0 7 8) := by decide +kernel
theorem test_word_ldy : readSlot 0 0b10000001_0_111_0_000_00_000_001_00_000_1111_00000000000000000000000000000_11 =
    some (.ldy 0 (gate acc0 accI) 15 3) := by decide +kernel
theorem test_word_setl : readSlot 0 0b10010100_0_111_0_000_00_000_000_00_000_101_00000000000000000_100000000000000 =
    some (.setl 0 g0 5 16384) := by decide +kernel
theorem test_word_in : readSlot 0 0b10100000_0_111_0_000_00_000_000_00_000_0001_00000000000000000000000_11111111 =
    some (.inW 0 g0 1 255) := by decide +kernel
theorem test_word_sin : readSlot 0 0b10100101_0_010_1_000_00_000_000_00_000_0010_1111111_000000000000000000_111111 =
    some (.sin 0 ⟨false, 2, true, acc0, acc0, .good⟩ 2 127 63 ⟨false, false⟩) := by decide +kernel
theorem test_word_bldW : readSlot 0 0b10110000_0_111_0_000_00_000_000_00_000_0011_0100_000000000000000_100000000001 =
    some (.bldW 0 g0 3 4 0x801 ⟨0, 0, []⟩) := by decide +kernel
theorem test_word_reserved_opcode : readSlot 0 0b00001000_0_111_0_000_00_000_000_00_000_00000000000000000000000000000000000 =
    none := by decide +kernel
theorem test_word_reserved_quad : readSlot 0 0b01000000_0_111_0_000_00_000_000_00_000_00_00_011_100_0000000000000000000000000 =
    none := by decide +kernel

/-! ## The spec's own results -/

/-- R31: −1 × −1 clamps to the largest Q1.63 value. -/
theorem test_product_clamps : product 0x80000000 0x80000000 = (2 ^ 63 - 1, .product) := by decide
/-- R32: a sum past 80 bits clamps with S = 1 and wraps with S = 0. -/
theorem test_acc_clamp_and_wrap : (accResult (2 ^ 79) true).1.toInt = 2 ^ 79 - 1 ∧ (accResult (2 ^ 79) false).1.toInt = -2 ^ 79 := by
  decide
/-- R33: NARROW rounds half up to 24 bits. -/
theorem test_writeback_narrow : (writeback (2 ^ 39) true false).1 = 0x100 ∧ (writeback (2 ^ 39 - 1) true false).1 = 0 := by decide
/-- R48: with n ≥ d a step of division takes its "+1" branch and leaves the remainder. -/
theorem test_divs_corner : (divStep 0 (BitVec.ofInt 80 (2 ^ 32)) 1).1 = 1 := by decide
/-- R371: SHA-384 of no bytes begins 38 B0 60 A7 (FIPS 180-4). -/
theorem test_sha384_empty : (sha384 []).take 4 = [0x38, 0xB0, 0x60, 0xA7] := by decide +kernel
/-- The signature over "sample" with SHA-384 of RFC 6979, appendix A.2.6. -/
theorem test_ecdsa_sample :
    let x := 0x6B9D3DAD2E1B8C1C05B19875B6659F4DE23C3B667BF297BA9AA47740787137D896D5724E4C70A825F872C9EA60D2EDF5
    let sig := beLen 48 0x94EDBB92A5ECB8AAD4736E56C691916B3F88140666CE9FA73D64C4EA95AD133C81A648152E44ACF96E36DD1E80FABE46 ++
      beLen 48 0x99EF4AEB15F178CEA1FE40DB2603138F130E740A19624526203B6351D0A3A94FA329C145786E679E7B82C71A38628AC8
    ecdsaOk (p384Public x) (sha384 [0x73, 0x61, 0x6D, 0x70, 0x6C, 0x65]) sig = true ∧
      ecdsaOk (p384Public x) (sha384 [0x73, 0x61, 0x6D, 0x70, 0x6C]) sig = false := by decide +kernel
/-- R315: CRC-32 of "123456789" is 0xCBF43926 (IEEE 802.3). -/
theorem test_crc32_check : crc32 [0x31, 0x32, 0x33, 0x34, 0x35, 0x36, 0x37, 0x38, 0x39] = 0xCBF43926 := by decide +kernel

/-! ## States for the witnesses -/

/-- A piece descriptor of 16 slots. -/
def pd : PieceDesc := ⟨0, 0, 16, 0, 0, 0, 0, 0, 0, 0, 0, 0, 0, 0, 0, false, false, false, 0, 0, 0, 0, 0, 0, 0, 0, 0⟩
/-- A pattern of one piece. -/
def pat : Pattern := ⟨1, 7, [], 0, 0, [pd], [[]], [[]], [], [], [], []⟩
/-- A copy of piece 0 on needle 8. -/
def cp : Copy := ⟨0, false, 8, 0, 16, 0, 0, 0, [], 0, 0, 0, [], true⟩
/-- FULL service with the pattern placed, its piece in the given state, and every pleat powered. -/
def placed (st : Nat) : State :=
  let s := State.at_ (State.at_ full Obj.pleatPower 0 0xFFFF) Obj.bootState 0 3
  { s with last := { s.last with pat := some pat, copies := [cp], pieces := [(0, ⟨st, 0, true, none, false, none⟩)] } }

/-- With dt = 0 the cycles passed leave the state as it is: a witness at s is one at tick 0 s. -/
theorem tick_zero (s : State) : tick 0 s = s := by cases s; simp [tick]

/-- Every pleat powered. -/
def lit : State := State.at_ s0 Obj.pleatPower 0 0xFFFF
/-- Change the clock: ps since reset. -/
def at_ (s : State) (t : Nat) : State := { s with clk := { s.clk with up := t } }
/-- Change the fabric. -/
def fabW (f : Fabric → Fabric) : State := { s0 with fab := f s0.fab }
/-- Change needle n of s. -/
def ndW (s : State) (n : Nat) (f : Needle → Needle) : State := s.modNeedle n f

/-- Needle n's run of stitch k comes to the instruction i, the last slot of its program. -/
def on (s : State) (n k : Nat) (i : Instr) : State :=
  ndW s n (fun d => { d with run := some ⟨k, 1, 2⟩, prog := [(1, (encodeSlot i).getD 0)], progLen := 2 })

/-! ## Witnesses: the machine -/

theorem witness_StepRunsFrontCommand :
    ({ s0 with pending := [.nop 0 g0, .ppsEdge 0] } : State).pending = .nop 0 g0 :: [.ppsEdge 0] := rfl
theorem witness_QueueAndIdle : s0.pending = [] ∧ ∃ t, step s0 = .next t := ⟨rfl, _, rfl⟩
theorem witness_EveryCommandAnswers : (Instr.sinf 0 g0 0 7 63 ⟨true, true⟩).wf = true ∧ (Instr.wake 0 15).wf = true := by decide
theorem witness_HeldPartDoesNothing :
    ({ s0 with phase := .standby } : State).phase ≠ .running ∧ (Instr.ppsEdge 0).wf = true ∧ wakesPart (.ppsEdge 0) = false := by
  decide
theorem witness_IllegalEncodingsAreRefused : (Instr.setl 0 g0 7 0x4001).wf = false := by decide
theorem witness_SlotWordsRoundTrip :
    (Instr.bldW 127 gxy 15 15 0xFFF ⟨0, 0, []⟩).needle? = some 127 ∧
      clean (.bldW 127 gxy 15 15 0xFFF ⟨0, 0, []⟩) = true := by decide
theorem witness_StepKeepsMemoryCanonical : s0.memWf = true ∧ ∃ t, step s0 = .next t := ⟨by decide +kernel, _, rfl⟩
theorem witness_AtMostOneCommitPerGroup :
    OneCommitPerGroup { s0 with baste := { s0.baste with commits := [⟨0, 5, [], 0, true⟩, ⟨4095, 6, [], 1, false⟩] } } := by
  unfold OneCommitPerGroup; decide
theorem witness_MemoryReadsAfterWrites :
    (s0.setBobByte 127 524287 7).bobByte 127 524287 = 7 ∧ (s0.setObj Obj.vcoreMax 2047 1).obj Obj.vcoreMax 2047 = 1 := by
  decide +kernel
theorem witness_MemoriesAndUnitsChangeOnlyByTheirCommands :
    (∃ t, exec (.ppsEdge 0) s0 = .next t) ∧ reachesObjects (.ppsEdge 0) = false ∧ mayBob (.ppsEdge 0) = false ∧
      mayPm (.ppsEdge 0) = false ∧ mayFlash (.ppsEdge 0) = false ∧ mayArb (.ppsEdge 0) = false ∧ mayBobWaits (.ppsEdge 0) = false ∧
      mayDma (.ppsEdge 0) = false ∧ mayFab (.ppsEdge 0) = false ∧ mayBaste (.ppsEdge 0) = false ∧ mayLast (.ppsEdge 0) = false ∧
      mayHem (.ppsEdge 0) = false ∧ maySh (.ppsEdge 0) = false ∧ mayTdm (.ppsEdge 0) = false ∧ mayVen (.ppsEdge 0) = false ∧
      mayDbg (.ppsEdge 0) = false ∧ mayPw (.ppsEdge 0) = false ∧ mayTbs (.sensorUpdate 0 [] []) = false :=
  ⟨⟨_, rfl⟩, by decide⟩

/-! ## Witnesses: needles -/

theorem witness_Executes :
    Executes (.add 0 g0 0 1 2) (on s0 0 5 (.add 0 g0 0 1 2)) 0 g0 ∧
      Executes (.ldx 127 gxy 15 3) (on lit 127 0 (.ldx 127 gxy 15 3)) 127 gxy := by
  unfold Executes AtSlot; decide +kernel
theorem witness_AccumulatorRule : (2 : Int) ^ 79 ≤ 2 ^ 79 ∧ -(2 : Int) ^ 79 - 1 < -(2 ^ 79) ∧ ¬(-(2 : Int) ^ 79 ≤ 2 ^ 79 ∧ (2 : Int) ^ 79 < 2 ^ 79) := by
  decide
theorem witness_WriteBackRule : -((2 : Int) ^ 79) ≤ 2 ^ 63 ∧ (2 : Int) ^ 63 < 2 ^ 79 ∧ (2 : Int) ^ 31 - 1 < 2 ^ 63 / 2 ^ 32 := by decide
/-- Instructions of every needle family, at the ends of their operand ranges, are well formed. -/
theorem witness_needle_instructions :
    [Instr.nop 127 g0, .ldih 0 g0 15 0xFFFF, .ldil 0 g0 15 0xFFFF, .mov 0 g0 15 15, .select 0 g0 15 0 1 7, .stcl 0 g0 0, .stch 0 g0 0,
      .gsl 0 g0 0 2, .gsl 0 g0 0 1024, .and 0 g0 0 1 2, .or 0 g0 0 1 2, .xor 0 g0 0 1 2, .not 0 g0 0 1, .min 0 g0 0 1 2,
      .max 0 g0 0 1 2, .asr 0 g0 0 1 2 false 31, .lsl 0 g0 0 1 2 true 0, .lsr 0 g0 0 1 2 false 0, .add 0 g0 0 1 2, .sub 0 g0 0 1 2,
      .addi 0 g0 0 1 0x8000, .neg 0 g0 0 1, .abs 0 g0 0 1, .asl 0 g0 0 1 2 false 31, .cmp 0 g0 7 0 1 .geu, .cmpi 0 g0 6 0 .ltu 0xFFFF,
      .acmp 0 g0 0 3 0 .ge, .plog 0 g0 0 6 7 .andn, .mac4Dot 0 gxy 3 .clr .fetched .fetched, .mac4Fan 0 gxy .sub (.lane 3) (.reg 3),
      .mac4Lane 0 gxy .acc .fetched (.reg 0), .cmac 0 gxy .acc .lo .hi, .cmacCj 0 gxy .acc (.reg 7) .byE, .msq 0 g0 3 15].all
        (·.wf) = true := by decide
/-- As above, for the other families. -/
theorem witness_needle_instructions' :
    [Instr.lda 0 g0 3 15, .aclr 0 g0 3, .aadd 0 g0 0 1 2, .asub 0 g0 0 1 2, .aasl 0 g0 0 1 63, .aasr 0 g0 0 1 63, .asel 0 g0 0 1 2 7,
      .rdag 0 g0 15 3, .rdah 0 g0 15 3, .rdal 0 g0 15 3, .wrag 0 g0 3 15, .wrah 0 g0 3 15, .wral 0 g0 3 15, .wb 0 g0 15 3, .wb4 0 g0 3,
      .ldx 0 gxy 15 3, .ldy 0 gxy 15 3, .ldqx 0 gxy 3, .ldqy 0 gxy 3, .bfly 0 gxy 0 7 .lo .hi .lo, .bflyH 0 gxy 0 7 (.reg 0) .byE .hi,
      .log2 0 g0 15 15, .exp2 0 g0 15 15, .rsqe 0 g0 15 15, .divs 0 g0 15 3 0, .tlu 0 g0 15 15 3, .glide 0 g0 0 1 2 7, .mpeak 0 g0 0 1,
      .seta 0 g0 7 0x3FFF, .setaD 0 g0 7 15, .setb 0 g0 7 0x3FFF, .setbP 0 g0 7 255, .setl 0 g0 7 1, .setl 0 g0 7 16384,
      .setm 0 g0 7 0xFFFF, .setmD 0 g0 7 15, .rdp 0 g0 15 7, .stx 0 gxy 15, .sty 0 gxy 15, .staX 0 gxy 3, .staY 0 gxy 3,
      .inW 0 g0 15 255, .inq 0 g0 3 252, .outW 0 g0 15 255, .outq 0 g0 3 252, .sout 0 g0 15 63, .sin 0 g0 15 127 63 ⟨true, true⟩,
      .sinf 0 g0 15 7 63 ⟨true, false⟩].all (·.wf) = true := by decide
theorem witness_NeedleWindowsAndSeams :
    let c : Instr := .sinf 0 g0 15 7 63 ⟨true, false⟩
    let s := ndW (on s0 0 5 c) 7 (fun d => { d with fwd := [⟨5, 63, 9⟩] })
    c.wf = true ∧ Executes c s 0 g0 ∧ (s.needle 0).run.bind (fun r => (s.needle 7).fwdWord r.stitch 63) = some 9 := by
  unfold Executes AtSlot; decide +kernel
theorem witness_NeedleBobbins :
    let c : Instr := .bldW 0 g0 3 4 0x801 ⟨0, 0, []⟩
    let s := on s0 0 5 c
    let f := State.at_ s Obj.bobbinOwner 0 255
    let b := State.at_ s Obj.handoverBusy 0 1
    (Executes c s 0 g0 ∧ s.bobOwner 0 = 0 ∧ s.mapBit Obj.handoverBusy 0 = false) ∧ g0.ok = true ∧
      (Executes c f 0 g0 ∧ f.bobOwner 0 ≠ 0) ∧ (Executes c b 0 g0 ∧ b.bobOwner 0 = 0 ∧ b.mapBit Obj.handoverBusy 0 = true) := by
  unfold Executes AtSlot; decide +kernel
theorem witness_PredicatedOffChangesPointersOnly :
    let g : Gate := { gxy with pk := 0 }
    let c : Instr := .stx 127 g 0
    let s := on lit 127 5 c
    c.needle? = some 127 ∧ (opOf c).map (·.2.1) = some g ∧ c.wf = true ∧ AtSlot c s 127 g ∧ s.slotOpen 127 g = false := by
  unfold AtSlot; decide +kernel
theorem witness_RefetchesEndTheWait :
    let g : Gate := { g0 with fetch := .progBad }
    let s := on lit 127 5 (.nop 127 g)
    (g.fetch ≠ .good ∧ s.pleatOn 15 = true ∧ (s.needle 127).wait = .none ∧ (s.needle 127).comesTo (.nop 127 g) = true) ∧
      ((ndW s0 127 (fun d => { d with wait := .xy true })).needle 127).wait = .xy true ∧
      ((ndW s0 127 (fun d => { d with wait := .prog })).needle 127).wait = .prog := by decide +kernel

/-! ## Witnesses: the stitch, pools and the regulator -/

/-- Timebase time tb, in units of 2⁻³² ns. -/
def tbAt (s : State) (tb : Nat) : State := { s with clk := { s.clk with tb := tb } }
/-- Piece 0 placed on needle 8, which rests, at timebase time tb. -/
def resting (tb : Nat) : State :=
  ndW (tbAt { s0 with fab := { s0.fab with routesIn := [⟨8191, 8, 255, 0, false⟩] }, last := { s0.last with safety := true, copies := [cp] } } tb)
    8 (fun d => { d with placed := true, progLen := 16 })
theorem witness_StrobeStartsNextStitch :
    let u := resting (crossingTime 1 1 + 1)
    u.strobeDue = true ∧ QuietStrobe u ∧ 8 ∈ u.placedNeedles ∧ (u.needle 8).run = none ∧ (u.needle 8).fill = .none := by
  unfold QuietStrobe; decide +kernel
theorem witness_InletCutoffCloses :
    let u := resting (crossingTime 1 1 + 1 - 160 * 2 ^ 32)
    u.fab.inWr.isOpen = true ∧ u.within 160 = true := by decide +kernel
theorem witness_InletDistributionFills :
    let u := resting (crossingTime 1 1 + 1 - 160 * 2 ^ 32)
    let c : State := { u with fab := { u.fab with inWr := ⟨1, false, [], []⟩ } }
    (c.fab.inWr.isOpen = false ∧ c.within 160 = true ∧ 8 ∈ c.placedNeedles ∧ (c.needle 8).fill = .none ∧ (c.needle 8).run = none) ∧
      ((ndW s0 127 (fun d => { d with fill := .filling 3 })).needle 127).fill = .filling 3 := by decide +kernel
theorem witness_DeadlineCollectsTheOutletBank :
    let u := tbAt full (crossingTime 1 1 + 1 - 320 * 2 ^ 32)
    let r : Route := ⟨8191, 8, 255, 0, false⟩
    let p : State := { u with fab := { u.fab with routesOut := [r] } }
    p.within 320 = true ∧ p.deadlineOf ≠ some p.stitch ∧ p.level = 0 ∧ p.pw.hush = false ∧ p.pw.reload = false ∧
      p.twinMismatch p.stitch 0 = false ∧ (resting 0).placedNeedles.count 8 = 1 ∧ ((resting 0).needle 8).doneFor ≠ some 0 := by
  decide +kernel
theorem witness_RunsEnd :
    let r : Run := ⟨0, 16, 16⟩
    let s := ndW s0 127 (fun d => { d with run := some r })
    (s.needle 127).run = some r ∧ (s.needle 127).ranOut = true ∧ s.last.migs = [] := by decide +kernel
theorem witness_FittingReports :
    let f := State.at_ s0 Obj.stitchNow 0 256
    f.stitch % 256 = 0 ∧ f.stitch ≠ 0 := by decide +kernel
theorem witness_RegulatorAnswers :
    (fabW (fun f => { f with avs := [⟨800, true, false⟩] })).fab.avs ≠ [] ∧
      (fabW (fun f => { f with shedPending := true })).fab.shedPending = true ∧
      ∀ l, Due.shed l ∉ (fabW (fun f => { f with shedPending := true })).fab.due :=
  ⟨by decide, by decide, fun _ h => nomatch h⟩
theorem witness_HemBoundaryLatches :
    let s : State := { s0 with clk := { s0.clk with tb := 60 * 1000000000 * 2 ^ 32 } }
    s.hemReached = true ∧ canonical (objRest s.e16) s.regs = true := by decide +kernel

/-! ## Witnesses: writes, basting and the Last -/

/-- The write of element i of an object is accepted. -/
def okW (w : Writer) (num i : Nat) (v : Int) (s : State) : Bool := decide (s.phase = .running ∧ wstatus w num i v s = St.ok)
/-- The write of a BLOB is accepted. -/
def okB (w : Writer) (num : Nat) (l : List Byte) (s : State) : Bool := decide (s.phase = .running ∧ bstatus w num l s = St.ok)
/-- A state with one outstanding commit of group g. -/
def committing (g : Nat) (copied : Bool) : State :=
  { full with baste := { full.baste with commits := [⟨g, 9, [], 0, copied⟩] } }

theorem witness_RefusedWrites :
    let q : WReq := ⟨0x1FFFFF, 0, 1, 5, [0, 0, 0, 0]⟩
    (s0.write1 wr q).1 ≠ St.ok ∧ s0.desc? q.num = none ∧
      (∃ d, s0.desc? Obj.vcoreNow = some d ∧ d.rightCheck wr ⟨Obj.vcoreNow, 0, 1, 3, [1, 0]⟩ ≠ St.ok) ∧
      (∃ d, s0.desc? Obj.vcoreMax = some d ∧ d.rightCheck wr ⟨Obj.vcoreMax, 0, 1, 5, [1, 0, 0, 0]⟩ = St.ok ∧
        d.typeCheck ⟨Obj.vcoreMax, 0, 1, 5, [1, 0, 0, 0]⟩ ≠ St.ok) ∧
      (∃ d, s0.desc? Obj.lastFreeze = some d ∧ d.rightCheck wr ⟨Obj.lastFreeze, 0, 1, 0, [2]⟩ = St.ok ∧
        d.typeCheck ⟨Obj.lastFreeze, 0, 1, 0, [2]⟩ = St.ok ∧ d.rangeCheck ⟨Obj.lastFreeze, 0, 1, 0, [2]⟩ ≠ St.ok) := by
  refine ⟨by decide +kernel, by decide +kernel, ⟨_, rfl, by decide +kernel⟩, ⟨_, rfl, by decide +kernel, by decide +kernel⟩,
    ⟨_, rfl, by decide +kernel, by decide +kernel, by decide +kernel⟩⟩

theorem witness_AcceptedWrites :
    (∃ d, s0.desc? Obj.arbHoldLimit = some d ∧ d.ty.isBytes = false ∧ d.wo = false ∧ d.ty.decode (d.ty.encode 64) = 64) ∧
      s0.param? Obj.arbHoldLimit = none ∧ actsOnWrite Obj.arbHoldLimit = false ∧ okW wr Obj.arbHoldLimit 10 64 s0 = true ∧ okW wr (ndlObj 127 0x20) 0 0xFFFFFFFF s0 = true ∧
      okW wr (ndlObj 127 1) 0 0xFFFFFFFF s0 = true ∧ okW wr Obj.avsStatus 0 0xFFFFFFFF s0 = true ∧ okW wr Obj.vcoreMax 0 850 s0 = true ∧
      okW wr Obj.vcoreMin 0 700 s0 = true ∧ okW wr Obj.clkPhase 9 (-5) s0 = true ∧ okW wr Obj.tdmCfg 15 2 s0 = true ∧
      okW wr Obj.dmxTiming 7 (s0.obj Obj.dmxTiming 7) s0 = true ∧ okW wr Obj.dmxCfg 7 (s0.obj Obj.dmxCfg 7 + 2) s0 = true ∧
      okW wr (Obj.univCfg0 + 31) 1023 1 s0 = true ∧ okW wr Obj.resourceMap 3 0xFF s0 = true ∧ okW wr Obj.ptpProfile 0 1 s0 = true :=
  ⟨⟨_, rfl, by decide +kernel⟩, by decide +kernel⟩
/-- A group-0 unbasted universe slot's shadow that differs from its committed value (UNIV_GROUP 0). -/
def differing : State := State.at_ (State.at_ full Obj.univGroup0 0 0) slotBase 0 9
theorem witness_CommitsAndGroups :
    okW (full.coreWriter 0) Obj.ccCommitGo0 0 0x1001 full = true ∧
      okW ((State.at_ full Obj.ccCommitStitch0 0 5).coreWriter 0) Obj.ccCommitGo0 0 1 (State.at_ full Obj.ccCommitStitch0 0 5) = true ∧
      differing.group0Differs = true ∧ differing.outstanding 0 = none ∧
      (∃ c, (committing 5 false).baste.commits.find? (fun c => !c.copied) = some c ∧ c.group = 5 ∧
        c.frozen.all (fun e => !(committing 5 false).pageBusy e.1) = true) ∧
      okW wr Obj.commitCancel 0 4095 (committing 4095 true) = true ∧
      isGroupTable (Obj.univGroup0 + 31) = true ∧ okW wr (Obj.univGroup0 + 31) 1023 4095 full = true ∧
      full.nat (Obj.univGroup0 + 31) 1023 = 0xFFFF ∧ okW wr Obj.univGroup0 0 0xFFFF differing = true ∧ differing.nat Obj.univGroup0 0 ≠ 0xFFFF := by
  refine ⟨by decide +kernel, by decide +kernel, by decide +kernel, by decide +kernel, ⟨_, rfl, rfl, by decide +kernel⟩, ?_⟩
  decide +kernel
/-- A spool of piece 0's first memory record. -/
def spool : Spool := ⟨0, false, 0, 65536, 0, 20, 0, 4096, [], [], [], [], []⟩
/-- The placed pattern with a spool as given. -/
def spooled (q : Spool) (k : Nat) : State :=
  let s := State.at_ (placed 1) Obj.stitchNow 0 k
  { s with last := { s.last with spools := [q], pat := some { pat with mems := [⟨0, true, false, 65536, 0⟩] } } }
theorem witness_PlacementRequests :
    okW wr Obj.placeCmd 0 1 (State.at_ full Obj.imageVerified 0 1) = true ∧ okW wr Obj.placeCmd 0 2 (placed 1) = true ∧
      ((placed 1).pieceSt 0).state ≠ 0 ∧ ((placed 1).pieceSt 0).state ≠ 4 ∧ okW wr Obj.placeCmd 0 3 (placed 3) = true ∧
      (placed 3).last.pat.isSome = true ∧ ((placed 3).pieceDesc 0).isSome = true ∧ ((placed 3).pieceSt 0).state = 3 ∧
      ((placed 4).pieceSt 0).state = 4 ∧ okW wr Obj.placeCmd 0 (4 + 65536 * 127) (placed 1) = true ∧
      okW wr Obj.placeCmd 0 5 (State.at_ (spooled spool 0) Obj.placeArg 0 65536) = true ∧ ((spooled spool 0).tapRec 0).isSome = true ∧
      okW wr Obj.placeCmd 0 6 (placed 1) = true ∧ okB wr Obj.patStageData [1, 2, 3] full = true := by
  decide +kernel
/-- A migration of piece 0 from needle 8 to needle 9, mirroring. -/
def mig : Mig := ⟨[{ cp with needle := 9, live := false }], 8, 7, 0, false, 0, false, none, none, [], false, true⟩
theorem witness_PlacementAndMigration :
    let s : State := { full with last := { full.last with stage := 1 } }
    let l : State := { full with last := { full.last with stage := 3, next := some pat } }
    let m : State := { placed 1 with last := { (placed 1).last with requests := [(0, 1, 0)] } }
    let g : State := { placed 2 with last := { (placed 2).last with migs := [mig] } }
    (s.last.stage = 1 ∧ l.last.stage = 3 ∧ l.last.waitRaise = false ∧ l.pleatsReady = true ∧ l.pw.hush = false ∧ l.level ≠ 2 ∧
      l.last.next.isSome = true ∧ m.pw.hush = false ∧ m.level ≠ 2 ∧ m.pw.reload = false ∧ m.last.pat.isSome = true ∧
      m.last.requests ≠ [] ∧ m.bit Obj.lastFreeze 0 0 = false) ∧
      (let c := mig.copies.headD cp
       g.last.pat = some pat ∧ pat.pieces[c.piece]? = some pd ∧ mig.copies = [c] ∧ cp.needle ≠ c.needle ∧ c.needle < 128 ∧
         g.last.copies.find? (fun x => x.piece == c.piece && x.second == c.second) = some cp ∧ cp.piece = c.piece ∧
         g.last.migs.filter (fun m => m.mirror && !m.ready && !m.switched && m.copies.any (fun c => c.piece == (0 : Fin 4096).val)) = [mig]) := by
  decide +kernel
/-- Requests and moves wait in FULL service with piece 0 running on needle 8. -/
def asked (r : List (Nat × Nat × Nat)) (m : List (Nat × Nat)) : State :=
  { placed 1 with last := { (placed 1).last with requests := r, moves := m } }
theorem witness_Migrations :
    let ready (s : State) : Bool := !s.pw.hush && s.level != 2 && !s.pw.reload && s.last.pat == some pat && !s.bit Obj.lastFreeze 0 0
    let low := asked [(Rsn.lowMargin, 8, 0)] []
    let move := asked [] [(0, 127)]
    (ready low = true ∧ low.last.requests.head? = some (Rsn.lowMargin, 8, 0) ∧ low.byShare pat (low.placedOn 8) = [cp] ∧
      (movesTo low pat (setOf pat (low.placedOn 8) cp) (fun x => x / 8 == 1)).isSome = true ∧
      low.intervalOver pat (setOf pat (low.placedOn 8) cp) 0 = true) ∧
    (let fray := asked [(Rsn.frayed, 8, 0)] []
     ready fray = true ∧ fray.last.requests.head? = some (Rsn.frayed, 8, 0) ∧ fray.placedOn 8 = [cp]) ∧
    (ready move = true ∧ move.last.requests = [] ∧ move.last.moves = (0, 127) :: [] ∧ (move.pieceSt 0).state = 1 ∧ cp.needle ≠ 127 ∧
      move.last.copies.find? (fun x => x.piece == 0 && !x.second) = some cp ∧ (0, false) ∈ copyOrder pat ∧
      movesTo move pat (setOf pat (move.placedOn 8) cp) (fun x => x != 127) = some 127) := by decide +kernel
/-- The bytes of a pattern of one piece named "a", whose code is one NOP, without their signature: the header, the piece's
descriptor, its code and its strings (R118, R119). -/
def patBytes : List Byte :=
  [0x53, 0x48, 0x50, 0, 1, 0, 1, 0xB0] ++ leBytes 4 312 ++ leBytes 4 7 ++ [1, 0] ++ List.replicate 14 0 ++
    [(128, 1), (192, 1), (200, 0), (200, 0), (200, 0), (200, 0), (200, 0), (200, 2)].flatMap (fun e => leBytes 4 e.1 ++ leBytes 4 e.2) ++
    List.replicate 32 0 ++
    leBytes 4 0 ++ leBytes 4 1 ++ [1, 0] ++ List.replicate 54 0 ++ leBytes 8 ((encodeSlot (.nop 0 g0)).getD 0).toNat ++ [0x61] ++ List.replicate 7 0
/-- The pattern signed by the private key 1 is pending, and the image's manifest names that key. -/
def signed : State :=
  let sig := List.replicate 8 0 ++ ecdsaSign 1 1 (sha384 patBytes)
  { full with boot := { full.boot with manifest := List.replicate 0x163 0 ++ [1] ++ p384Public 1 },
              last := { full.last with stage := 1, pending := ((patBytes ++ sig).zipIdx).map (fun e => (e.2, e.1)),
                                       effMap := List.replicate 8 0xFFFFFFFF } }
/-- Its bytes pass the checks up to the pieces', and so does its signature. -/
theorem signed_checks :
    checkLength signed.last.pending = none ∧ signed.patSigOk signed.last.pending = true ∧ checkHeader signed.last.pending = none ∧
      signed.checkRate (rdLe signed.last.pending 6 1) = none ∧ checkTables signed.last.pending = none ∧
      checkParamTable signed.last.pending (readPattern signed.last.pending).pieces = none := by decide +kernel
/-- A step that succeeds, and a second on what it answers, answer together. -/
theorem both_ok (f : List (List (BitVec 64) × List (Bool × Nat × Nat)) → Except PlaceErr Plan)
    (e : Except PlaceErr (List (List (BitVec 64) × List (Bool × Nat × Nat))))
    (h : (match e with
      | .ok c => (match f c with
        | .ok _ => true
        | .error _ => false)
      | .error _ => false) = true) : ∃ c, e = .ok c ∧ ∃ pl, f c = .ok pl := by
  cases e with
  | error _ => simp at h
  | ok c =>
    cases hf : f c with
    | error _ => simp [hf] at h
    | ok pl => exact ⟨c, rfl, pl, hf⟩
theorem witness_PlacementDecided : signed.last.stage = 1 ∧ ∃ q pl, Placeable signed signed.last.pending q pl := by
  obtain ⟨h1, h2, h3, h4, h5, h6⟩ := signed_checks
  obtain ⟨c, hc, pl, hp⟩ := both_ok
    (fun codes =>
      let q : Pattern := { readPattern signed.last.pending with code := codes.map (·.1), stores := codes.map (·.2) }
      let free (k : Nat) : List Nat := (List.range 128).filter (fun n => (signed.last.effMap.getD (k + n / 32) 0).testBit (n % 32))
      placeAll q { signed.placeIn with needles := free 0, bobbins := free 4 } ⟨[], [], []⟩ (copyOrder q))
    (checkPieces (readPattern signed.last.pending)
      (fun k => ((((readPattern signed.last.pending).pieces[k]?).map (rawCode signed.last.pending)).getD []))
      (readPattern signed.last.pending).pieces.zipIdx) (by decide +kernel)
  exact ⟨rfl, _, pl, h1, h2, h3, h4, h5, h6, c, hc, rfl, hp⟩
theorem witness_SpoolBlocks :
    let a := spooled spool 1024
    let f := spooled { spool with fetching := [1024] }
    let d := spooled { spool with draining := [512] } 1024
    (∃ q, a.spool? 0 false = some q ∧ 2048 % 512 = 0 ∧ 2048 ≤ a.stitch + 1024 ∧ a.stitch < 2048 + 512 ∧ 2048 ∉ q.fetching ∧ 2048 ∉ q.fetched) ∧
    (∃ q, (f 959).spool? 0 false = some q ∧ 1024 ∈ q.fetching ∧ (f 959).stitch + 64 < 1024 ∧ q.lost = []) ∧
    (∃ q, (f 960).spool? 0 false = some q ∧ 1024 % 512 = 0 ∧ 1024 ≤ (f 960).stitch + 64 ∧ (f 960).stitch < 1024 + 512 ∧ 1024 ∉ q.fetched) ∧
    (∃ q, a.spool? 0 false = some q ∧ 512 + 512 ≤ a.stitch ∧ 512 ∉ q.draining ∧ 512 ∉ q.drained ∧ 512 ∉ q.lost) ∧
    (∃ q, d.spool? 0 false = some q ∧ 512 ∈ q.draining ∧ d.bobBad = [] ∧ 512 ≤ q.words) := by
  refine ⟨⟨_, rfl, ?_⟩, ⟨_, rfl, ?_⟩, ⟨_, rfl, ?_⟩, ⟨_, rfl, ?_⟩, ⟨_, rfl, ?_⟩⟩ <;> decide +kernel
/-- Bobbin 127 is out of the map. -/
def unmapped : State := State.at_ full Obj.bobbinMap 3 0x7FFFFFFF
/-- The arbiter of channel A is as given. -/
def arbited (a : Arb) : State := { s0 with arb := [a, Arb.start] }
theorem witness_BobbinOwners :
    okW wr Obj.bobbinOwner 127 255 unmapped = true ∧ okW wr Obj.bobbinMap 3 0xFFFFFFFF unmapped = true ∧
      unmapped.bit Obj.bobbinMap 3 31 = false ∧ (State.at_ s0 Obj.handoverBusy 3 (2 ^ 31)).mapBit Obj.handoverBusy 127 = true := by
  decide +kernel
theorem witness_CoreAccesses :
    (0x400000000 ≤ 0x400000000 + (s0.regionBase 3 - 8) ∧ s0.regionBase 3 - 8 + 8 ≤ s0.regionBase 3 ∧ s0.regionBase 3 ≤ s0.deviceBase ∧
      s0.coreWaits = [] ∧ s0.arb.length = 2) ∧
      (0x0FFFFFF8 : BitVec 64).toNat + 8 ≤ 0x10000000 ∧ 0x14000000 ≤ (0x14000000 : BitVec 64).toNat ∧
      0x400000000 + s0.pmSize + 8 ≤ 0x1000000000 ∧ 0x1010000000 ≤ (0x1010000000 : BitVec 64).toNat := by decide +kernel
theorem witness_Arbiters :
    (let o := (0x3FFFFFFFF : BitVec 34).toNat
     s0.arb.length = 2 ∧ (s0.arbOf (o / 4096 % 2)).holder = none ∧ (s0.arbOf 1).ended = false ∧ (s0.arbOf 1).up = [] ∧
       s0.coreWaits = [] ∧ s0.requesterMay 10 o = true ∧ (s0.arbOf 1).cls.getD 10 3 ≠ 0) ∧
      (s0.requesterMay 3 (s0.regionBase 2) = true ∧ (s0.arbOf 0).cls.getD 3 3 = 0 ∧ (s0.arbOf 0).won.getD 3 0 < (s0.arbOf 0).quota) ∧
      (let s := arbited { Arb.start with holder := some 3, up := [3], moved := 31, blocks := 1 }
       s.arb.length = 2 ∧ (s.arbOf 0).holder = some 3 ∧ (s.arbOf 0).ended = false ∧ s.coreWaits = []) ∧
      (let s := arbited { Arb.start with holder := some 10, ended := true, succ := some 3, up := [3, 6, 10] }
       s.arb.length = 2 ∧ (s.arbOf 0).ended = true ∧ (s.arbOf 0).succ = some 3 ∧ 3 ∈ (s.arbOf 0).up ∧ (s.arbOf 0).holder = some 10 ∧
         (∀ y, y ∈ (s.arbOf 0).up → y < 11) ∧ 6 ∈ (s.arbOf 0).up ∧ (s.arbOf 0).cls.getD 6 3 ≠ 0) ∧
      (let s := arbited { Arb.start with ended := true, succ := some 3, up := [3] }
       (∀ x, x ∈ (s.arbOf 0).up → ∃ y, y ∈ [(3 : Fin 11)] ∧ y.val = x)) ∧
      (let s := at_ s0 3904000
       (s.arbOf 1).refreshAt + 3904000 ≤ s.now ∧ s.nat Obj.pmRefreshX2 1 ≠ 1) ∧
      (let d : Debug := { s0.dbg with waits := [(0x3FF, none), (0x1000, some 7)] }
       let s : State := { (at_ s0 256000) with arb := [Arb.start, { Arb.start with debugAt := some 0 }], dbg := d }
       s.arb.length = 2 ∧ s.dbg.waits.find? (fun x => x.1 / 4096 % 2 == 1) = some (0x1000, some 7) ∧ s.refreshDue 1 = false ∧
         (s.arbOf 1).debugAt.all (fun x => decide (x + 256000 ≤ s.now)) = true ∧ 0x1000 < s.regionBase 3 ∧ 0x1000 < s.pmSize) := by
  decide +kernel
theorem witness_BobbinWindow :
    let s := State.at_ s0 Obj.bobbinOwner 127 134
    (524280 : BitVec 19).toNat % 2 ^ 3 = 0 ∧ s.bobOwner 127 = 131 + (3 : Fin 4).val ∧ s.mapBit Obj.handoverBusy 127 = false ∧
      s0.bobOwner 127 ≠ 131 + (3 : Fin 4).val := by decide +kernel

/-! ## Witnesses: control cores, Ursin, the journal -/

/-- No table of the dictionary cache is read. -/
def noRep : DictRep := ⟨0, 0, 0, [], 0⟩
/-- A message in clear by the serial port. -/
def umsg (session seq : BitVec 32) (count : BitVec 16) (object : BitVec 32) (payload : List Byte) : UMsg :=
  ⟨4, 0, 0, 0x5552, 1, 0, session, seq, 0, count, object, BitVec.ofNat 16 payload.length, 0, payload, List.replicate 16 0, false, noRep⟩
/-- A session's keys. -/
def keys : Keys := ⟨List.replicate 32 1, List.replicate 32 2, [3, 3, 3, 3], [4, 4, 4, 4]⟩
/-- Session 1 of an ENGINEER, by the serial port, its last message but one behind it. -/
def sess : Session := ⟨1, 0, some 3, 0, 0, false, 0, 0xFFFFFFFD, [], 1, 4, 0, 0, keys⟩
/-- The journal's restore has ended, and session 1 lives. -/
def live : State :=
  let s := full
  { s with boot := { s.boot with admitted := true }, ursin := { s.ursin with sessions := [sess] } }
/-- A request of the dictionary on the first element of an object. -/
def rq (object count : Nat) (payload : List Byte) : Req := ⟨0, 0, count, object, 0, payload⟩

theorem witness_ObjectWindow :
    isHem Obj.vcoreMax = false ∧ Obj.vcoreMax ∉ [Obj.tbNow, Obj.rtcNow, Obj.trialLeft, Obj.journalState, Obj.irqStatus, Obj.gpioIn] ∧
      (∃ d, full.desc? Obj.vcoreMax = some d ∧ d.wo = false ∧ d.windowForm 0 0 2 false = true ∧ d.may 0 (some 3) = true ∧
        d.windowForm 1 0 2 false = true ∧ d.ty.decode (d.ty.encode (storeVal d.ty 2 800)) = storeVal d.ty 2 800 ∧
        d.windowForm 0 1 2 false = false ∧ d.windowForm 1 0 2 true = false ∧
        d.ty.decode (d.ty.encode (storeVal d.ty 2 0x10000)) ≠ storeVal d.ty 2 0x10000 ∧
        d.rightCheck (full.coreWriter 3) ⟨Obj.vcoreMax, 0, 1, d.code, d.ty.encode (storeVal d.ty 2 0x10000)⟩ = St.ok) ∧
      Obj.ccMsgGo0 + 4 ≤ Obj.vcoreMax ∧ Obj.vcoreMax ≠ Obj.updCmd ∧
      ((full.applyRep noRep).write1 (full.coreWriter 3) ⟨Obj.vcoreMax, 0, 1, 3, [0x20, 0x03]⟩).2.phase = .running := by
  refine ⟨by decide, by decide, ⟨_, rfl, ?_⟩, ?_⟩ <;> decide +kernel
theorem witness_MessagePath :
    full.inFirmware 0 16384 = true ∧ (((full.applyRep noRep).countOps 1).coreMessage 3 0 noRep.span).phase = .running := by decide +kernel
/-- Core 3 asks for VCORE_MAX alone. -/
def tacking : State := State.at_ (State.at_ full (Obj.ccTackFirst0 + 3) 0 0x109) (Obj.ccTackLast0 + 3) 0 0x109
theorem witness_CoreDictionaryRows :
    let k : Tack := ⟨9, .core 3, 0x109, 0x109, 0⟩
    let held (s : State) : State := { s with dict := { s.dict with tacks := [k] } }
    wstatus (full.coreWriter 3) (Obj.dictCcSub0 + 3) 0 (Obj.vcoreNow + 2 ^ 35 * 100) full = St.ok ∧
      wstatus (full.coreWriter 3) (Obj.dictCcRingBase0 + 3) 0 4096 full = St.ok ∧
      wstatus (full.coreWriter 3) (Obj.dictCcRingTail0 + 3) 0 0 full = St.ok ∧ full.coreTack 3 = none ∧
      wstatus (full.coreWriter 3) (Obj.ccTackGo0 + 3) 0 60000 tacking = St.ok ∧ (held tacking).coreTack 3 = some k ∧
      wstatus (full.coreWriter 3) (Obj.ccTackGo0 + 3) 0 50 (held tacking) = St.ok ∧
      wstatus (full.coreWriter 3) (Obj.ccTackGo0 + 3) 0 (2 ^ 31) (held full) = St.ok := by decide +kernel
/-- A message protected under session 1's keys. -/
def sealed (op : Nat) (m : UMsg) : UMsg :=
  let c := { m with payload := gcmText keys.toDevice (msgIv keys.clientSalt m.seq.toNat op) m.payload }
  { c with tag := gcmTag keys.toDevice (msgIv keys.clientSalt m.seq.toNat op) (headerOf c op) c.payload }
/-- Its request. -/
def request (op : Nat) (m : UMsg) : Req :=
  reqWith (sealed op m) (gcmText keys.toDevice (msgIv keys.clientSalt m.seq.toNat op) (sealed op m).payload)
/-- The serial port holds a message alone. -/
def framed (m : UMsg) (op : Nat) (s : State) : State := { s with ser := { s.ser with frames := [rawOf m op] } }
theorem beLen_length (n v : Nat) : (beLen n v).length = n := by
  induction n generalizing v with
  | zero => rfl
  | succ n ih => simp [beLen, ih]
theorem gcmOpen_tag (k iv aad ct : List Byte) : gcmOpen k iv aad ct (gcmTag k iv aad ct) = some (gcmText k iv ct) := if_pos rfl
theorem sealed_opens (op : Nat) (m : UMsg) :
    opened (sealed op m) keys op = some (gcmText keys.toDevice (msgIv keys.clientSalt m.seq.toNat op) (sealed op m).payload) := by
  simp only [opened, sealed, headerOf, gcmOpen_tag]
/-- A protected message passes where its fields and its request do. -/
theorem passes (op : Nat) (m : UMsg) (ok : Req → Bool) (hv : m.via = 4) (hs : m.session = 1) (hq : m.seq = 0xFFFFFFFE) (hf : m.full = false)
    (hm : m.magic = 0x5552) (hn : m.version = 1) (h : ok (request op m) = true)
    (hl : (sealed op m).payload.length = m.length.toNat ∧ (sealed op m).payload.length ≤ maxPayload) :
    ∃ v q, Passes (sealed op m) op ok (framed (sealed op m) op live) v sess q := by
  refine ⟨_, request op m, (if_pos hv).trans (if_pos rfl), (by decide +kernel : live.boot.admitted = true), ?_, ?_, ?_, ⟨_, sealed_opens op m, rfl⟩, ?_, ?_, h, hf⟩
  · rw [show (sealed op m).session = 1 from hs]; exact (by decide +kernel : live.session? 1 = some sess)
  · have ht : (sealed op m).tag.length = 16 := beLen_length _ _
    have h1 : (sealed op m).length = m.length := rfl
    simp [formOk, ht, h1, hl.1, hl.1 ▸ hl.2, show (sealed op m).magic = 0x5552 from hm, show (sealed op m).version = 1 from hn]
  · rw [show (sealed op m).via = 4 from hv]; decide
  · rw [show (sealed op m).seq = 0xFFFFFFFE from hq]; decide
  · rw [show (sealed op m).seq = 0xFFFFFFFE from hq]; decide
/-- Each operation's request, its number and its form. -/
def requests : List (Nat × BitVec 16 × List Byte × (Req → Bool)) :=
  [(0x10, 1, [], (·.dataOk 0x10)), (0x11, 1, [0, 3, 2, 0, 0x20, 3, 0, 0], (·.dataOk 0x11)), (0x12, 256, [], (·.dataOk 0x12)),
    (0x13, 1, [0, 3, 2, 0, 0x20, 3, 0, 0], (·.dataOk 0x13)), (0x20, 1024, [10, 0], subOk 0x20 2), (0x21, 1024, [], subOk 0x21 0),
    (0x30, 1, List.replicate 8 0 ++ [1, 0, 0, 0], commitOk), (0x40, 1, List.replicate 8 0, fun q => q.headOk 0x40 && q.payload.length == 8),
    (0x41, 1, List.replicate 8 0, tackIdOk 0x41 8), (0x42, 1, List.replicate 4 0, tackIdOk 0x42 4),
    (0x7F, 1, [], fun q => q.headOk 0x7F && q.payload.isEmpty),
    (0x50, 1, [1, 0, 0, 0], fun q => q.headOk 0x50 && q.payload.length == 4 && (q.payload.drop 1).all (· == 0)),
    (0x51, 1, [0, 0, 0, 0], fun q => q.headOk 0x51 && decide (4 ≤ q.payload.length)), (0x52, 1, [], fun q => q.headOk 0x52 && q.payload.isEmpty)]
/-- The message of a request on VCORE_MAX, in clear. -/
def plain (e : Nat × BitVec 16 × List Byte × (Req → Bool)) : UMsg := umsg 1 0xFFFFFFFE e.2.1 0x109 e.2.2.1
theorem witness_SessionMessagesAreServed :
    ∀ e ∈ requests, ∃ v q, Passes (sealed e.1 (plain e)) e.1 e.2.2.2 (framed (sealed e.1 (plain e)) e.1 live) v sess q := by
  have h : requests.all (fun e => e.2.2.2 (request e.1 (plain e)) &&
      ((sealed e.1 (plain e)).payload.length == (plain e).length.toNat &&
        decide ((sealed e.1 (plain e)).payload.length ≤ maxPayload))) = true := by decide +kernel
  intro e he
  have := List.all_eq_true.mp h e he
  simp only [Bool.and_eq_true, beq_iff_eq, decide_eq_true_eq] at this
  exact passes e.1 (plain e) e.2.2.2 rfl rfl rfl rfl rfl rfl this.1 this.2
theorem witness_OperationsEffects :
    (∃ d, live.desc? Obj.vcoreMax = some d ∧ d.may 0 wr.role = true ∧ d.spanOk (rq Obj.vcoreMax 1 []) = true) ∧
      (live.opBlockWrite wr (rq Obj.vcoreNow 1 [3, 0, 1, 0, 0, 0])).1.status ≠ St.ok ∧
      (live.opCommit wr (rq 4095 1 (leBytes 8 7 ++ [0, 0, 0, 0]))).1.status = St.ok ∧
      (live.opCommit wr (rq 4096 1 (leBytes 8 0 ++ [1, 0, 0, 0]))).1.status ≠ St.ok ∧
      (live.tackCheck wr.src wr.role 0x109 0x109 60000).1 = St.ok ∧ (State.at_ live Obj.bootState 0 4).recoveryCheck wr 4 = St.ok ∧ live.recoveryElsewhere wr = false := by
  refine ⟨⟨_, rfl, ?_⟩, ?_⟩ <;> decide +kernel
/-- A handshake that has handled its first h messages, in a MODE. -/
def hand (h mode : Nat) : Hand := ⟨9, 0, h, h, [], mode, 5, 4, [], [], []⟩
/-- It is in progress. -/
def handing (h mode : Nat) : State := { live with ursin := { live.ursin with sessions := [], hands := [hand h mode] } }
/-- The root with the hash of 48 zero bytes is trusted. -/
def trusting (s : State) : State := s.setBlob Obj.trustRoots (List.replicate 48 0)
/-- A report on a chain that stands, of a SERVICE leaf with the private key 1. -/
def keyRep : KeyRep := ⟨true, true, List.replicate 48 0, p384Public 1, some 3, false, 7⟩
theorem witness_HandshakeMakesASession :
    (let m := umsg 0 1 0 0 (List.replicate 130 0 ++ [200, 0, 0])
     ∃ v, arrived m 1 (framed m 1 (handing 1 0)) = some v ∧ v.boot.admitted = true ∧ m.session = 0 ∧ formOk m = true ∧ inClear m = true ∧
       m.seq.toNat = 1 ∧ helloOk (reqOf { m with payload := List.replicate 131 0 ++ [0, 0] }) = true ∧ v.ursin.hands.length < 16) ∧
    (let m := umsg 9 2 0 0 []
     ∃ v, arrived m 2 (framed m 2 (handing 1 1)) = some v ∧ v.boot.admitted = true ∧ v.session? 9 = none ∧ v.hand? 9 = some (hand 1 1) ∧ formOk m = true ∧
       inClear m = true ∧ certOk (hand 1 1) (reqOf m) = true) ∧
    (let m := umsg 9 3 0 0 (List.replicate 96 0)
     ∃ v, arrived m 3 (framed m 3 (handing 2 0)) = some v ∧ v.session? 9 = none ∧ v.hand? 9 = some (hand 2 0) ∧ formOk m = true ∧ inClear m = true ∧
       (reqOf m).headOk 0x03 = true ∧ (v.applyRep m.rep).keyStatus (hand 2 0) m.payload keyRep ≠ St.ok) ∧
    (let m := umsg 9 3 0 0 (ecdsaSign 1 1 (sha384 []))
     ∃ v, arrived m 3 (framed m 3 (trusting (handing 2 0))) = some v ∧ (reqOf m).headOk 0x03 = true ∧ formOk m = true ∧ m.payload.length = 96 ∧
       (v.applyRep m.rep).keyStatus (hand 2 0) m.payload keyRep = St.ok) ∧
    (let m := umsg 9 3 0 0 []
     ∃ v, arrived m 3 (framed m 3 (State.at_ (handing 2 1) Obj.strangerMode 0 1)) = some v ∧ (reqOf m).headOk 0x03 = true ∧ formOk m = true ∧
       (v.applyRep m.rep).keyStatus (hand 2 1) m.payload keyRep = St.ok) ∧
    (at_ (handing 1 0) (2000 * msPs)).ursin.hands.any (fun h => h.id == 9 && decide (h.at_ + 2000 * msPs ≤ 2000 * msPs)) = true := by
  refine ⟨⟨_, (if_pos rfl).trans (if_pos rfl), ?_⟩, ⟨_, (if_pos rfl).trans (if_pos rfl), ?_⟩, ⟨_, (if_pos rfl).trans (if_pos rfl), ?_⟩, ⟨_, (if_pos rfl).trans (if_pos rfl), ?_⟩, ⟨_, (if_pos rfl).trans (if_pos rfl), ?_⟩,
    ?_⟩ <;> decide +kernel
theorem witness_SessionTimers :
    (∃ x, live.session? 1 = some x ∧ x.at_ + live.nat Obj.sessTimeout * msPs ≤ (at_ live (live.nat Obj.sessTimeout * msPs)).now) ∧
      okW wr Obj.sessKick 0 1 live = true ∧
      (let s : State := { at_ live (100 * msPs) with ursin := { live.ursin with frags := [(4, 0)] } }
       s.ursin.frags.any (fun f => f.1 == 4 && decide (f.2 + 100 * msPs ≤ s.now)) = true) ∧
      (let b : Sub := ⟨.session 1, 0x109, 1024, 100, 0, 0, 99 * msPs, []⟩
       let s : State := { at_ live (100 * msPs) with dict := { live.dict with tacks := [⟨9, .session 1, 0x109, 0x109, 0⟩], subs := [b] } }
       (s.dict.tacks.find? (fun t => t.id == 9 && decide (t.expiry ≤ s.now))).isSome = true ∧
         s.dict.subs.find? (fun b => b.is (.session 1) 0x109 1024) = some b ∧ 1 ≤ b.ms ∧
         (b.told - b.at_) / (b.ms * msPs) < (s.now - b.at_) / (b.ms * msPs)) ∧
      (let b : Sub := ⟨.session 1, 0x109, 2, 100, 0, 0, 99 * msPs, []⟩
       let s : State := { at_ live (100 * msPs) with dict := { live.dict with subs := [b] }, chg := [(0x109, 2)], chgSeq := 2 }
       let parts := splitParts ((s.notifyAll b false b.first b.count).1.map Notified.bytes) (0, [])
       s.dict.subs.find? (fun b => b.is (.session 1) 0x109 2) = some b ∧ b.due s.now = true ∧ s.session? 1 = some sess ∧
         parts.length = 1 ∧ sess.notify + parts.length ≤ 0xFFFFFFFF ∧ (s.ursin.serialq.filter (fun e => e.2.session == 1)).length < 64) := by
  refine ⟨⟨sess, rfl, ?_⟩, ?_⟩ <;> decide +kernel
theorem witness_JournalInFlash :
    (let s : State := { at_ full (1000 * msPs) with
       dict := { full.dict with journal := { full.dict.journal with dirty := [Obj.vcoreMax], used := 0xFFF00 } } }
     s.dict.journal.dirty ≠ [] ∧ s.dict.journal.fault = false ∧ s.mayMaster = true ∧ s.dict.journal.began + 1000 * msPs ≤ s.now ∧
       s.dict.journal.used ≠ 0 ∧ s.dict.journal.used + (s.dict.journal.dirty.flatMap s.entryFor).length ≤ 0x100000 ∧ s.worn = []) ∧
      (let s : State := { at_ full (1000 * msPs) with dict := { full.dict with journal := { full.dict.journal with dirty := [Obj.vcoreMax] } } }
       s.dict.journal.dirty ≠ [] ∧ s.dict.journal.fault = false ∧ s.mayMaster = true ∧ s.dict.journal.erasing = false ∧
         s.dict.journal.began + 1000 * msPs ≤ s.now ∧ s.dict.journal.used = 0) ∧
      (let s : State := { full with ser := { full.ser with role := 2 } }
       s.mayMaster = false ∧ s.ser.own = false) ∧
      (let s : State := { s0 with boot := { s0.boot with chosen := true } }
       s.boot.admitted = false ∧ s.boot.chosen = true ∧ s.mayMaster = true) ∧
      ({ full.dict.journal with erasing := true } : Journal).erasing = true := by decide +kernel

/-! ## Witnesses: power, boot, keys, debug, test, serial, DMA -/

theorem witness_Resets :
    (31 : BitVec 6).getLsbD 5 = false ∧ (32 : BitVec 6).getLsbD 5 = true ∧ okW wr Obj.resetCmd 0 1 full = true ∧
      (let b : Boot := { full.boot with due := some (5, 8), trialAt := some 7 }
       b.due = some (5, 8) ∧ 5 ≤ (at_ full 5).now ∧ b.trialAt = some 7) ∧
      (State.at_ s0 Obj.wakeCfg 0 0xFF).wakeSources 15 ≠ 0 ∧ okW wr Obj.ccReset 0 14 full = true ∧
      (let s : State := { s0 with pw := { s0.pw with standby := true } }
       s.pw.standby = true ∧ s.dict.journal.dirty = [] ∧ s.ven.term = [] ∧ ∀ p, p ∈ s.ven.dmx → p.sending = none) := by decide +kernel
/-- A trial of the verified image of slot 0, of key set 0. -/
def imaged : State :=
  let s := State.at_ (State.at_ full Obj.imageVerified 0 1) Obj.bootKind 0 1
  { s with boot := { s.boot with cur := some (0, 1), target := some 1 } }
theorem witness_BootChain :
    (let s := State.at_ s0 Obj.serviceLevel 0 1
     s.level = 1 ∧ s.last.safety = false ∧ s.safe.loaded = false ∧ s.pw.hush = false ∧ s.mayMaster = true) ∧
      (s0.boot.chosen = false ∧ ({ s0.last with safety := true } : Last).safety = true) ∧
      (let b : Boot := { s0.boot with chosen := true, admitted := true, order := [(1, 0)] }
       b.cur = none ∧ b.order = (1, 0) :: [] ∧ b.admitted = true ∧ s0.mayMaster = true) ∧
      (let m (b : Byte) : List Byte := List.replicate 12 0 ++ [1, 0, 0, 0, 1, 0] ++ List.replicate 750 0 ++ sha384 [b]
       0 < manChunks (m 0xFF) ∧ imaged.chunkOk 0 (m 0xFF) 0 = true ∧ imaged.chunkOk 0 (m 0) 0 = false) ∧ imaged.boot.retry = false ∧ imaged.mayMaster = true ∧
      ({ imaged.boot with retry := true } : Boot).retry = true ∧
      (let s : State := { s0 with ser := { s0.ser with selIn := true } }
       s.mayMaster = false ∧ s.ser.own = false) ∧
      okW (imaged.coreWriter 0) Obj.coreRelease 0 14 imaged = true ∧ okW wr Obj.accept 0 1 imaged = true ∧ imaged.boot.cur.isSome = true ∧
      okW wr Obj.keyRevoke 0 6 imaged = true := by decide +kernel
theorem witness_Updates :
    okW wr Obj.updCmd 0 1 full = true ∧ okB wr Obj.updData [1, 2, 3] imaged = true ∧ okW wr Obj.updCmd 0 2 imaged = true ∧
      (let s : State := { imaged with boot := { imaged.boot with validating := some .none } }
       s.boot.validating.isSome = true ∧ s.boot.target.getD s.otherSlot < 2 ∧ s.worn = [] ∧ s.mayMaster = true ∧
         (∀ e, e ∈ s.records → e.2.wseq + 2 < 2 ^ 31) ∧ s.manCode (s.readManifest 1) ≠ 0) ∧
      imaged.boot.target = some 1 ∧ full.worn = [] ∧
      okB wr Obj.safeStageData [1, 2, 3] (State.at_ full Obj.safeStageOffset 0 (safeSize - 3)) = true ∧ okW (full.coreWriter 0) Obj.measExtGo 0 5 full = true ∧
      okW (full.coreWriter 0) Obj.measExtGo 0 7 full = true := by decide +kernel
theorem witness_LifecycleAndKeys :
    okB wr Obj.ownerKeyHash (List.replicate 48 1) s0 = true ∧
      okW wr Obj.lcAdvance 0 3 (State.at_ imaged Obj.lifecycle 0 2) = true ∧ full.misc.thm.length = 4 ∧
      wstatus (full.coreWriter 3) (Obj.thmOp0 + 3) 0 4096 full = St.ok ∧
      (let s : State := { full with misc := { full.misc with thm := [none, none, none, some 64] } }
       s.misc.thm.getD 3 none = some 64) := by decide +kernel
/-- A debug session or none in a lifecycle state, with a challenge read of an empty nonce under the private key 1. -/
def debugging (lc : Nat) (session : Option (Nat × Nat)) : State :=
  let s := State.at_ full Obj.lifecycle 0 lc
  { s with dbg := { s.dbg with asked := some ([], 1), session := session, opened := true } }
theorem witness_DebugPort :
    (let s := trusting (debugging 2 none)
     let key := p384Public 1
     s.dbg.asked = some ([], 1) ∧ s.dbg.session = none ∧ keyRep.chainOk = true ∧ s.tbs.locked = false ∧
       inRoots keyRep.root 8 (s.blob Obj.trustRoots) = true ∧
       ecdsaOk keyRep.leafKey (dbgHash [] 1 key) (ecdsaSign 1 1 (dbgHash [] 1 key)) = true ∧ s.dbgRoleOk keyRep = true) ∧
      (debugging 2 none).mayDebug (.key 4096) = false ∧ (debugging 1 (some (3, 0))).mayDebug (.halt 3) = true ∧
      (debugging 1 (some (3, 0))).mayDebug (.needleX 127 16383) = true ∧
      (debugging 1 (some (3, 0))).mayDebug (.bobWrite 127 524287 1) = true ∧ (debugging 1 (some (3, 0))).dbg.session.isSome = true ∧
      (debugging 1 (some (3, 0))).dbgOpenTo = true ∧ (debugging 1 (some (3, 0))).mayDebug (.pmRead 0x3FFFFFFFF) = true ∧
      (debugging 1 (some (3, 0))).mayDebug (.pmWrite 0 1) = true ∧
      ((debugging 1 none).mayDebug (.halt 3) = true ∧ (debugging 1 none).dbgOpenTo = false) ∧
      60000 * msPs ≤ (at_ (debugging 1 (some (3, 0))) (60000 * msPs)).now ∧
      ({ full.dbg with lockout := some 0 } : Debug).lockout = some 0 ∧ okW wr Obj.debugOpen 0 1 full = true := by decide +kernel
theorem witness_PowerAndTest :
    (let h : State := { full with pw := { full.pw with hush := true } }
     let q : State := { full with pw := { full.pw with queue := [(15, true, 0)], waking := [(15, 0)] } }
     let t : State := State.at_ (State.at_ full Obj.serviceLevel 0 2) Obj.stitchNow 0 4097
     let t : State := { t with pw := { t.pw with testRun := some (1, 0xFFFF, 1), testFirst := some 1 } }
     let z : State := { lit with pw := { lit.pw with hush := true, leaving := true } }
     okW wr Obj.powerCmd 0 0 h = true ∧ okW wr Obj.powerCmd 0 129 full = true ∧
       okW wr Obj.powerCmd 0 130 (State.at_ full Obj.wakeCfg 0 1) = true ∧ q.pw.queue = (15, true, 0) :: [] ∧ q.mayBegin = true ∧ (15, 0) ∈ q.pw.waking ∧
       0 + 4000000 ≤ (at_ q 4000000).now ∧
       okW wr Obj.testCmd 0 (testWord 0xFFFF 6 true 1) full = true ∧ 780 ≤ full.nat Obj.vcoreNow ∧
       okW wr Obj.testCmd 0 (testWord 1 0 true 2) full = true ∧ okW wr Obj.testCmd 0 (testWord 0 0 true 3) full = true ∧
       okW wr Obj.testCmd 0 0 t = true ∧ t.pw.testOver = none ∧ t.level = 2 ∧ t.pw.testFirst = some 1 ∧ 1 + 4096 ≤ t.stitch ∧ z.pleatsReady = true) ∧
      (List.replicate 16 (0 : BitVec 8)).length = 16 := by decide +kernel
theorem witness_SerialPort :
    (let read : List Byte := List.replicate 12 0 ++ [0x10] ++ List.replicate 11 0
     let f (l : List (List Byte)) : State := { full with ser := { full.ser with role := 2, frames := l } }
     (f [read]).ser.role = 2 ∧ (f [read]).ser.used = false ∧ (f [read]).ser.frames.length < 2 ∧ read.length = 24 ∧
       (∀ m, m ∈ (f [read]).ser.frames ++ [read] → clientOps.contains (opcodeOf m) = true) ∧
       clientOps.contains (opcodeOf (List.replicate 24 0)) = false ∧ 2 ≤ (f [read, read]).ser.frames.length ∧ full.ser.role ≠ 2) ∧
      ([1, 2] : List Byte) ≠ beBytes 2 (crc16 (leBytes 2 24 ++ List.replicate 24 0)) ∧
      leNat ((leBytes 2 8193).take 2) = 8193 ∧
      (let r : Reply := ⟨4, 0, 0, 1, 7, 0x10, 1, St.ok, 0, 0, 0, [], []⟩
       ({ full.ursin with serialq := [(true, r)] } : Ursin).serialq = (true, r) :: []) ∧
      wstatus (full.coreWriter 3) Obj.serMGo 3 4096 full = St.ok ∧
      (let s : State := { full with ser := { full.ser with queue := [(3, 4096)] }, pm := [(4096, 1), (4098, 4)] }
       s.mayMaster = true ∧ s.ser.again = none ∧ s.ser.queue = (3, 4096) :: [] ∧ s.serRefused 4096 = false ∧ s.serRefused 0x3FFFFFFFF = true) ∧
      (let x : SerTx := ⟨3, 0, 0, 4, 4096, [6], 0⟩
       let s : State := { full with ser := { full.ser with again := some x, running := some x } }
       s.mayMaster = true ∧ s.ser.again = some x ∧ s.ser.running = some x ∧ flashWrites [2] = true) ∧
      (let s : State := { s0 with boot := { s0.boot with validating := some .none } }
       s.mayMaster = true ∧ s.ser.again = none ∧ s.ser.queue = [] ∧ s.flashWork = true) ∧
      ({ full with ser := { full.ser with selIn := true } } : State).mayMaster = false := by
  decide +kernel
/-- A descriptor that moves 64 bytes from package memory to bobbin 0. -/
def desc : DmaDesc := ⟨0, 0, 2 ^ 63, 64, 0, 0, true, 0⟩
theorem witness_DmaChains :
    full.dma.length = 16 ∧ okW wr Obj.dmaGo 0 15 full = true ∧ dmaAddr (full.nat Obj.dmaDesc 15) = some ⟨none, 0⟩ ∧
      dmaAddr (2 ^ 62) = none ∧ full.dmaIn ⟨none, 0⟩ 32 = true ∧
      (let s : State := { full with dma := List.replicate 15 none ++ [some ⟨desc, 0, false, none⟩], dmaLast := 15,
                                    arb := [{ Arb.start with holder := some 2, up := [2] }, Arb.start] }
       (⟨desc, 0, false, none⟩ : DmaRun).needs = [0] ∧ (s.arbOf 0).serving = some 2 ∧
         (⟨desc, 0, false, none⟩ : DmaRun).fetchedBad true = true ∧ (full.arbOf 0).serving ≠ some 2) ∧
      (let s : State := { full with dma := List.replicate 15 none ++ [some ⟨desc, 0, false, none⟩], dmaLast := 15 }
       s.dmaTurn = some 15 ∧ s.dmaRun 15 = some ⟨desc, 0, false, none⟩ ∧ okW wr Obj.dmaStop 0 15 s = true ∧ s.dma.length = 16 ∧
         (∀ a : DmaAddr, a = ⟨none, 0⟩ ∨ a = ⟨some 0, 0⟩ → s.dmaWaits a = false) ∧ dmaAddr desc.src = some ⟨none, 0⟩ ∧ dmaAddr desc.dst = some ⟨some 0, 0⟩ ∧ s.dmaOwns ⟨none, 0⟩ = true ∧
         s.dmaOwns ⟨some 0, 0⟩ = false ∧ (State.at_ (State.at_ s Obj.bobbinOwner 0 130) Obj.pleatPower 0 1).dmaOwns ⟨some 0, 0⟩ = true) := by
  refine ⟨by decide +kernel, by decide +kernel, by decide +kernel, by decide +kernel, by decide +kernel, by decide +kernel,
    by decide +kernel, by decide +kernel, by decide +kernel, by decide +kernel, fun a h => ?_, by decide +kernel⟩
  rcases h with rfl | rfl <;> decide +kernel

/-! ## Witnesses: Shuttles, TDM, the timebase -/

/-- Both links are up, Shuttle B has an address, receive stream 255 of B runs, and the media count is known. -/
def linked : State :=
  let s := State.at_ (State.at_ (State.at_ (State.at_ full Obj.shLink 0 1) (shObj 1 Obj.shLink) 0 1) (shObj 1 Obj.shIp) 0 77) Obj.shIp 0 76
  let s := State.at_ (State.at_ (State.at_ s (shObj 1 Obj.shRxEnable) 255 1) (shObj 1 Obj.shRxDest) 255 9) (shObj 1 Obj.shRxUdp) 255 5004
  let s := State.at_ (State.at_ s Obj.imageVerified 0 1) (shObj 1 Obj.shTxEnable) 255 1
  { s with tbs := { s.tbs with media := some 1000 } }
/-- No meetings on bobbins leave the state as it is. -/
theorem meets_none (s : State) (e : Nat) : s.meets e [] = s := rfl
/-- A control frame waits on Shuttle B, arrived at 7 ns. -/
def queued (s : State) (k : CtrlKind) : State := s.modShut 1 (fun h => { h with ctrlq := [(k, 7)] })
theorem witness_ShuttleFrames :
    let b := shObj 1 Obj.shLink
    let v := State.at_ linked (shObj 1 Obj.shVlan) 0 0x1FFF
    (linked.sh.length = 2 ∧ linked.nat b ≠ 0 ∧ tagFits linked 1 none = true ∧ (linked.shut 1).ctrlq.length < 2048) ∧
      tagFits v 1 (some 0xFFF) = true ∧ tagFits v 1 none = false ∧ (77 : BitVec 32).toNat = linked.shIp 1 ∧
      (0 : BitVec 32).toNat ≠ linked.shIp 1 ∧
      (let u := State.at_ linked (shObj 1 Obj.shIp) 0 0
       u.shIp 1 = 0 ∧ u.nat b ≠ 0 ∧ tagFits u 1 none = true) ∧ CtrlKind.ursin ≠ .ptpIgnored ∧ FrameKind.other ≠ .control .arp ∧
      (State.at_ linked b 0 0).nat b = 0 ∧ 50000000 ≤ (at_ linked 50000000).now ∧ (State.at_ full Obj.t1sCfg 1 1).bit Obj.t1sCfg 1 0 = true := by decide +kernel
/-- Receive stream 255 of Shuttle B takes one source, and audit configuration 15 watches it. -/
def audited : State :=
  (State.at_ linked (shObj 1 Obj.shAuditCfg) 15 (2 ^ 31 + 2 ^ 16 + 255 * 256 + 255)).modShut 1 (fun h =>
    { h with audit := [⟨255, 65535, 0, 0, [], false⟩] })
theorem witness_MediaPackets :
    (linked.mediaUp 1 = true ∧ linked.shIp 1 ≠ 0 ∧ 3 ≠ linked.shIp 1 ∧
      matching linked 1 9 5005 = [] ∧ matching linked 1 9 5004 = [255] ∧ linked.isAudit 1 255 = false ∧ (linked.rxCfg 1 255).srcs = [] ∧
      (linked.rxCfg 1 255).fits 127 [1, 2, 3] = false ∧
      (linked.rxCfg 1 255).fits (linked.rxCfg 1 255).pt (List.replicate (linked.rxCfg 1 255).payload 0) = true ∧ linked.sh.length = 2 ∧
      (linked.mediaOf linked.writeStitch).isSome = true ∧ (linked.mediaOf linked.stitch).isSome = true ∧
      (linked.rxSt (linked.cfgOf 1) 255).held = false) ∧ full.mediaUp 1 = false ∧
      ((State.at_ linked (shObj 1 Obj.shRxSrc) 1023 5).rxCfg 1 255).srcs = [5] ∧
      ((State.at_ audited (shObj 1 Obj.shRxSrc) 1023 5).isAudit 1 255 = true ∧
        ((State.at_ audited (shObj 1 Obj.shRxSrc) 1023 5).rxCfg 1 255).srcs = [5]) ∧
      (matching audited 1 9 5004 = [255] ∧ audited.auditsOf 1 255 = [15] ∧ audited.mediaUp 1 = true ∧
        (let v := audited.nat (shObj 1 Obj.shAuditCfg) 15
         (audited.shut (bits v 16 16)).audit.find? (fun r => r.stream == bits v 15 8 && r.seq == 65535) = some ⟨255, 65535, 0, 0, [], false⟩) ∧
        crc32 [] = 0) := by decide +kernel
/-- A receive stream of a group. -/
def multicast : State := State.at_ linked (shObj 1 Obj.shRxDest) 255 0xEF000001
theorem witness_ShuttleControl :
    (∃ v, ctrlTaken (queued (State.at_ linked (shObj 1 Obj.shGateway) 0 9) .arp) 1 .arp = some (7, v) ∧ v.shIp 1 = 77 ∧ 77 ≠ 78 ∧
      v.gatewayOf 1 = 9 ∧ v.sh.length = 2) ∧
    (∃ v, ctrlTaken (queued linked .icmp) 1 .icmp = some (7, v) ∧ v.shIp 1 ≠ 0 ∧ (queued linked .icmp).sh.length = 2) ∧
    (∃ v, ctrlTaken (queued multicast .igmp) 1 .igmp = some (7, v) ∧ v.joined 1 ≠ [] ∧ v.shIp 1 ≠ 0) ∧
    (let s : State := (at_ multicast (260000 * msPs)).modShut 1 (fun h => { h with igmpV2 := some 0 })
     s.sh.length = 2 ∧ (s.shut 1).igmpV2 = some 0 ∧ 260000 * msPs ≤ s.now) := by
  refine ⟨⟨_, rfl, ?_⟩, ⟨_, rfl, ?_⟩, ⟨_, rfl, ?_⟩, ?_⟩ <;> decide +kernel
theorem witness_ShuttleSamples :
    (let s := linked
     let q : TxPkt := ⟨1, 2, 3, 3, false, false, []⟩
     let p : State := s.setTx 1 255 { s.txSt 1 255 with ready := [q] }
     let r : AuditRec := ⟨255, 65535, 1, 0, [], false⟩
     let a : State := { s.modShut 1 (fun h => { h with audit := [r] }) with clk := { s.clk with tb := 1000000001 * 2 ^ 32 } }
     let b : State := { s with fab := { s.fab with outBanks := [⟨3, true, [], []⟩] } }
     ((b.paired && (1 : Fin 2).val == 1) = false ∧ b.sh.length = 2 ∧ b.outletOpen 3 = true ∧ b.outletOpen 2 = true ∧
       (b.mediaOf 3).isSome = true ∧ (b.txCfg 1 255).on = true ∧ (b.txSt 1 255).held = false ∧ b.txGated = false ∧
       (b.txSt 1 255).lastRead.all (fun j => decide (j < 2)) = true) ∧
       ((p.paired && (1 : Fin 2).val == 1) = false ∧ (p.txSt 1 255).ready = q :: [] ∧ (p.txCfg 1 255).on = true ∧
         p.txGated = false ∧ p.mayLeave 1 255 q = true ∧ 1 ∈ p.ports 1 ∧ p.mediaUp 1 = true ∧ p.shIp 1 ≠ 0 ∧
         p.bufBusy 1 (p.txSt 1 255).store = false) ∧
       ((s.enabled 1 false).any (fun i => s.bufBusy 1 (s.rxSt 1 i).store) = false) ∧
       (let c := State.at_ (State.at_ (s.setRx 1 255 { RxStream.start with store := some ⟨128, 0, 64⟩ }) Obj.handoverBusy 3 (2 ^ 31))
          Obj.bobbinOwner 127 129
        (c.enabled 1 false).any (fun i => c.bufBusy 1 (c.rxSt 1 i).store) = true) ∧
       a.sh.length = 2 ∧ (a.shut 1).audit.find? (fun r => r.stream == 255 && r.seq == 65535 && decide (r.at_ + 1000000000 < a.tbNs)) = some r) := by
  decide +kernel
theorem witness_StreamSetup :
    okW wr (shObj 1 Obj.shRxEnable) 254 1 linked = true ∧ okW wr (shObj 1 Obj.shTxEnable) 254 1 linked = true ∧
      okW wr (shObj 1 Obj.shRxEnable) 255 0 linked = true ∧ okW wr (shObj 1 Obj.shTxEnable) 255 0 linked = true ∧
      okW wr (shObj 1 Obj.shRxMapCommit) 0 255 linked = true ∧ okW wr (shObj 1 Obj.shTxMapCommit) 0 255 linked = true ∧
      okW wr Obj.shPairMode 0 1 full = true ∧ linked.nat (shObj 1 Obj.shRxEnable) 255 = 1 := by decide +kernel
/-- TDM port 15 in a mode, with its clock running and its last slot received. -/
def tdm (mode : Int) : State :=
  let s := State.at_ (State.at_ full Obj.tdmCfg 15 mode) Obj.tdmRxMapActive 255 8191
  { s with tdm := List.replicate 15 TdmPort.start ++ [⟨1, [], none, false, none, 0, 0⟩] }
theorem witness_TdmPorts :
    (let line : List TdmCycle := ⟨true, false, false⟩ :: List.replicate 511 ⟨false, true, true⟩
     let d := dinBits ((tdm 2).tdmCfg 15) line
     (tdm 2).tdm.length = 16 ∧ 32 * (tdm 2).tdmActive 15 ≤ d.length ∧ d.length < 32 * (tdm 2).tdmActive 15 + 1 ∧
       (dinBits ((tdm 2).tdmCfg 15) []).length < 32 * (tdm 2).tdmActive 15) ∧
      tdmMode ((tdm 2).tdmCfg 15) = 2 ∧ tdmMode ((tdm 1).tdmCfg 15) = 1 ∧ ((tdm 1).port 15).clock = 1 ∧ (tdm 1).pw.hush = false ∧
      ((tdm 1).pllLocked ((tdm 1).pllOf (bits ((tdm 1).tdmCfg 15) 13 12))) = false ∧
      (let s := at_ (tdm 2) (100 * msPs)
       (s.port 15).frameAt * rateHz (s.nat Obj.stitchRate) + 4000000000000 ≤ s.now * rateHz (s.nat Obj.stitchRate)) ∧
      okW wr Obj.tdmMapCommit 0 15 (tdm 2) = true := by decide +kernel
/-- The part follows leader 7 on port 1. -/
def following (tb : Timebase → Timebase) : State :=
  let s := State.at_ (State.at_ (State.at_ full Obj.ptpPortState 0 9) Obj.ptpPortActive 0 1) Obj.ptpLeader 0 7
  let s := State.at_ s (shObj 1 Obj.shIp) 0 77
  queued { s with tbs := tb s.tbs } .ptp
/-- A PTP message of the part's domain, on port 1. -/
def ptpHdr : PtpHdr := ⟨1, 0, 2⟩
theorem witness_PtpFollower :
    (∃ v, ptpMet (following (fun b => { b with sync := some (5, 1, 2), req := some (5, 1), pair := some (2, 3) })) ptpHdr 7 v ∧
      v.fromLeader ptpHdr 7 = true ∧ v.tbs.sync = some ((5 : BitVec 16).toNat, 1, 2) ∧ v.tbs.req = some ((5 : BitVec 16).toNat, 1) ∧
      v.tbs.pair = some (2, 3)) ∧
    (∃ v, ctrlTaken (following id) 1 .ptp = some (7, v) ∧ (⟨1, 0, 1⟩ : PtpHdr).version ≠ 2 ∧ (⟨1, 1, 2⟩ : PtpHdr).domain ≠ v.ptpDomain) ∧
    (following id).nat Obj.ptpPortState = 9 ∧ (following id).tbs.reqAt ≤ (following id).now ∧
    (following id).shIp ((following id).nat Obj.ptpPortActive) ≠ 0 ∧
    (let s := State.at_ (at_ (following id) (8 * logPs (full.obj Obj.ptpIntervals 0))) Obj.tbState 0 2
     s.nat Obj.ptpPortState = 9 ∧ s.nat Obj.tbState ≠ 0 ∧ s.nat Obj.tbState ≠ 3 ∧ s.tbs.offAt + 8 * logPs (s.ptpInterval 0) ≤ s.now) := by
  refine ⟨⟨_, ⟨rfl, ?_⟩, ?_⟩, ⟨_, rfl, ?_⟩, ?_⟩ <;> decide +kernel
theorem of_taken {s : State} {P : State → Bool} (h : (ctrlTaken s 1 .ptp).any (fun x => x.1 == 7 && P x.2) = true) :
    ∃ v, ctrlTaken s 1 .ptp = some (7, v) ∧ P v = true := by
  cases hx : ctrlTaken s 1 .ptp with
  | none => simp [hx] at h
  | some x =>
    simp only [hx, Option.any_some, Bool.and_eq_true, beq_iff_eq] at h
    exact ⟨x.2, by rw [← h.1], h.2⟩
theorem witness_PtpLeaders :
    (∃ v, ctrlTaken { following id with regs := [(2048 * Obj.shMac, 5), (2048 * Obj.ptpPortState, 6), (2048 * Obj.ptpPortActive, 1), (2048 * shObj 1 Obj.shIp, 77)] } 1 .ptp = some (7, v) ∧
      decide (ptpHdr.version = 2 ∧ ptpHdr.domain = v.ptpDomain ∧ (7 : BitVec 64).toNat ≠ v.ownId ∧
        v.nat Obj.ptpPortState = 6 ∧ v.nat Obj.ptpPortActive = ptpHdr.port.val) = true) ∧
    (let s := State.at_ (following id) Obj.ptpPortState 0 6
     s.nat Obj.ptpPortState = 6 ∧ s.shIp (s.nat Obj.ptpPortActive) ≠ 0 ∧ full.shIp (full.nat Obj.ptpPortActive) = 0) ∧
    (following id).nat Obj.ptpPortState ≠ 6 ∧ (following id).leaderHeard = false ∧ (following id).failover.isNone = true ∧
    (State.at_ (following id) Obj.tbRole 0 1).nat Obj.tbRole = 1 ∧ (following id).nat Obj.tbRole ≠ 1 ∧
    (let f : State := State.at_ (State.at_ (following (fun b => { b with foreign := [⟨0, 9, 1, 6, 0, 0, 1, 0, [0, 0]⟩] })) Obj.ptpPortCfg 0 3) Obj.shLink 0 1
     f.leaderHeard = false ∧ f.failover.isSome = true) :=
  ⟨of_taken (by decide +kernel), by decide +kernel⟩
theorem witness_TimebaseSteps :
    (let s : State := { full with tbs := { full.tbs with stepDue := some (-5), freqAt := some 0 } }
     s.tbs.stepDue = some (-5) ∧ s.changePending = false ∧ s.deadlineOf ≠ some s.stitch ∧ s.within 320 = false ∧ msPs ≤ (at_ s msPs).now ∧
       ({ s with fab := { s.fab with due := [.trim] } } : State).changePending = true ∧
       okW wr Obj.tbSet 0 1000 (State.at_ full Obj.ptpPortState 0 6) = true) := by decide +kernel
theorem witness_ReferencesAndClocks :
    full.bit Obj.refStatus 0 0 = true ∧ (State.at_ full Obj.pllStatus 1 1).pllLocked 1 = true ∧
      (let s := State.at_ full Obj.clkState 9 5
       s.nat Obj.clkState 9 = 5 ∧ s.phaseTo 9 (s.obj Obj.clkPhase 9) = s.obj Obj.clkPhase 9) ∧
      (let s : State := { State.at_ full Obj.refStatus 0 (5 + 2 ^ 3) with tbs := { full.tbs with src := 1 } }
       s.tbs.src = 1 ∧ s.bit Obj.refStatus 0 2 = true ∧ s.bit Obj.refStatus 0 3 = true) := by decide +kernel

/-! ## Witnesses: venue ports -/

/-- A data packet of universe 32 768 of the part, from source 5. -/
def sp : SacnPkt := ⟨true, false, 5, 0x8000, 100, 7, false, false, 0, 3, [1, 2]⟩
/-- T1S_B has an address and is in use; universe index 32 767 receives and transmits. -/
def venue : State :=
  let s := State.at_ (State.at_ (State.at_ full Obj.t1sCfg 1 0x7) Obj.t1sIp 1 88) (Obj.univCfg0 + 31) 1023 3
  let s := State.at_ (State.at_ s Obj.t1sTxUniv 16 32767) Obj.shLink 0 1
  { s with blobs := [(Obj.sacnCid, [9])], boot := { s.boot with admitted := true } }
/-- Source 5 is live with number n and what it holds. -/
def sacnLive (n : Nat) (h : Option (Nat × List Byte × Nat × Nat)) : State :=
  { venue with ven := { venue.ven with srcs := [⟨5, 32767, n, 0, 100, h⟩] } }
theorem witness_SacnReception :
    arrivesAt venue 3 .sacn = some venue ∧ sacnGood venue sp 32767 ∧ ({ sp with valid := false } : SacnPkt).valid = false ∧
      ((sacnLive 7 none).sacnSrc? 5 32767).any (fun x => seqOld 7 x.seq) = true ∧ (5 : BitVec 128).toNat ≠ venue.ownCid ∧
      venue.ven.syncs = [] ∧
      ((sacnLive 6 (some (3, [1], 0, 100))).heldFor 5 3).map (fun e => decide (e.2.2.1 + 1000 * msPs ≤ (at_ venue (1000 * msPs)).now)) = [true] ∧
      ((sacnLive 6 none).sacnSrc? 5 32767).any (fun x => decide (x.at_ + 2500 * msPs ≤ (at_ venue (2500 * msPs)).now)) = true := by
  refine ⟨by decide +kernel, ⟨by decide +kernel, by decide +kernel, by decide +kernel, by decide +kernel, by decide +kernel,
    by decide +kernel, by decide +kernel, by decide +kernel, fun x h => ?_, by decide +kernel⟩, ?_⟩
  · exact absurd h (by rw [show venue.sacnSrc? sp.cid.toNat 32767 = none by decide +kernel]; simp)
  · decide +kernel
theorem witness_SacnTransmission :
    venue.atCue (venue.nat Obj.sacnTxHz) = true ∧ venue.ven.cueAt ≠ some venue.stitch ∧ venue.venueGated = false ∧
      32767 ∈ venue.txUnivs ∧ venue.portCarries 3 32767 = true ∧ venue.portUp 3 = true ∧
      (let s : State := { at_ venue (10000 * msPs) with ven := { venue.ven with slow := [(3, 32767)] } }
       s.ven.slow ≠ [] ∧ s.ven.cueTime + 5 * msPs ≤ s.now ∧ s.ven.discAt + 10000 * msPs ≤ s.now) ∧
      venue.txUnivs.filter (venue.portCarries 3) ≠ [] := by decide +kernel
/-- DMX port 7 with DMX_CFG and inner state. -/
def dmx (cfg : Int) (d : DmxPort) : State :=
  let s := State.at_ (at_ full (1250 * msPs)) Obj.dmxCfg 7 cfg
  { s with ven := { s.ven with dmx := List.replicate 7 DmxPort.start ++ [d] } }
/-- The start of a port. -/
def d0 : DmxPort := DmxPort.start
theorem witness_DmxPorts :
    (let s := dmx (1 + 16 * 25) d0
     s.ven.dmx.length = 8 ∧ s.level = 0 ∧ s.venueGated = false ∧ dmxMode (s.dmxCfg 7) = 1 ∧ s.atCue (dmxHz (s.dmxCfg 7)) = true ∧
       (s.dmxPort 7).cueAt ≠ some s.stitch ∧ (s.dmxPort 7).sending = none ∧ (s.dmxPort 7).req = none) ∧
      (let s : State := { State.at_ (dmx 1 d0) Obj.serviceLevel 0 1 with
         safe := { full.safe with since := some 0, table := [(0x1600 - 4 + 3, 1)] } }
       s.level = 1 ∧ s.safe.since.isSome = true ∧ s.pw.hush = false ∧ s.atCue 22 = true ∧ (s.dmxPort 7).cueAt ≠ some s.stitch) ∧
      (let s := State.at_ (dmx 1 d0) Obj.serviceLevel 0 1
       s.ven.dmx.length = 8 ∧ s.level = 1 ∧ s.safe.valid = false ∧ s.atCue 22 = true ∧ (s.dmxPort 7).cueAt ≠ some s.stitch) ∧
      ((dmx 1 { d0 with sending := some 0 }).dmxPort 7).sending = some 0 ∧ dmxMode ((dmx 2 d0).dmxCfg 7) = 2 ∧
      (let f : DmxFrame := ⟨88000, 8000, 0, [1], false, false⟩
       88000 ≤ f.brk ∧ f.brkInSlot = false ∧ f.badStop = false ∧ 8000 ≤ f.mab ∧ f.start = 0) ∧
      ((dmx 2 { d0 with inAt := some 0 }).dmxPort 7).inAt = some 0 ∧ 1250 * msPs ≤ (dmx 2 d0).now := by decide +kernel
/-- A response that stands. -/
def ans : RdmAnswer := ⟨false, false, true, true, 5, 0, 0x60, []⟩
/-- A unicast GET_COMMAND to UID 5. -/
def cmd : List Byte := [0, 0, 0, 0, 0, 5, 0x20, 0, 0x60, 0, 0, 0]
theorem witness_RdmPorts :
    okB wr (Obj.rdmCmd0 + 7) cmd (dmx (5 + 16 * 25) d0) = true ∧ okW wr Obj.rdmDiscover 0 7 (dmx (5 + 16 * 25) d0) = true ∧
      (let s := dmx 5 { d0 with cmd := some cmd }
       (s.dmxPort 7).nextReq = some (.cmd cmd) ∧ s.rdmOn 7 = true ∧ (s.dmxPort 7).sending = none ∧ (s.dmxPort 7).req = none ∧
         bits (s.dmxCfg 7) 23 20 ≤ (s.dmxPort 7).since) ∧
      rdmBroadcast cmd = false ∧ ((dmx 5 { d0 with req := some (.cmd cmd) }).dmxPort 7).req = some (.cmd cmd) ∧
      ((dmx 5 { d0 with req := some (.cmd cmd) }).dmxPort 7).reqEnd ≤ (dmx 5 d0).now ∧
      ((dmx 5 { d0 with req := some (.branch 0 9), disc := some ⟨0, [], none, 255, false⟩ }).dmxPort 7).disc = some ⟨0, [], none, 255, false⟩ ∧
      ans.badBrk = false ∧ ans.badStop = false ∧ ans.formOk = true ∧ ans.csumOk = true ∧ ans.rtype = 0 ∧
      (dmx 5 d0).isStranger 5 = false := by decide +kernel
theorem witness_T1sSegments :
    (State.at_ venue Obj.t1sState 1 3).nat Obj.t1sState 1 = 3 ∧
      (let s := State.at_ (State.at_ venue Obj.t1sState 1 1) Obj.t1sCfg 1 (3 + 64 * 2)
       s.follower 1 = true ∧ s.nat Obj.t1sState 1 = 1) ∧
      venue.bit Obj.t1sCfg 1 0 = true ∧ (88 : BitVec 32).toNat = venue.nat Obj.t1sIp 1 ∧
      (89 ^^^ venue.nat Obj.t1sIp 1) &&& venue.nat Obj.t1sMask 1 = 0 := by decide +kernel
/-- A mapping entry: VCORE_MAX, DIR BOTH, tag i, the address "/a". -/
def entry : List Byte := [0x09, 0x01, 0, 0, 3, 0, 0, 0, 0x2F, 0x61] ++ List.replicate 62 0
/-- Peer 7 is known, with one entry mapped. -/
def oscs : State :=
  let s := State.at_ venue Obj.oscPeers 7 (88 * 65536 + 9000)
  let s := State.at_ s Obj.oscRole 0 3
  { at_ s (60000 * msPs) with ven := { s.ven with map := [(4, entry)], oscAt := List.replicate 7 none ++ [some 0] }, chg := [(0x109, 2)], chgSeq := 2 }
theorem witness_OscMessages :
    arrivesAt oscs 3 .osc = some oscs ∧ oscs.boot.admitted = true ∧ oscs.oscPeer? 87 9000 = none ∧ oscs.oscPeer? 88 9000 = some 7 ∧
      oscs.oscEntry? [0x2F, 0x62] = none ∧ oscs.oscEntry? [0x2F, 0x61] = some entry ∧
      (∃ d, oscs.desc? 0x109 = some d ∧ d.arr = false ∧ d.may 2 (some 3) = true ∧ (∀ up, oscBytes d.ty (.int 800) up = some [0x20, 3]) ∧
        (((oscs.bump Obj.oscRxHem).fresh.2.write1 ⟨.osc 7, some 3, 0⟩ ⟨0x109, 0, 1, d.code, [0x20, 3]⟩).1 = St.ok)) ∧
      oscs.ven.oscAt.getD 7 none = some 0 ∧ 10000 * msPs ≤ (at_ oscs (10000 * msPs)).now ∧ okB wr Obj.oscMapEntry entry venue = true ∧
      oscs.venueGated = false ∧ oscs.ven.map.filter (fun x => decide (2 ≤ oscDir x.2) && oscs.oscDue x.1) = [(4, entry)] ∧
      look (fun _ => 0) oscs.ven.mapLast 4 < look (fun _ => 0) oscs.chg 0x109 ∧ oscs.oscPort? 88 = some 3 ∧
      venue.ven.map.filter (fun x => decide (2 ≤ oscDir x.2) && venue.oscDue x.1) = [] := by
  refine ⟨by decide +kernel, by decide +kernel, by decide +kernel, by decide +kernel, by decide +kernel, by decide +kernel,
    ⟨_, rfl, by decide +kernel, by decide +kernel, ?_, by decide +kernel⟩, ?_⟩
  · intro up; cases up <;> decide +kernel
  · decide +kernel
end Sys2Proof.Tests
end

section
/-!
PROOFS. The state after reset (O43).
-/

namespace Sys2Proof.Machine

open Sys2Proof.Claim

/-- The fields stand as `State.reset` writes them, and the objects read what R4, R72 and R88 give them. -/
theorem reset_values : ResetValues := by
  refine ⟨rfl, rfl, ?_, ?_, ?_, ?_, ?_, ?_, rfl, rfl⟩ <;> decide +kernel

/-- The memories list no byte after reset, so they are in canonical form. -/
theorem reset_memWf : ResetMemoryCanonical := rfl

/-- Settles O43, by evaluating the fields and objects of the state after reset. -/
theorem resetState : Obligations.ResetState := ⟨reset_values, reset_memWf⟩

end Sys2Proof.Machine
end

section
/-!
PROOFS. The elements of the register file, and what an operation keeps of a state: its memories, needles and units, and every
object outside the numbers it writes.
-/

namespace Sys2Proof.Machine

/-- Below 2 048 elements each element of each object has a key of its own. -/
theorem objKey_eq_iff {m j n i : Nat} (hj : j < 2048) (hi : i < 2048) : objKey m j = objKey n i ↔ m = n ∧ j = i := by
  unfold objKey
  omega

/-- t has the memories, the needles and the waiting commands of s, and every object but those of the numbers in W. -/
structure State.Keeps (W : Nat → Prop) (s t : State) : Prop where
  pending : t.pending = s.pending
  ndl : t.ndl = s.ndl
  bob : t.bob = s.bob
  pm : t.pm = s.pm
  flash : t.flash = s.flash
  obj : ∀ m j, ¬ W m → j < 2048 → t.obj m j = s.obj m j

/-- As `Keeps`, and every unit stands as it stood. -/
structure State.KeepsUnits (W : Nat → Prop) (s t : State) extends State.Keeps W s t where
  arb : t.arb = s.arb
  last : t.last = s.last
  fab : t.fab = s.fab
  baste : t.baste = s.baste
  sh : t.sh = s.sh
  ven : t.ven = s.ven
  blobs : t.blobs = s.blobs

namespace State

variable {W V : Nat → Prop} {s t u : State}

theorem Keeps.refl (s : State) : Keeps W s s := ⟨rfl, rfl, rfl, rfl, rfl, fun _ _ _ _ => rfl⟩

theorem KeepsUnits.refl (s : State) : KeepsUnits W s s := ⟨.refl s, rfl, rfl, rfl, rfl, rfl, rfl, rfl⟩

theorem Keeps.trans (h : Keeps W s t) (k : Keeps W t u) : Keeps W s u where
  pending := k.pending.trans h.pending
  ndl := k.ndl.trans h.ndl
  bob := k.bob.trans h.bob
  pm := k.pm.trans h.pm
  flash := k.flash.trans h.flash
  obj m j hm hj := (k.obj m j hm hj).trans (h.obj m j hm hj)

theorem KeepsUnits.trans (h : KeepsUnits W s t) (k : KeepsUnits W t u) : KeepsUnits W s u where
  toKeeps := h.toKeeps.trans k.toKeeps
  arb := k.arb.trans h.arb
  last := k.last.trans h.last
  fab := k.fab.trans h.fab
  baste := k.baste.trans h.baste
  sh := k.sh.trans h.sh
  ven := k.ven.trans h.ven
  blobs := k.blobs.trans h.blobs

theorem Keeps.mono (h : Keeps W s t) (hV : ∀ m, W m → V m) : Keeps V s t :=
  { h with obj := fun m j hm hj => h.obj m j (fun hw => hm (hV m hw)) hj }

theorem KeepsUnits.mono (h : KeepsUnits W s t) (hV : ∀ m, W m → V m) : KeepsUnits V s t :=
  { h with toKeeps := h.toKeeps.mono hV }

/-- What every step of a fold keeps, the fold keeps. -/
theorem Keeps.foldl {α : Type} {f : State → α → State} (l : List α) (h : ∀ t, ∀ a ∈ l, Keeps W t (f t a)) :
    Keeps W s (l.foldl f s) :=
  List.foldlRecOn l f (.refl s) fun t ht a ha => ht.trans (h t a ha)

theorem KeepsUnits.foldl {α : Type} {f : State → α → State} (l : List α) (h : ∀ t, ∀ a ∈ l, KeepsUnits W t (f t a)) :
    KeepsUnits W s (l.foldl f s) :=
  List.foldlRecOn l f (.refl s) fun t ht a ha => ht.trans (h t a ha)

/-! ## The operations on objects -/

theorem setObj_keepsUnits {n i : Nat} (hn : W n) (hi : i < 2048) (s : State) (v : Int) : KeepsUnits W s (s.setObj n i v) := by
  refine ⟨⟨by simp, by simp, by simp, by simp, by simp, fun m j hm hj => s.obj_setObj_ne n i v m j fun h => ?_⟩,
    by simp, by simp, by simp, by simp, by simp, by simp, by simp⟩
  exact hm (((objKey_eq_iff hj hi).mp h).1 ▸ hn)

theorem setNat_keepsUnits {n i : Nat} (hn : W n) (hi : i < 2048) (s : State) (v : Nat) : KeepsUnits W s (s.setNat n i v) :=
  setObj_keepsUnits hn hi s _

/-- A count writes its counter and, past the limit, the OVF bit of its unit (R370). -/
theorem bump_keepsUnits {n i : Nat} (hn : W n) (hi : i < 2048)
    (hovf : ∀ c b, Obj.ovfOf (Obj.canon n) i = some (c, b) → W (n + c - Obj.canon n) ∧ b < 2048) (s : State) (k : Nat) :
    KeepsUnits W s (s.bump n i k) := by
  unfold State.bump
  dsimp only
  split
  · exact setNat_keepsUnits hn hi s _
  · refine (setNat_keepsUnits hn hi s 0xFFFFFFFF).trans ?_
    unfold State.setOvf
    split
    · exact .refl _
    · rename_i c b hcb
      obtain ⟨hw, hb⟩ := hovf c b hcb
      dsimp only
      split
      · split
        · exact setNat_keepsUnits hw (by omega) _ _
        · exact setNat_keepsUnits hw (by omega) _ _
      · exact .refl _

theorem emit_keepsUnits (s : State) (o : Out) : KeepsUnits W s (s.emit o) :=
  ⟨⟨rfl, rfl, rfl, rfl, rfl, fun _ _ _ _ => rfl⟩, rfl, rfl, rfl, rfl, rfl, rfl, rfl⟩

theorem setBlob_keeps (s : State) (n : Nat) (l : List Byte) : Keeps W s (s.setBlob n l) :=
  ⟨by simp, by simp, by simp, by simp, by simp, fun m j _ _ => by simp⟩

/-- An event writes the log alone: its head, its entries, and the count of what was suppressed (R366). -/
theorem log_keeps (hhead : W Obj.evtHead) (hcount : W Obj.evtSuppressedHem) (hovf : W Obj.integCntOvf) (s : State)
    (code a0 a1 a2 reason : Nat) : Keeps W s (s.log code a0 a1 a2 reason) := by
  have hbump (s : State) : Keeps W s (s.bump Obj.evtSuppressedHem) :=
    (bump_keepsUnits hcount (by decide) (by rintro c b ⟨⟩; exact ⟨hovf, by decide⟩) s 1).toKeeps
  have hevts (l : List EvtMark) : Keeps W s { s with evts := l } := ⟨rfl, rfl, rfl, rfl, rfl, fun _ _ _ _ => rfl⟩
  unfold State.log State.logAt
  dsimp only
  split
  · exact (hevts _).trans (hbump _)
  · exact (hevts _).trans ((setNat_keepsUnits (i := 0) hhead (by decide) _ _).toKeeps.trans (setBlob_keeps _ _ _))

end State

end Sys2Proof.Machine
end

section
/-!
PROOFS. What an accepted write of one element leaves: the element's new value, what the owning chapter does beside it, and the
records of the count and of the journal (R240, R252, R256).
-/

namespace Sys2Proof.Machine

/-! ## What a number of the device holds -/

theorem Obj.rowsOf_elements_le (c : Nat) : ∀ d ∈ Obj.rowsOf c, d.n ≤ 2048 := by
  unfold Obj.rowsOf
  split <;> decide

/-- No object of the device has more elements than the register file has keys for a number. -/
theorem Obj.desc?_elements_le {num : Nat} {d : Desc} (h : Obj.desc? num = some d) : d.n ≤ 2048 :=
  Obj.rowsOf_elements_le _ d (List.mem_of_find?_eq_some h)

/-- The record of a number that is no slot and no parameter comes of a row of the object tables. -/
theorem State.desc?_device {num : Nat} {d : ODesc} {s : State} (hslot : isSlot num = false) (hparam : s.param? num = none)
    (h : s.desc? num = some d) :
    ∃ row snap, row.n ≤ 2048 ∧ d = s.descDevice num row snap ∧
      ∀ t : State, t.param? num = none → t.desc? num = some (t.descDevice num row snap) := by
  simp only [State.desc?, hslot, hparam, Bool.false_eq_true, if_false] at h
  split at h
  · rename_i row hrow
    refine ⟨row, false, Obj.desc?_elements_le hrow, (Option.some.inj h).symm, fun t ht => ?_⟩
    simp [State.desc?, hslot, ht, hrow]
  · rename_i hrow
    split at h
    · rename_i hsnap
      obtain ⟨row, hr, rfl⟩ := Option.map_eq_some_iff.mp h
      refine ⟨row, true, Obj.desc?_elements_le hr, rfl, fun t ht => ?_⟩
      simp [State.desc?, hslot, ht, hrow, hsnap, hr]
    · cases h

/-- A device object has the same form in every state, and no more elements than the register file has keys for a number. -/
theorem State.desc?_form {num : Nat} {d : ODesc} {s t : State} (hslot : isSlot num = false) (hs : s.param? num = none)
    (ht : t.param? num = none) (hb : d.ty.isBytes = false) (h : s.desc? num = some d) :
    ∃ e, t.desc? num = some e ∧ e.ty = d.ty ∧ e.arr = d.arr ∧ e.wo = d.wo ∧ e.n ≤ 2048 := by
  obtain ⟨row, snap, hn, rfl, hdesc⟩ := desc?_device hslot hs h
  refine ⟨_, hdesc t ht, rfl, rfl, rfl, ?_⟩
  have hb : row.ty.isBytes = false := hb
  simpa [State.descDevice, hb] using hn

theorem isSlot_of_lt_paramBase {num : Nat} (h : num < paramBase) : isSlot num = false := by
  simp only [isSlot, Bool.and_eq_false_iff, decide_eq_false_iff_not]
  simp only [paramBase, slotBase] at *
  omega

theorem State.param?_of_lt_paramBase {num : Nat} (h : num < paramBase) (s : State) : s.param? num = none := by
  simp [State.param?, h]

/-- The record of a device object's number, below the parameters and slots. -/
theorem State.desc?_of_row {num : Nat} {row : Desc} (h : Obj.desc? num = some row) (hnum : num < paramBase) (s : State) :
    s.desc? num = some (s.descDevice num row false) := by
  simp [State.desc?, isSlot_of_lt_paramBase hnum, State.param?_of_lt_paramBase hnum, h]

theorem Ty.code_lt (t : Ty) : t.code < 0x80 := by
  cases t <;> decide

/-- A TYPE byte holds a type's code whole. -/
theorem ODesc.code_byte (d : ODesc) : (BitVec.ofNat 8 d.code).toNat = d.code := by
  have := d.ty.code_lt
  rw [BitVec.toNat_ofNat]
  refine Nat.mod_eq_of_lt ?_
  unfold ODesc.code
  split <;> omega

theorem leBytes_length (n v : Nat) : (leBytes n v).length = n := by
  induction n generalizing v with
  | zero => rfl
  | succ n ih => simp [leBytes, ih]

theorem Ty.size_pos {t : Ty} (h : t.isBytes = false) : 0 < t.size := by
  revert h
  cases t <;> decide

theorem Ty.encode_length {t : Ty} (v : Int) : (t.encode v).length = t.size := by
  unfold Ty.encode
  split
  · rename_i h
    simp [leBytes_length, h, Ty.size]
  · exact leBytes_length _ _

/-- The bytes of one value count as one element. -/
theorem State.countOf_encode {s : State} {num : Nat} {d : ODesc} (hd : s.desc? num = some d) (hb : d.ty.isBytes = false)
    (v : Int) : s.countOf num (d.ty.encode v).length = 1 := by
  have := Ty.size_pos hb
  simp [State.countOf, hd, hb, Ty.encode_length, Nat.div_self this, Nat.pos_iff_ne_zero.mp this]

/-! ## The count of operations and the journal -/

theorem State.param?_congr {s t : State} (h : t.last = s.last) (num : Nat) : t.param? num = s.param? num := by
  unfold State.param?
  rw [h]

/-- The objects that a write's count of operations may change (R256, R370). -/
def countsOps (num : Nat) : Prop := num = Obj.dictOpsHem ∨ num = Obj.dictCntOvf

theorem isHem_of_countsOps {num : Nat} (h : countsOps num) : isHem num = true := by
  obtain rfl | rfl := h <;> decide

theorem State.countOps_keepsUnits (s : State) (k : Nat) : KeepsUnits countsOps s (s.countOps k) :=
  bump_keepsUnits (.inl rfl) (by decide) (by rintro c b ⟨⟩; exact ⟨.inr rfl, by decide⟩) s k

/-- What a written value makes of an element depends on the element, where bits of it stay, and on needles, copies and the
stitch. -/
theorem State.newVal_congr {s t : State} {num i : Nat} (v : Int) (hndl : t.ndl = s.ndl) (hlast : t.last = s.last)
    (hstitch : t.stitch = s.stitch) (hobj : Obj.writeMask (Obj.canon num) i ≠ none → t.obj num i = s.obj num i) :
    t.newVal num i v = s.newVal num i v := by
  have hheld : t.heldBits num = s.heldBits num := by
    unfold State.heldBits State.piecesOn
    dsimp only
    rw [State.needle_congr s t hndl, hstitch, hlast]
  unfold State.newVal
  split
  · rfl
  · rename_i m hm
    simp only [State.nat, hobj (by simp [hm]), hheld]

theorem State.newVal_countOps {s : State} {num i : Nat} (hi : i < 2048) (k : Nat) (v : Int) :
    (s.countOps k).newVal num i v = s.newVal num i v := by
  have hk := s.countOps_keepsUnits k
  refine newVal_congr v hk.ndl hk.last ?_ fun hmask => hk.obj num i ?_ hi
  · exact congrArg Int.toNat (hk.obj Obj.stitchNow 0 (by unfold countsOps; decide) (by decide))
  · rintro (rfl | rfl) <;> exact hmask rfl

theorem State.markDirty_keepsUnits (s : State) (num : Nat) : KeepsUnits (· = Obj.journalState) s (s.markDirty num) := by
  have hmod (f : Journal → Journal) : KeepsUnits (· = Obj.journalState) s (s.modJournal f) :=
    ⟨⟨rfl, rfl, rfl, rfl, rfl, fun _ _ _ _ => rfl⟩, rfl, rfl, rfl, rfl, rfl, rfl, rfl⟩
  unfold State.markDirty
  dsimp only
  split
  · exact .refl s
  · split
    · exact (hmod _).trans (setNat_keepsUnits (W := (· = Obj.journalState)) rfl (by decide) _ _)
    · exact hmod _

/-- The journal takes note of a change in its own state alone (R252). -/
theorem State.journalled_keepsUnits (s before : State) (num : Nat) :
    KeepsUnits (· = Obj.journalState) s (s.journalled before num) := by
  refine .foldl _ fun t n _ => ?_
  split
  · exact t.markDirty_keepsUnits n
  · exact .refl t

/-! ## An accepted write -/

theorem firstBad_ok {l : List Nat} (h : firstBad l = St.ok) : ∀ x ∈ l, x = St.ok := by
  induction l with
  | nil => simp
  | cons y t ih =>
    unfold firstBad at h
    split at h
    · simpa [‹y = St.ok›] using ih h
    · exact absurd h ‹_›

/-- An accepted write of an object passed the checks of its writer and its form, and leaves what its elements' writes leave,
with the journal's note. -/
theorem State.objWrite_accepted {s : State} {w : Writer} {q : WReq} {after : Nat → Nat → Nat} {d : ODesc}
    (hd : s.desc? q.num = some d) (hb : d.ty.isBytes = false) (h : (s.objWrite w q after).1 = St.ok) :
    d.rightCheck w q = St.ok ∧ d.typeCheck q = St.ok ∧ (s.writeElems w d q.num after q.first (d.values q)).1 = St.ok ∧
      (s.objWrite w q after).2 = (s.writeElems w d q.num after q.first (d.values q)).2.journalled s q.num := by
  simp only [State.objWrite, hd, hb, Bool.false_eq_true, if_false] at h ⊢
  split at h
  next hchecks => exact absurd h hchecks
  next hchecks =>
  split at h
  next helems => exact absurd h helems
  next helems =>
  split at h
  next hmerge => exact absurd h hmerge
  next hmerge =>
  have hall := firstBad_ok (Decidable.not_not.mp hchecks)
  refine ⟨hall _ (.head _), hall _ (.tail _ (.head _)), Decidable.not_not.mp helems, ?_⟩
  rw [if_neg hchecks, if_neg helems, if_neg hmerge]

/-- One element that its chapter's check lets through takes its value, and the chapter's effect follows. -/
theorem State.writeElems_one {s : State} {w : Writer} {d : ODesc} {num i : Nat} {after : Nat → Nat → Nat} {v : Int}
    (h : (s.writeElems w d num after i [v]).1 = St.ok) :
    (s.writeElems w d num after i [v]).2 =
      (s.storeElem w d num i (s.newVal num i v)).chapterEffect w num i (s.obj num i) (s.newVal num i v) [] := by
  simp only [State.writeElems] at h ⊢
  split at h
  next hcheck => exact absurd h hcheck
  next hcheck => rw [if_neg hcheck]

/-- A device object that is read back stores its element in the register file alone. -/
theorem State.storeElem_device {s : State} {w : Writer} {d : ODesc} {num i : Nat} {v : Int} (hslot : isSlot num = false)
    (hparam : s.param? num = none) (hwo : d.wo = false) : s.storeElem w d num i v = s.setObj num i v := by
  simp [State.storeElem, hwo, hslot, hparam]

/-- Only the end of a validation keeps a core's store waiting: any other accepted write ends at once, a core's with its report. -/
theorem State.rowWrite_accepted {s : State} {w : Writer} {q : WReq} (hnum : q.num ≠ Obj.updCmd) (h : (s.write1 w q).1 = St.ok) :
    s.rowWrite w q = (s.write1 w q).2 ∨ ∃ o, s.rowWrite w q = (s.write1 w q).2.emit o := by
  simp only [State.rowWrite]
  split
  · split
    · exact .inl rfl
    · split
      next hval =>
        simp only [Bool.and_eq_true, beq_iff_eq] at hval
        exact absurd hval.1.1.2 hnum
      next => exact .inr ⟨_, if_pos h⟩
  · exact .inl rfl

/-- The write of one element of a device object, by its value. -/
def elementReq (d : ODesc) (num i : Nat) (v : Int) : WReq := ⟨num, i, 1, d.code, d.ty.encode v⟩

/-- What an accepted write of a device object's element makes of the state c: the element's value, and its chapter's effect. -/
def State.wroteElem (c : State) (w : Writer) (num i : Nat) (v : Int) : State :=
  (c.setObj num i (c.newVal num i v)).chapterEffect w num i (c.obj num i) (c.newVal num i v) []

theorem ODesc.values_elementReq {d : ODesc} {num i : Nat} {v : Int} (hb : d.ty.isBytes = false)
    (hval : d.ty.decode (d.ty.encode v) = v) : d.values (elementReq d num i v) = [v] := by
  simp [ODesc.values, elementReq, hb, Ty.decodeAll, hval]

theorem ODesc.first_lt_of_typeCheck {d : ODesc} {num i : Nat} {v : Int} (hb : d.ty.isBytes = false)
    (h : d.typeCheck (elementReq d num i v) = St.ok) : i < d.n := by
  refine Nat.lt_of_not_le fun hi => ?_
  have : d.n < i + 1 := Nat.lt_succ_of_le hi
  simp [ODesc.typeCheck, elementReq, hb, this, St.ok, St.type] at h

/-- An accepted write of one element leaves the element written, with the journal's note. -/
theorem State.objWrite_element {s : State} {w : Writer} {num i : Nat} {v : Int} {after : Nat → Nat → Nat} {d : ODesc}
    (hd : s.desc? num = some d) (hb : d.ty.isBytes = false) (hwo : d.wo = false) (hslot : isSlot num = false)
    (hparam : s.param? num = none) (hval : d.ty.decode (d.ty.encode v) = v)
    (hok : (s.objWrite w (elementReq d num i v) after).1 = St.ok) :
    i < d.n ∧ (s.objWrite w (elementReq d num i v) after).2 = (s.wroteElem w num i v).journalled s num := by
  obtain ⟨-, htype, helems, hres⟩ := objWrite_accepted (q := elementReq d num i v) hd hb hok
  rw [ODesc.values_elementReq hb hval] at helems hres
  refine ⟨ODesc.first_lt_of_typeCheck hb htype, ?_⟩
  rw [hres, writeElems_one helems]
  unfold State.wroteElem
  rw [← storeElem_device (w := w) hslot hparam hwo]
  rfl

/-- An object that no role may write is not written. -/
theorem ODesc.rightCheck_of_readOnly {d : ODesc} (h : ∀ r, d.grants 1 r = false) (w : Writer) (q : WReq) :
    d.rightCheck w q ≠ St.ok := by
  unfold ODesc.rightCheck
  split
  · split <;> decide
  · split
    · rw [h]
      decide
    · decide

/-- No write of an object that every role may read, and none may write, is accepted. -/
theorem State.readOnly_not_written {s : State} {w : Writer} {q : WReq} {after : Nat → Nat → Nat} {row : Desc}
    (hrow : Obj.desc? q.num = some row) (hnum : q.num < paramBase) (hb : row.ty.isBytes = false) (hrd : row.rd = 0x1F)
    (hwr : row.wr = 0) (hwo : row.wo = false) : (s.objWrite w q after).1 ≠ St.ok := by
  have hrights : (s.descDevice q.num row false).rights = deviceRights 0x1F 0 false := by
    simp [State.descDevice, hrd, hwr, hwo]
  have hbits : ∀ r < 5, (deviceRights 0x1F 0 false).testBit (5 * 1 + r) = false := by decide
  have hgrants (r : Nat) : (s.descDevice q.num row false).grants 1 r = false := by
    rw [ODesc.grants, hrights]
    by_cases hr : r < 5
    · simp [hr, hbits r hr]
    · simp [hr]
  intro hok
  exact ODesc.rightCheck_of_readOnly hgrants w q (objWrite_accepted (desc?_of_row hrow hnum s) hb hok).1

/-- What an accepted write of one element makes of the state u: the operation counted, the element written with its
chapter's effect, and the journal's note (R240, R252, R256). -/
def State.Wrote (w : Writer) (num i : Nat) (v : Int) (u t : State) : Prop :=
  i < 2048 ∧ num ≠ Obj.journalState ∧ ∃ k, KeepsUnits (· = Obj.journalState) ((u.countOps k).wroteElem w num i v) t

/-- A row that writes one element of a device object, where the write is accepted. -/
theorem State.rowWrite_wrote {u : State} {w : Writer} {num i : Nat} {v : Int} {d : ODesc} (hd : u.desc? num = some d)
    (hb : d.ty.isBytes = false) (hwo : d.wo = false) (hslot : isSlot num = false) (hparam : u.param? num = none)
    (hupd : num ≠ Obj.updCmd) (hval : d.ty.decode (d.ty.encode v) = v)
    (hok : (u.write1 w (elementReq d num i v)).1 = St.ok) : Wrote w num i v u (u.rowWrite w (elementReq d num i v)) := by
  have hrow := rowWrite_accepted hupd hok
  unfold State.write1 at hok hrow
  generalize u.writeOps (elementReq d num i v) = k at hok hrow
  have hcparam : (u.countOps k).param? num = none := (param?_congr (u.countOps_keepsUnits k).last num).trans hparam
  obtain ⟨e, he, hty, harr, hewo, hn⟩ := desc?_form hslot hparam hcparam hb hd
  have hreq : elementReq d num i v = elementReq e num i v := by simp [elementReq, ODesc.code, hty, harr]
  rw [hreq] at hok hrow ⊢
  rw [← hty] at hb hval
  obtain ⟨hi, hres⟩ := objWrite_element he hb (hewo.trans hwo) hslot hcparam hval hok
  -- JOURNAL_STATE is read only (R257), so the journal's note never meets the element written.
  have hnum : num ≠ Obj.journalState := by
    rintro rfl
    have hrow : Obj.desc? Obj.journalState =
      some ⟨0x2809, 0x2809, .u8, false, 1, 0x1F, 0, false, false, false, false, false, .plain, 0⟩ := rfl
    exact readOnly_not_written (q := elementReq e Obj.journalState i v) hrow (show Obj.journalState < paramBase by decide)
      rfl rfl rfl rfl hok
  refine ⟨Nat.lt_of_lt_of_le hi hn, hnum, k, ?_⟩
  have hnote := ((u.countOps k).wroteElem w num i v).journalled_keepsUnits (u.countOps k) num
  rw [← hres] at hnote
  obtain h | ⟨o, h⟩ := hrow
  · rw [h]
    exact hnote
  · rw [h]
    exact hnote.trans (emit_keepsUnits _ o)

end Sys2Proof.Machine
end

section
/-!
PROOFS. What the owning chapters do beside an accepted write's value: nothing for the numbers that only hold what they are given,
and for the others that act, the objects that the effect writes.
-/

namespace Sys2Proof.Machine

open Sys2Proof.Claim

namespace State

/-! ## Which numbers act -/

/-- The numbers that act on a write, but NDL_TAPE_STATUS and UNIV_CFG, which fill a number for each needle and universe block. -/
def actsElsewhere (num : Nat) : Bool :=
  let among (base k : Nat) : Bool := decide (base ≤ num) && decide (num < base + k)
  isGroupTable num || (shOf num).any (fun e => shActs e.2) || among Obj.ccCommitGo0 4 || among Obj.dictCcSub0 4 ||
    among Obj.dictCcRingBase0 4 || among Obj.dictCcRingLen0 4 || among Obj.ccTackGo0 4 || among Obj.thmOp0 4 ||
    among Obj.rdmCmd0 8 ||
    [Obj.commitCancel, Obj.sessKick, Obj.lcAdvance, Obj.powerCmd, Obj.resetCmd, Obj.ccReset, Obj.testCmd, Obj.debugOpen,
      Obj.rtcNow, Obj.vcoreMin, Obj.placeCmd, Obj.patStageData, Obj.resourceMap, Obj.bobbinMap, Obj.bobbinOwner,
      Obj.tdmMapCommit, Obj.tdmCfg, Obj.ptpProfile, Obj.tbSet, Obj.tbRole, Obj.tbTimeSrc, Obj.ptpPortCfg, Obj.clkCfg,
      Obj.clkPhase, Obj.dmxCfg, Obj.rdmDiscover, Obj.t1sCfg, Obj.dmaGo, Obj.dmaStop, Obj.accept, Obj.keyRevoke, Obj.measExtGo,
      Obj.updCmd, Obj.updData, Obj.safeStageData, Obj.safeWrite, Obj.coreRelease, Obj.serMGo, Obj.oscMapEntry].contains num

/-- The numbers of UNIV_CFG (R276). -/
def isUnivCfg (num : Nat) : Bool := Obj.univCfg0 ≤ num && decide (num < Obj.univCfg0 + 32)

theorem actsOnWrite_eq_false {num : Nat} (h : actsOnWrite num = false) :
    actsElsewhere num = false ∧ Obj.canon num ≠ 0xC001 ∧ isUnivCfg num = false := by
  simp only [actsOnWrite, Bool.or_eq_false_iff, beq_eq_false_iff_ne, ne_eq] at h
  simp only [actsElsewhere, isUnivCfg, h, Bool.or_false, ne_eq, not_false_eq_true, and_self]

/-- Of a number that does not act elsewhere, the write of NDL_TAPE_STATUS shows its pleat and that of UNIV_CFG its universe. -/
theorem chapterEffect_of_not_elsewhere {num : Nat} (h : actsElsewhere num = false) (s : State) (w : Writer) (i : Nat)
    (old v : Int) :
    s.chapterEffect w num i old v [] =
      State.venueEffect (if Obj.canon num = 0xC001 then s.showPleat ((num - 0xC000) / 512) else s) num i old v [] := by
  simp only [actsElsewhere, Bool.or_eq_false_iff, List.contains_cons, List.contains_nil, beq_eq_false_iff_ne, ne_eq] at h
  have hbaste : s.basteEffect w num i old v = s := by simp only [basteEffect, h, Bool.false_eq_true, if_false]
  have hdict : s.dictEffect num v = s := by simp only [dictEffect, h, Bool.false_eq_true, if_false]
  have hlife : s.lifeEffect num old v = if Obj.canon num = 0xC001 then s.showPleat ((num - 0xC000) / 512) else s := by
    simp only [lifeEffect, h, Bool.false_eq_true, if_false]
  have hlast (s : State) : s.lastEffect num i old v [] = s := by simp only [lastEffect, h, if_false]
  have hmem (s : State) : s.memEffect num i old v = s := by simp only [memEffect, h, if_false]
  have hsh (s : State) : s.shEffect num i old v = s := by
    unfold shEffect
    split
    · rfl
    · rename_i sh c hc
      simp only [hc, Option.any_some, shActs, Bool.or_eq_false_iff, List.contains_cons, List.contains_nil,
        beq_eq_false_iff_ne, ne_eq] at h
      simp only [h, Bool.false_eq_true, Bool.or_false, decide_false, if_false]
  have htdm (s : State) : s.tdmEffect num i old v = s := by simp only [tdmEffect, h, if_false]
  have htb (s : State) : s.tbEffect num i old v = s := by simp only [tbEffect, h, if_false]
  have hdma (s : State) : s.dmaEffect num v = s := by simp only [dmaEffect, h, if_false]
  have hboot (s : State) : s.bootEffect num i old v [] = s := by simp only [bootEffect, h, if_false]
  simp only [chapterEffect, hbaste, hdict, hlife, hlast, hmem, hsh, htdm, htb, hdma, hboot, h, if_false]

/-- In the venue's chapter such a number acts as UNIV_CFG alone. -/
theorem venueEffect_of_not_elsewhere {num : Nat} (h : actsElsewhere num = false) (s : State) (i : Nat) (old v : Int) :
    s.venueEffect num i old v [] =
      if isUnivCfg num then s.univEffect (1024 * (num - Obj.univCfg0) + i) old.toNat v.toNat else s := by
  simp only [actsElsewhere, Bool.or_eq_false_iff, List.contains_cons, List.contains_nil, beq_eq_false_iff_ne, ne_eq] at h
  simp only [venueEffect, h, Bool.false_eq_true, if_false]
  rfl

/-- A write of a number that acts on nothing has no effect beside its value. -/
theorem chapterEffect_of_not_acts {num : Nat} (h : actsOnWrite num = false) (s : State) (w : Writer) (i : Nat) (old v : Int) :
    s.chapterEffect w num i old v [] = s := by
  obtain ⟨helse, htape, huniv⟩ := actsOnWrite_eq_false h
  rw [chapterEffect_of_not_elsewhere helse, if_neg htape, venueEffect_of_not_elsewhere helse, huniv, if_neg Bool.false_ne_true]

/-! ## The numbers whose writes act -/

section
variable (s : State) (w : Writer) (i : Nat) (old v : Int)

theorem chapterEffect_vcoreMin : s.chapterEffect w Obj.vcoreMin i old v [] =
    if old < v && decide (s.nat Obj.vcoreNow < s.vcoreLow) then s.setVcore s.vcoreLow else s := rfl

theorem chapterEffect_clkPhase : s.chapterEffect w Obj.clkPhase i old v [] = s.phaseEffect i old v := rfl

theorem chapterEffect_tdmCfg :
    s.chapterEffect w Obj.tdmCfg i old v [] = if s.tdmSafe || old = v then s else s.restartPort i := rfl

theorem chapterEffect_dmxCfg : s.chapterEffect w Obj.dmxCfg i old v [] = s.dmxEffect i old.toNat v.toNat := rfl

theorem chapterEffect_resourceMap :
    s.chapterEffect w Obj.resourceMap i old v [] = s.resourceMapEffect i old.toNat v.toNat := rfl

theorem chapterEffect_ptpProfile : s.chapterEffect w Obj.ptpProfile i old v [] = s.profileDefaults v.toNat := rfl

theorem chapterEffect_univCfg (k : Fin 32) :
    s.chapterEffect w (Obj.univCfg0 + k.val) i old v [] = s.univEffect (1024 * k.val + i) old.toNat v.toNat := by
  have helse : actsElsewhere (Obj.univCfg0 + k.val) = false := by revert k; decide
  have htape : Obj.canon (Obj.univCfg0 + k.val) ≠ 0xC001 := by revert k; decide
  have huniv : isUnivCfg (Obj.univCfg0 + k.val) = true := by revert k; decide
  rw [chapterEffect_of_not_elsewhere helse, if_neg htape, venueEffect_of_not_elsewhere helse, if_pos huniv,
    Nat.add_sub_cancel_left]

theorem chapterEffect_tapeStatus (n : Fin 128) :
    s.chapterEffect w (ndlObj n.val 1) i old v [] = s.showPleat (n.val / 8) := by
  have helse : actsElsewhere (ndlObj n.val 1) = false := by revert n; decide
  have htape : Obj.canon (ndlObj n.val 1) = 0xC001 := by revert n; decide
  have huniv : ¬ isUnivCfg (ndlObj n.val 1) = true := by revert n; decide
  have hpleat : (ndlObj n.val 1 - 0xC000) / 512 = n.val / 8 := by
    unfold ndlObj
    omega
  rw [chapterEffect_of_not_elsewhere helse, if_pos htape, venueEffect_of_not_elsewhere helse, if_neg huniv, hpleat]

end

/-! ## What the effects keep -/

variable {W : Nat → Prop}

theorem modTb_keeps (s : State) (f : Timebase → Timebase) : Keeps W s (s.modTb f) :=
  ⟨rfl, rfl, rfl, rfl, rfl, fun _ _ _ _ => rfl⟩

theorem modPort_keeps (s : State) (p : Nat) (f : TdmPort → TdmPort) : Keeps W s (s.modPort p f) :=
  ⟨rfl, rfl, rfl, rfl, rfl, fun _ _ _ _ => rfl⟩

theorem modVen_keeps (s : State) (f : Venue → Venue) : Keeps W s (s.modVen f) :=
  ⟨rfl, rfl, rfl, rfl, rfl, fun _ _ _ _ => rfl⟩

theorem modDict_keeps (s : State) (f : Dict → Dict) : Keeps W s (s.modDict f) :=
  ⟨rfl, rfl, rfl, rfl, rfl, fun _ _ _ _ => rfl⟩

theorem setNat_keeps {n i : Nat} (hn : W n) (hi : i < 2048) (s : State) (v : Nat) : Keeps W s (s.setNat n i v) :=
  (setNat_keepsUnits hn hi s v).toKeeps

theorem Keeps.ite {c : Prop} [Decidable c] {s a b : State} (ha : Keeps W s a) (hb : Keeps W s b) :
    Keeps W s (if c then a else b) := by
  split
  · exact ha
  · exact hb

/-- The needles of a pleat show their states (R86). -/
theorem showPleat_keeps (hW : ∀ n, W (ndlObj n 0)) (s : State) (p : Nat) : Keeps W s (s.showPleat p) :=
  .foldl _ fun t n _ => setNat_keeps (hW n) (by decide) t _

/-- The regulator is asked for a voltage, which stands when it has answered (R87). -/
theorem setVcore_keeps (s : State) (mv : Nat) : Keeps W s (s.setVcore mv) := by
  unfold setVcore
  split
  · exact .refl s
  · exact ⟨rfl, rfl, rfl, rfl, rfl, fun _ _ _ _ => rfl⟩

theorem phaseEffect_keeps (hW : W Obj.clkState) {i : Nat} (hi : i < 2048) (s : State) (old v : Int) :
    Keeps W s (s.phaseEffect i old v) := by
  unfold phaseEffect
  dsimp only
  split
  · exact (modTb_keeps s _).trans (setNat_keeps hW hi _ _)
  · exact .refl s

theorem showPort_keeps (hW : W Obj.tdmState) {p : Nat} (hp : p < 2048) (s : State) : Keeps W s (s.showPort p) :=
  setNat_keeps hW hp s _

section
variable (hstate : W Obj.tdmState) (hhead : W Obj.evtHead) (hcount : W Obj.evtSuppressedHem) (hovf : W Obj.integCntOvf)
  {p : Nat} (hp : p < 2048)
include hstate hhead hcount hovf hp

theorem loseClock_keeps (s : State) (c : Nat) : Keeps W s (s.loseClock p c) := by
  unfold loseClock
  split
  · exact .refl s
  · exact (modPort_keeps s p _).trans <| (showPort_keeps hstate hp _).trans <|
      (log_keeps hhead hcount hovf _ 0x42 p c 0 0).trans (emit_keepsUnits _ _).toKeeps

theorem checkMaster_keeps (s : State) : Keeps W s (s.checkMaster p) := by
  unfold checkMaster
  dsimp only
  have hlost (c : Nat) := loseClock_keeps hstate hhead hcount hovf hp s c
  exact .ite (.refl s) (.ite (hlost 3) (.ite (hlost 2) (.refl s)))

theorem startPort_keeps (s : State) : Keeps W s (s.startPort p) := by
  have hshown (t : State) : Keeps W t ((t.checkMaster p).showPort p) :=
    (checkMaster_keeps hstate hhead hcount hovf hp t).trans (showPort_keeps hstate hp _)
  unfold startPort
  dsimp only
  exact .ite ((modPort_keeps s p _).trans (showPort_keeps hstate hp _))
    (.ite (hshown s) ((modPort_keeps s p _).trans (hshown _)))

theorem restartPort_keeps (s : State) : Keeps W s (s.restartPort p) :=
  (modPort_keeps s p _).trans (startPort_keeps hstate hhead hcount hovf hp _)

end

theorem stopRdm_keeps (hW : W Obj.rdmDiscState) {p : Nat} (hp : p < 2048) (s : State) : Keeps W s (s.stopRdm p) := by
  have hanswer (l : List Byte) : Keeps W s (s.answerCmd p l) := (modVen_keeps s _).trans (setBlob_keeps _ _ _)
  have hdisc (t : State) (b : Bool) : Keeps W t (if b then t.setNat Obj.rdmDiscState p 0 else t) := by
    cases b
    · exact .refl t
    · exact setNat_keeps hW hp t 0
  unfold stopRdm
  dsimp only
  cases (s.dmxPort p).cmd with
  | none => exact (hdisc s _).trans (modVen_keeps _ _)
  | some l => exact (hanswer _).trans ((hdisc _ _).trans (modVen_keeps _ _))

/-- A DMX port's new mode ends what the old one had begun (R284, R289). -/
theorem dmxEffect_keeps (hstate : W Obj.dmxState) (hdisc : W Obj.rdmDiscState) {p : Nat} (hp : p < 2048) (s : State)
    (old new : Nat) : Keeps W s (s.dmxEffect p old new) := by
  unfold dmxEffect
  dsimp only
  refine .ite (.refl s) (.trans ?_ (setNat_keeps hstate hp _ _))
  exact .ite ((stopRdm_keeps hdisc hp s).trans (modVen_keeps _ _)) (.refl s)

theorem changePolicy_keeps (hW : W Obj.slotSrcUsed) (s : State) (u : Nat) : Keeps W s (s.changePolicy u) := by
  have hnums (l : List Nat) (s : State) : Keeps W s (l.foldl (fun s n => s.setContribs n []) s) :=
    .foldl l fun t n _ => modDict_keeps t _
  have hheld (l : List Nat) (s : State) : Keeps W s (l.foldl (fun s n => s.setHolder n none) s) :=
    .foldl l fun t n _ => modDict_keeps t _
  exact (hnums _ s).trans ((hheld _ _).trans (setNat_keeps hW (by decide) _ _))

/-- A universe's new settings are counted, and a new policy drops what its sources had given (R276). -/
theorem univEffect_keeps (hrx : W Obj.sacnRxUsed) (htx : W Obj.sacnTxUsed) (hsrc : W Obj.slotSrcUsed) (s : State)
    (u old new : Nat) : Keeps W s (s.univEffect u old new) := by
  have hdelta {n : Nat} (hn : W n) (t : State) (b c : Bool) (x y : Nat) :
      Keeps W t (if b then t.setNat n 0 x else if c then t.setNat n 0 y else t) :=
    .ite (setNat_keeps hn (by decide) t x) (.ite (setNat_keeps hn (by decide) t y) (.refl t))
  unfold univEffect
  dsimp only
  refine .ite (.trans ?_ (changePolicy_keeps hsrc _ u)) ?_ <;>
    refine .ite (.trans ?_ (modVen_keeps _ _)) (.ite (.trans ?_ (modVen_keeps _ _)) ?_) <;>
    exact (hdelta hrx s _ _ _ _).trans (hdelta htx _ _ _ _ _)

theorem request_keeps (hhead : W Obj.evtHead) (hcount : W Obj.evtSuppressedHem) (hovf : W Obj.integCntOvf) (s : State)
    (reason arg : Nat) : Keeps W s (s.request reason arg) := by
  unfold request
  split
  · exact .foldl _ fun t c _ => log_keeps hhead hcount hovf t _ _ _ _ _
  · exact ⟨rfl, rfl, rfl, rfl, rfl, fun _ _ _ _ => rfl⟩

/-- The needles that the resource map newly bars are asked to be left (R138). -/
theorem resourceMapEffect_keeps (hhead : W Obj.evtHead) (hcount : W Obj.evtSuppressedHem) (hovf : W Obj.integCntOvf) (s : State)
    (e old new : Nat) : Keeps W s (s.resourceMapEffect e old new) := by
  refine .foldl _ fun t i _ => ?_
  split
  · exact request_keeps hhead hcount hovf t _ _
  · exact .refl t

/-- The placed pattern and its copies stand. -/
def SamePlacement (s t : State) : Prop := t.last.pat = s.last.pat ∧ t.last.copies = s.last.copies

theorem SamePlacement.refl (s : State) : SamePlacement s s := ⟨rfl, rfl⟩

theorem SamePlacement.trans {s t u : State} (h : SamePlacement s t) (k : SamePlacement t u) : SamePlacement s u :=
  ⟨k.1.trans h.1, k.2.trans h.2⟩

/-- A request waits for its decision at a later strobe. -/
theorem request_samePlacement (s : State) (reason arg : Nat) : SamePlacement s (s.request reason arg) := by
  unfold request
  split
  · exact List.foldlRecOn (motive := SamePlacement s) _ _ (.refl s) fun t ht c _ => ht.trans ⟨by simp, by simp⟩
  · exact ⟨rfl, rfl⟩

theorem resourceMapEffect_samePlacement (s : State) (e old new : Nat) : SamePlacement s (s.resourceMapEffect e old new) := by
  refine List.foldlRecOn (motive := SamePlacement s) _ _ (.refl s) fun t ht i _ => ?_
  split
  · exact ht.trans (request_samePlacement t _ _)
  · exact ht

/-- A profile gives the domain, the intervals and the timeout their defaults (R211). -/
theorem profileDefaults_keeps (hdomain : W Obj.ptpDomain) (hints : W Obj.ptpIntervals) (htimeout : W Obj.ptpAnnTimeout)
    (s : State) (p : Nat) : Keeps W s (s.profileDefaults p) := by
  have hlen : (profileSet p).2.length = 3 := by
    unfold profileSet
    split <;> rfl
  have hfold (t : State) : Keeps W t ((profileSet p).2.zipIdx.foldl (fun s e => s.setObj Obj.ptpIntervals e.2 e.1) t) :=
    .foldl _ fun t e he => (setObj_keepsUnits hints (by have := List.snd_lt_of_mem_zipIdx he; omega) t _).toKeeps
  exact (setNat_keeps hdomain (by decide) s _).trans ((hfold _).trans (setNat_keeps htimeout (by decide) _ _))

end State

end Sys2Proof.Machine
end

section
/-!
PROOFS. What an accepted write leaves in its object (O46): the element's value, and what stays.
-/

namespace Sys2Proof.Machine

open Sys2Proof.Claim

/-! ## Values and their bytes -/

theorem leNat_leBytes (n v : Nat) : leNat (leBytes n v) = v % 256 ^ n := by
  induction n generalizing v with
  | zero => simp [leBytes, leNat, Nat.mod_one]
  | succ n ih =>
    rw [Nat.pow_succ', Nat.mod_mul, leBytes, leNat, ih, BitVec.toNat_ofNat]

/-- A value's bytes stand for it modulo the type's size, as the type signs it (R265). -/
theorem Ty.decode_encode_eq {t : Ty} (ht : t ≠ .time) (v : Int) : t.decode (t.encode v) =
    let n := (v % 2 ^ (8 * t.size)).toNat
    if t.signed && decide (2 ^ (8 * t.size - 1) ≤ n) then Int.ofNat n - 2 ^ (8 * t.size) else Int.ofNat n := by
  have hpow : (256 : Nat) ^ t.size = 2 ^ (8 * t.size) := by rw [Nat.pow_mul]
  have hlt : (v % 2 ^ (8 * t.size)).toNat < 2 ^ (8 * t.size) := by
    have hp : (0 : Int) < 2 ^ (8 * t.size) := Int.pow_pos (by decide)
    rw [Int.toNat_lt (Int.emod_nonneg v (Int.ne_of_gt hp)), Int.natCast_pow]
    exact Int.emod_lt_of_pos v hp
  have hle : leNat ((t.encode v).take t.size) = (v % 2 ^ (8 * t.size)).toNat := by
    rw [List.take_of_length_le (Nat.le_of_eq (Ty.encode_length v))]
    simp only [Ty.encode, ht, if_false]
    rw [leNat_leBytes, hpow, Nat.mod_eq_of_lt hlt]
  simp only [Ty.decode, ht, if_false, hle]

theorem Ty.decode_encode_unsigned {t : Ty} (ht : t ≠ .time) (hs : t.signed = false) {n : Nat} (hn : n < 2 ^ (8 * t.size)) :
    t.decode (t.encode n) = n := by
  rw [Ty.decode_encode_eq ht]
  simp only [hs, Bool.false_and, Bool.false_eq_true, if_false]
  norm_cast
  rw [Nat.mod_eq_of_lt hn]
  rfl

theorem Ty.decode_encode_u8 (v : BitVec 8) : Ty.u8.decode (Ty.u8.encode v.toNat) = v.toNat :=
  decode_encode_unsigned (by decide) rfl v.isLt

theorem Ty.decode_encode_u16 (v : BitVec 16) : Ty.u16.decode (Ty.u16.encode v.toNat) = v.toNat :=
  decode_encode_unsigned (by decide) rfl v.isLt

theorem Ty.decode_encode_u32 (v : BitVec 32) : Ty.u32.decode (Ty.u32.encode v.toNat) = v.toNat :=
  decode_encode_unsigned (by decide) rfl v.isLt

theorem Ty.decode_encode_i16 (v : BitVec 16) : Ty.i16.decode (Ty.i16.encode v.toInt) = v.toInt := by
  have hlo : -32768 ≤ v.toInt := v.le_toInt
  have hhi : v.toInt < 32768 := v.toInt_lt
  rw [Ty.decode_encode_eq (by decide)]
  change (if (true && decide (32768 ≤ (v.toInt % 65536).toNat)) = true then Int.ofNat (v.toInt % 65536).toNat - 65536
    else Int.ofNat (v.toInt % 65536).toNat) = v.toInt
  simp only [Bool.true_and, decide_eq_true_eq, Int.ofNat_eq_natCast]
  split <;> omega

/-! ## Bits that a 1 clears -/

/-- Subtracting some of a number's own bits clears them. -/
theorem testBit_sub_and (x y b : Nat) : (x - (x &&& y)).testBit b = (x.testBit b && !y.testBit b) := by
  induction b generalizing x y with
  | zero =>
    have hle : x &&& y ≤ x := Nat.and_le_left
    have hmod := Nat.and_mod_two_eq_one (a := x) (b := y)
    rw [Bool.eq_iff_iff]
    simp only [Nat.testBit_zero, Bool.and_eq_true, Bool.not_eq_true', decide_eq_true_eq, decide_eq_false_iff_not]
    omega
  | succ b ih =>
    have hle : x &&& y ≤ x := Nat.and_le_left
    have hdiv : (x &&& y) / 2 = x / 2 &&& y / 2 := Nat.and_div_two
    have hmod : (x &&& y) % 2 ≤ x % 2 := by
      have := Nat.and_mod_two_eq_one (a := x) (b := y)
      omega
    rw [Nat.testBit_succ, Nat.testBit_succ, Nat.testBit_succ, show (x - (x &&& y)) / 2 = x / 2 - (x &&& y) / 2 by omega, hdiv, ih]

/-- A 1 written clears a writable bit that is not held set; every other bit stays (R7, R8, R37, R86). -/
theorem State.testBit_newVal_w1c {num i m : Nat} (hm : Obj.writeMask (Obj.canon num) i = some m)
    (hw : Obj.isW1C (Obj.canon num) = true) (s : State) (v : Int) (b : Nat) :
    (s.newVal num i v).toNat.testBit b =
      (s.bit num i b && !(v.toNat.testBit b && m.testBit b && !(s.heldBits num).testBit b)) := by
  have hsub (x y z : Nat) : (x &&& y) - (x &&& y &&& z) = x &&& ((x &&& y) - (x &&& y &&& z)) := by
    refine Nat.eq_of_testBit_eq fun k => ?_
    rw [Nat.testBit_and, testBit_sub_and, Nat.testBit_and]
    cases x.testBit k <;> simp
  simp only [State.newVal, hm, hw, if_true, Int.ofNat_eq_natCast, Int.toNat_natCast, State.bit]
  rw [Nat.and_assoc (s.nat num i), hsub, testBit_sub_and, testBit_sub_and]
  simp only [Nat.testBit_and]
  cases (s.nat num i).testBit b <;> simp
/-! ## What an accepted write keeps -/

namespace State

variable {w : Writer} {num i : Nat} {v : Int} {u t : State} {W : Nat → Prop}

/-- Where the chapter's effect leaves the number alone, the element holds the written value as its masks pass it. -/
theorem Wrote.stored (h : Wrote w num i v u t)
    (heff : ∀ (c : State) (old new : Int), Keeps W c (c.chapterEffect w num i old new [])) (hW : ¬ W num) :
    Stored num i v u t := by
  obtain ⟨hi, hnum, k, hk⟩ := h
  calc t.obj num i
    _ = ((u.countOps k).wroteElem w num i v).obj num i := hk.obj num i hnum hi
    _ = ((u.countOps k).setObj num i ((u.countOps k).newVal num i v)).obj num i := (heff _ _ _).obj num i hW hi
    _ = (u.countOps k).newVal num i v := obj_setObj_self _ _ _ _
    _ = u.newVal num i v := newVal_countOps hi k v

/-- The objects that a write changes beside its own element: the count of operations, the journal's state, and what the
chapter's effect writes. -/
def besides (W : Nat → Prop) (m : Nat) : Prop := countsOps m ∨ m = Obj.journalState ∨ W m

theorem Wrote.keeps (h : Wrote w num i v u t)
    (heff : ∀ (c : State) (old new : Int), Keeps W c (c.chapterEffect w num i old new [])) :
    Keeps (besides fun m => m = num ∨ W m) u t := by
  obtain ⟨hi, -, k, hk⟩ := h
  have hcount := (u.countOps_keepsUnits k).toKeeps.mono (V := besides fun m => m = num ∨ W m) fun m hm => .inl hm
  have hset := (setObj_keepsUnits (W := besides fun m => m = num ∨ W m) (.inr (.inr (.inl rfl))) hi (u.countOps k)
    ((u.countOps k).newVal num i v)).toKeeps
  have heffect := (heff ((u.countOps k).setObj num i ((u.countOps k).newVal num i v)) ((u.countOps k).obj num i)
    ((u.countOps k).newVal num i v)).mono (V := besides fun m => m = num ∨ W m) fun m hm => .inr (.inr (.inr hm))
  exact hcount.trans <| hset.trans <| heffect.trans <| hk.toKeeps.mono fun m hm => .inr (.inl hm)

theorem Wrote.keepsUnits (h : Wrote w num i v u t) (hacts : actsOnWrite num = false) :
    KeepsUnits (besides (· = num)) u t := by
  obtain ⟨hi, -, k, hk⟩ := h
  rw [wroteElem, chapterEffect_of_not_acts hacts] at hk
  have hcount := (u.countOps_keepsUnits k).mono (V := besides (· = num)) fun m hm => .inl hm
  have hset := setObj_keepsUnits (W := besides (· = num)) (.inr (.inr rfl)) hi (u.countOps k)
    ((u.countOps k).newVal num i v)
  exact hcount.trans <| hset.trans <| hk.mono fun m hm => .inr (.inl hm)

theorem Wrote.stored_of_not_acts (h : Wrote w num i v u t) (hacts : actsOnWrite num = false) : Stored num i v u t :=
  h.stored (W := fun _ => False) (fun c old new => by rw [chapterEffect_of_not_acts hacts]; exact .refl c) id

/-- Where nothing acts, the element written is the only one of its object that changes. -/
theorem Wrote.obj_of_not_acts (h : Wrote w num i v u t) (hacts : actsOnWrite num = false) {m j : Nat} (hj : j < 2048)
    (hm : ¬ countsOps m) (hnote : m ≠ Obj.journalState) (hne : m ≠ num ∨ j ≠ i) : t.obj m j = u.obj m j := by
  obtain ⟨hi, -, k, hk⟩ := h
  rw [wroteElem, chapterEffect_of_not_acts hacts] at hk
  have hkey : objKey m j ≠ objKey num i := by
    rw [Ne, objKey_eq_iff hj hi]
    omega
  rw [hk.obj m j hnote hj, obj_setObj_ne _ _ _ _ _ _ hkey, (u.countOps_keepsUnits k).obj m j hm hj]

end State

theorem isSlot_of_not_acts {num : Nat} (h : actsOnWrite num = false) : isSlot num = false := by
  simp only [actsOnWrite, Bool.or_eq_false_iff] at h
  simp only [h]

theorem ne_updCmd_of_not_acts {num : Nat} (h : actsOnWrite num = false) : num ≠ Obj.updCmd := by
  rintro rfl
  exact absurd h (by decide)

/-- An accepted OBJECT_WRITE of one element of an object that only holds what it is given. -/
theorem objectWriteStores : ObjectWriteStores := by
  intro dt w num i v d s hrun u q hd hb hwo hparam hacts hval hok
  have hw : State.Wrote w num.toNat i.toNat v u (u.rowWrite w q) :=
    State.rowWrite_wrote hd hb hwo (isSlot_of_not_acts hacts) hparam (ne_updCmd_of_not_acts hacts) hval hok
  have hk := hw.keepsUnits hacts
  refine ⟨u.rowWrite w q, ?_, hw.stored_of_not_acts hacts, hk.ndl, hk.arb, hk.bob, hk.pm, hk.flash, hk.last, hk.fab, hk.baste,
    hk.sh, hk.ven, hk.blobs, fun m j hj hhem hstate _ hne => ?_⟩
  · change execObjectWrite dt w num i _ _ s = _
    rw [execObjectWrite, whenRunning_running _ _ _ hrun, State.countOf_encode hd hb, ODesc.code_byte]
  · refine hw.obj_of_not_acts hacts hj (fun hm => ?_) hstate hne
    rw [isHem_of_countsOps hm] at hhem
    cases hhem

end Sys2Proof.Machine
end

section
/-!
PROOFS. The rows of the command table that write one element, and the two halves of O46 put together.
-/

namespace Sys2Proof.Machine

open Sys2Proof.Claim

theorem writes_imp {c : Instr} {dt : Nat} {w : Writer} {num i : Nat} {v : Int} {P Q : State → State → Prop}
    (h : Writes c dt w num i v P) (hPQ : ∀ u t, P u t → Q u t) : Writes c dt w num i v Q := fun s hrun hok => by
  obtain ⟨t, ht, hP⟩ := h s hrun hok
  exact ⟨t, ht, hPQ _ _ hP⟩

/-- A row that writes one element of a device object, by its number, makes of the state what an accepted write makes of it. -/
theorem writes_wrote {c : Instr} {dt : Nat} {w : Writer} {num i : Nat} {v : Int} {ty : Ty}
    (hexec : ∀ s, exec c s = writeRow dt w num i v s)
    (hform : (Obj.desc? num).map (fun d => (d.ty, d.wo)) = some (ty, false)) (hnum : num < paramBase)
    (hb : ty.isBytes = false) (hupd : num ≠ Obj.updCmd) (hval : ty.decode (ty.encode v) = v) :
    Writes c dt w num i v (State.Wrote w num i v) := by
  intro s hrun hok
  obtain ⟨row, hrow, hform⟩ := Option.map_eq_some_iff.mp hform
  obtain ⟨rfl, hwo⟩ := Prod.mk.inj hform
  have hd := State.desc?_of_row hrow hnum (tick dt s)
  have hreq : (tick dt s).elemReq num i v = elementReq ((tick dt s).descDevice num row false) num i v := by
    simp [State.elemReq, hd, elementReq]
  rw [wstatus, hreq] at hok
  refine ⟨_, ?_, State.rowWrite_wrote hd hb hwo (isSlot_of_lt_paramBase hnum) (State.param?_of_lt_paramBase hnum _) hupd
    hval hok⟩
  rw [hexec, writeRow, whenRunning_running _ _ _ hrun, hreq]

/-- The element takes the value, and the memories and the waiting commands stand. -/
def StoredAlone (num i : Nat) (v : Int) (u t : State) : Prop :=
  Stored num i v u t ∧ t.bob = u.bob ∧ t.pm = u.pm ∧ t.flash = u.flash ∧ t.pending = u.pending

/-- A chapter's effect that leaves the object written alone. -/
theorem State.Wrote.storedAlone {w : Writer} {num i : Nat} {v : Int} {u t : State} (h : Wrote w num i v u t)
    (heff : ∀ (c : State) (old new : Int), Keeps (· ≠ num) c (c.chapterEffect w num i old new [])) :
    StoredAlone num i v u t :=
  have hk := h.keeps heff
  ⟨h.stored heff (fun hne => hne rfl), hk.bob, hk.pm, hk.flash, hk.pending⟩

section
variable (dt : Nat) (w : Writer)

/-! ## Needles -/

/-- NDL_STICKY keeps every bit written 0 (R37). -/
theorem writes_ndlSticky (n : Fin 128) (v : BitVec 32) :
    Writes (.ndlStickyWrite dt w n v) dt w (ndlObj n.val 0x20) 0 v.toNat (fun u t =>
      Stored (ndlObj n.val 0x20) 0 v.toNat u t ∧ t.ndl = u.ndl ∧
        ∀ b, b < 4 → v.getLsbD b = false → t.bit (ndlObj n.val 0x20) 0 b = u.bit (ndlObj n.val 0x20) 0 b) := by
  have hacts : actsOnWrite (ndlObj n.val 0x20) = false := by revert n; decide
  have hcanon : Obj.canon (ndlObj n.val 0x20) = 0xC020 := by revert n; decide
  refine writes_imp (writes_wrote (fun _ => rfl) (ty := .u32) (by revert n; decide) (by revert n; decide) rfl
    (ne_updCmd_of_not_acts hacts) (Ty.decode_encode_u32 v)) fun u t h => ?_
  have hstored := h.stored_of_not_acts hacts
  refine ⟨hstored, (h.keepsUnits hacts).ndl, fun b _ hb => ?_⟩
  have hv : v.toNat.testBit b = false := hb
  have hclear := State.testBit_newVal_w1c (num := ndlObj n.val 0x20) (i := 0) (m := 0xF) (by rw [hcanon]; rfl)
    (by rw [hcanon]; rfl) u v.toNat b
  rw [State.bit, State.nat, hstored, hclear, Int.toNat_natCast, hv]
  simp

theorem writes_ndlTapeStatus (n : Fin 128) (v : BitVec 32) :
    Writes (.ndlTapeStatusWrite dt w n v) dt w (ndlObj n.val 1) 0 v.toNat (fun u t =>
      Stored (ndlObj n.val 1) 0 v.toNat u t ∧ t.ndl = u.ndl) := by
  refine writes_imp (writes_wrote (fun _ => rfl) (ty := .u32) (by revert n; decide) (by revert n; decide) rfl
    (by revert n; decide) (Ty.decode_encode_u32 v)) fun u t h => ?_
  have heff (c : State) (old new : Int) :
      State.Keeps (· ≠ ndlObj n.val 1) c (c.chapterEffect w (ndlObj n.val 1) 0 old new []) := by
    rw [State.chapterEffect_tapeStatus]
    exact State.showPleat_keeps (fun m => by unfold ndlObj; omega) c _
  exact ⟨(h.storedAlone heff).1, (h.keeps heff).ndl⟩

/-! ## The voltage loop -/

/-- A 1 written to FAULT of AVS_STATUS clears it (R89). -/
theorem writes_avsStatus (v : BitVec 32) :
    Writes (.avsStatusWrite dt w v) dt w Obj.avsStatus 0 v.toNat (fun u t =>
      Stored Obj.avsStatus 0 v.toNat u t ∧ (v.getLsbD 2 = true → t.avsFault = false) ∧ t.fab = u.fab ∧
        t.ndl = u.ndl) := by
  have hacts : actsOnWrite Obj.avsStatus = false := by decide
  refine writes_imp (writes_wrote (fun _ => rfl) (ty := .u32) rfl (by decide) rfl (by decide) (Ty.decode_encode_u32 v))
    fun u t h => ?_
  have hstored := h.stored_of_not_acts hacts
  have hk := h.keepsUnits hacts
  refine ⟨hstored, fun hb => ?_, hk.fab, hk.ndl⟩
  have hv : v.toNat.testBit 2 = true := hb
  have hheld : u.heldBits Obj.avsStatus = 0 := rfl
  have hclear := State.testBit_newVal_w1c (num := Obj.avsStatus) (i := 0) (m := 4) rfl rfl u v.toNat 2
  rw [State.avsFault, State.bit, State.nat, hstored, hclear, hheld, Int.toNat_natCast, hv]
  simp [show Nat.testBit 4 2 = true by decide]

theorem writes_vcoreMax (v : BitVec 16) :
    Writes (.vcoreLimitWrite dt w true v) dt w Obj.vcoreMax 0 v.toNat (fun u t =>
      t.nat Obj.vcoreMax = v.toNat ∧ t.nat Obj.vcoreNow = u.nat Obj.vcoreNow ∧ t.fab = u.fab ∧ t.ndl = u.ndl) := by
  have hacts : actsOnWrite Obj.vcoreMax = false := by decide
  refine writes_imp (writes_wrote (fun _ => rfl) (ty := .u16) rfl (by decide) rfl (by decide) (Ty.decode_encode_u16 v))
    fun u t h => ?_
  have hk := h.keepsUnits hacts
  exact ⟨congrArg Int.toNat (h.stored_of_not_acts hacts),
    congrArg Int.toNat (hk.obj Obj.vcoreNow 0 (by unfold State.besides countsOps; decide) (by decide)), hk.fab, hk.ndl⟩

/-- VCORE_NOW follows a raised VCORE_MIN when the regulator has answered, not before (R87). -/
theorem writes_vcoreMin (v : BitVec 16) :
    Writes (.vcoreLimitWrite dt w false v) dt w Obj.vcoreMin 0 v.toNat (fun u t =>
      t.nat Obj.vcoreMin = v.toNat ∧ t.nat Obj.vcoreNow = u.nat Obj.vcoreNow ∧ t.ndl = u.ndl) := by
  refine writes_imp (writes_wrote (fun _ => rfl) (ty := .u16) rfl (by decide) rfl (by decide) (Ty.decode_encode_u16 v))
    fun u t h => ?_
  have heff (c : State) (old new : Int) :
      State.Keeps (fun _ => False) c (c.chapterEffect w Obj.vcoreMin 0 old new []) := by
    rw [State.chapterEffect_vcoreMin]
    exact .ite (State.setVcore_keeps c _) (.refl c)
  have hk := h.keeps heff
  exact ⟨congrArg Int.toNat (h.stored heff id),
    congrArg Int.toNat (hk.obj Obj.vcoreNow 0 (by unfold State.besides countsOps; decide) (by decide)), hk.ndl⟩

/-! ## Ports, clocks and the venue -/

theorem writes_clkPhase (i : Fin 10) (v : BitVec 16) :
    Writes (.clkPhaseWrite dt w i v) dt w Obj.clkPhase i.val v.toInt (StoredAlone Obj.clkPhase i.val v.toInt) :=
  writes_imp (writes_wrote (fun _ => rfl) (ty := .i16) rfl (by decide) rfl (by decide) (Ty.decode_encode_i16 v))
    fun _ _ h => h.storedAlone fun c old new => by
      rw [State.chapterEffect_clkPhase]
      exact State.phaseEffect_keeps (by decide) (by omega) c old new

theorem writes_tdmCfg (p : Fin 16) (v : BitVec 32) :
    Writes (.tdmCfgWrite dt w p v) dt w Obj.tdmCfg p.val v.toNat (StoredAlone Obj.tdmCfg p.val v.toNat) :=
  writes_imp (writes_wrote (fun _ => rfl) (ty := .u32) rfl (by decide) rfl (by decide) (Ty.decode_encode_u32 v))
    fun _ _ h => h.storedAlone fun c old new => by
      rw [State.chapterEffect_tdmCfg]
      exact .ite (.refl c) (State.restartPort_keeps (by decide) (by decide) (by decide) (by decide) (by omega) c)

theorem writes_dmxTiming (p : Fin 8) (v : BitVec 32) :
    Writes (.dmxCfgWrite dt w true p v) dt w Obj.dmxTiming p.val v.toNat (StoredAlone Obj.dmxTiming p.val v.toNat) :=
  writes_imp (writes_wrote (fun _ => rfl) (ty := .u32) rfl (by decide) rfl (by decide) (Ty.decode_encode_u32 v))
    fun _ _ h => h.storedAlone fun c old new => by
      rw [State.chapterEffect_of_not_acts (by decide)]
      exact .refl c

theorem writes_dmxCfg (p : Fin 8) (v : BitVec 32) :
    Writes (.dmxCfgWrite dt w false p v) dt w Obj.dmxCfg p.val v.toNat (StoredAlone Obj.dmxCfg p.val v.toNat) :=
  writes_imp (writes_wrote (fun _ => rfl) (ty := .u32) rfl (by decide) rfl (by decide) (Ty.decode_encode_u32 v))
    fun _ _ h => h.storedAlone fun c old new => by
      rw [State.chapterEffect_dmxCfg]
      exact State.dmxEffect_keeps (by decide) (by decide) (by omega) c _ _

theorem univCfg_number : ∀ k : Fin 32, (Obj.desc? (Obj.univCfg0 + k.val)).map (fun d => (d.ty, d.wo)) = some (.u16, false) ∧
    Obj.univCfg0 + k.val < paramBase ∧ Obj.univCfg0 + k.val ≠ Obj.updCmd := by
  decide

theorem writes_univCfg (n : Fin 32768) (v : BitVec 16) :
    Writes (.univCfgWrite dt w n v) dt w (Obj.univCfg0 + n.val / 1024) (n.val % 1024) v.toNat
      (StoredAlone (Obj.univCfg0 + n.val / 1024) (n.val % 1024) v.toNat) := by
  obtain ⟨k, hk⟩ : ∃ k : Fin 32, k.val = n.val / 1024 := ⟨⟨n.val / 1024, by omega⟩, rfl⟩
  rw [← hk]
  have hother (m : Nat) (hm : Obj.univCfg0 + 32 ≤ m) : m ≠ Obj.univCfg0 + k.val := by omega
  obtain ⟨hform, hnum, hupd⟩ := univCfg_number k
  refine writes_imp (writes_wrote (fun s => by rw [hk]; rfl) hform hnum rfl hupd
    (Ty.decode_encode_u16 v)) fun u t h => h.storedAlone fun c old new => ?_
  rw [State.chapterEffect_univCfg]
  exact State.univEffect_keeps (hother _ (by decide)) (hother _ (by decide)) (hother _ (by decide)) c _ _ _

theorem writes_ptpProfile (v : BitVec 8) :
    Writes (.ptpProfileWrite dt w v) dt w Obj.ptpProfile 0 v.toNat (StoredAlone Obj.ptpProfile 0 v.toNat) :=
  writes_imp (writes_wrote (fun _ => rfl) (ty := .u8) rfl (by decide) rfl (by decide) (Ty.decode_encode_u8 v))
    fun _ _ h => h.storedAlone fun c old new => by
      rw [State.chapterEffect_ptpProfile]
      exact State.profileDefaults_keeps (by decide) (by decide) (by decide) c _

/-! ## The resource map -/

/-- A needle barred is left at a later strobe: the placed pattern and its copies stand (R138). -/
theorem writes_resourceMap (i : Fin 4) (v : BitVec 32) :
    Writes (.resourceMapWrite dt w i v) dt w Obj.resourceMap i.val v.toNat (fun u t =>
      StoredAlone Obj.resourceMap i.val v.toNat u t ∧ t.last.pat = u.last.pat ∧ t.last.copies = u.last.copies) := by
  refine writes_imp (writes_wrote (fun _ => rfl) (ty := .u32) rfl (by decide) rfl (by decide) (Ty.decode_encode_u32 v))
    fun u t h => ⟨h.storedAlone fun c old new => ?_, ?_⟩
  · rw [State.chapterEffect_resourceMap]
    exact State.resourceMapEffect_keeps (by decide) (by decide) (by decide) c _ _ _
  · obtain ⟨-, -, k, hk⟩ := h
    have hlast : ((u.countOps k).setObj Obj.resourceMap i.val ((u.countOps k).newVal Obj.resourceMap i.val v.toNat)).last =
        u.last := (State.setObj_last _ _ _ _).trans (u.countOps_keepsUnits k).last
    rw [hk.last, State.wroteElem, State.chapterEffect_resourceMap, ← hlast]
    exact State.resourceMapEffect_samePlacement _ _ _ _

end

theorem storedWrites : StoredWrites := fun dt w =>
  ⟨writes_ndlSticky dt w, writes_ndlTapeStatus dt w, writes_avsStatus dt w, writes_vcoreMax dt w, writes_vcoreMin dt w,
    writes_clkPhase dt w, writes_tdmCfg dt w, writes_dmxTiming dt w, writes_dmxCfg dt w, writes_univCfg dt w,
    writes_resourceMap dt w, writes_ptpProfile dt w⟩

/-- Settles O46: an accepted write counts, stores its element, lets its chapter act, and notes the journal (`State.Wrote`); each
clause says what those four leave. -/
theorem acceptedWrites : Obligations.AcceptedWrites := ⟨objectWriteStores, storedWrites⟩

end Sys2Proof.Machine
end

section
/-!
PROOFS. The answers of the regulator, and the shed that an emergency asks for (O26).
-/

namespace Sys2Proof.Machine

open Sys2Proof.Claim

namespace State

variable (s : State)

/-- A bit set reads 1. -/
theorem bit_setBit_true (n i b : Nat) : (s.setBit n i b true).bit n i b = true := by
  simp [bit, setBit, setBitTo, Nat.testBit_or, Nat.testBit_two_pow_self]

/-! ## An acknowledged write (R89) -/

/-- The oldest write leaves the queue, and VCORE_NOW is its value; what counts beside it counts elsewhere. -/
theorem avsAck_cons {a : AvsWrite} {l : List AvsWrite} (h : s.fab.avs = a :: l) :
    s.avsAck.fab.avs = l ∧ s.avsAck.nat Obj.vcoreNow = a.mv := by
  unfold avsAck
  rw [h]
  refine ⟨?_, nat_setNat_self _ _ _ _⟩
  rw [setNat_fab]
  split
  · rfl
  · split <;> rw [bump_fab]

/-- What waited for the raise goes on, and the voltage loop stands (R87). -/
theorem raiseDone_keepsLoop : s.raiseDone.fab.avs = s.fab.avs ∧ s.raiseDone.nat Obj.vcoreNow = s.nat Obj.vcoreNow := by
  unfold raiseDone
  split
  · exact ⟨rfl, rfl⟩
  · dsimp only
    split <;> exact ⟨rfl, rfl⟩

/-! ## A write that has failed (R87, R89) -/

variable {W : Nat → Prop}

theorem placeEnd_keeps (hstatus : W Obj.placeStatus) (hdetail : W Obj.placeDetail) (e : PlaceErr) :
    Keeps W s (s.placeEnd e) := by
  unfold placeEnd
  refine .trans ?_ ((setNat_keeps hstatus (by decide) _ _).trans (setNat_keeps hdetail (by decide) _ _))
  exact ⟨rfl, rfl, rfl, rfl, rfl, fun _ _ _ _ => rfl⟩

theorem placeEnd_fab (e : PlaceErr) : (s.placeEnd e).fab = s.fab := by
  rw [placeEnd, setNat_fab, setNat_fab]

theorem raiseFailed_keeps (hstatus : W Obj.placeStatus) (hdetail : W Obj.placeDetail) : Keeps W s s.raiseFailed := by
  unfold raiseFailed
  dsimp only
  refine .ite (.trans ?_ (placeEnd_keeps _ hstatus hdetail rateErr)) (.refl s)
  exact ⟨rfl, rfl, rfl, rfl, rfl, fun _ _ _ _ => rfl⟩

theorem raiseFailed_avs : s.raiseFailed.fab.avs = s.fab.avs := by
  unfold raiseFailed
  split
  · rw [placeEnd_fab]
  · rfl

theorem testLapse_keeps (htest : W Obj.testState) : Keeps W s s.testLapse := by
  unfold testLapse
  refine .trans ?_ (setNat_keeps htest (by decide) _ _)
  exact ⟨rfl, rfl, rfl, rfl, rfl, fun _ _ _ _ => rfl⟩

theorem testLapse_fab : s.testLapse.fab = s.fab := setNat_fab _ _ _ _

theorem avsFails_keeps (hstatus : W Obj.placeStatus) (hdetail : W Obj.placeDetail) (htest : W Obj.testState) (a : AvsWrite) :
    Keeps W (s.setBit Obj.avsStatus 0 2 true) (s.avsFails a) :=
  .trans (.ite (raiseFailed_keeps _ hstatus hdetail) (.refl _)) (.ite (testLapse_keeps _ htest) (.refl _))

/-- Beside FAULT, what the failure ends reports in a placement's status and a test's alone. -/
theorem avsFails_nat {num : Nat} (hstatus : Obj.placeStatus ≠ num) (hdetail : Obj.placeDetail ≠ num)
    (htest : Obj.testState ≠ num) (a : AvsWrite) : (s.avsFails a).nat num = (s.setBit Obj.avsStatus 0 2 true).nat num :=
  congrArg Int.toNat <|
    (avsFails_keeps s (W := (· ≠ num)) hstatus hdetail htest a).obj num 0 (fun h => h rfl) (by decide)

theorem avsFails_avs (a : AvsWrite) : (s.avsFails a).fab.avs = s.fab.avs := by
  unfold avsFails
  dsimp only
  rw [apply_ite fab, testLapse_fab, ite_self, apply_ite fab, apply_ite Fabric.avs, raiseFailed_avs, ite_self, setBit_fab]

/-- FAULT stands, and the voltage in force is the one acknowledged last (R89). -/
theorem avsFails_loop (a : AvsWrite) :
    (s.avsFails a).avsFault = true ∧ (s.avsFails a).nat Obj.vcoreNow = s.nat Obj.vcoreNow := by
  constructor
  · rw [avsFault, bit, avsFails_nat s (by decide) (by decide) (by decide)]
    exact bit_setBit_true s Obj.avsStatus 0 2
  · rw [avsFails_nat s (by decide) (by decide) (by decide)]
    exact nat_setNat_ne _ _ _ _ _ _ (by decide)

end State

/-! ## The three events of the loop -/

/-- A command that only a running part takes does what its meaning makes of the state with its cycles passed. -/
theorem does_whenRunning {c : Instr} {dt : Nat} {f : State → State} {H : State → Prop} {P : State → State → Prop}
    (hexec : ∀ s, exec c s = whenRunning dt s f) (h : ∀ u, H u → P u (f u)) : Does c dt H P := fun s hrun hH =>
  ⟨f (tick dt s), (hexec s).trans (whenRunning_running dt s f hrun), h _ hH⟩

variable (dt : Nat)

theorem does_avsAck : Does (.avsAck dt) dt (fun u => u.fab.avs ≠ []) (fun u t =>
    (u.fab.avs.head?).map (·.mv) = some (t.nat Obj.vcoreNow) ∧ t.fab.avs = u.fab.avs.tail) := by
  refine does_whenRunning (fun s => show execAvsAck dt s = whenRunning dt s _ from rfl) fun u hne => ?_
  obtain ⟨a, l, hl⟩ := List.exists_cons_of_ne_nil hne
  obtain ⟨htail, hmv⟩ := u.avsAck_cons hl
  obtain ⟨havs, hnow⟩ := u.avsAck.raiseDone_keepsLoop
  rw [if_neg (by simp [hl]), hl, havs, htail, hnow, hmv]
  exact ⟨rfl, rfl⟩

/-- The first silence sends the same write again; the second is the regulator's fault (R89). -/
theorem does_avsAckTimeout : Does (.avsAckTimeout dt) dt (fun u => u.fab.avs ≠ []) (fun u t =>
    ∀ a l, u.fab.avs = a :: l →
      if a.retry then t.avsFault = true ∧ t.fab.avs = l ∧ t.nat Obj.vcoreNow = u.nat Obj.vcoreNow
      else t.fab.avs = { a with retry := true } :: l ∧ t.out = .avsWrite (u.field Obj.strapState 0 3 2) a.mv :: u.out ∧
        t.regs = u.regs) := by
  refine does_whenRunning (fun s => show execAvsAckTimeout dt s = whenRunning dt s _ from rfl) fun u _ a l hl => ?_
  rw [hl]
  dsimp only
  cases a.retry
  case false => exact ⟨rfl, rfl, rfl⟩
  case true =>
    obtain ⟨hfault, hnow⟩ := State.avsFails_loop { u with fab := { u.fab with avs := l } } a
    exact ⟨hfault, State.avsFails_avs _ a, hnow⟩

/-- A shed that is pending and not yet due becomes due, and nothing else changes before the strobe (R90). -/
theorem does_shed : Does (.shed dt) dt (fun u => u.fab.shedPending = true ∧ ∀ l, Due.shed l ∉ u.fab.due) (fun u t =>
    t.fab.due = u.fab.due ++ [.shed u.shedPieces] ∧ t.regs = u.regs ∧ t.ndl = u.ndl ∧ t.last = u.last) := by
  refine does_whenRunning (fun s => show execShed dt s = whenRunning dt s _ from rfl) fun u ⟨hpending, hnone⟩ => ?_
  dsimp only
  rw [if_pos]
  · exact ⟨rfl, rfl, rfl, rfl⟩
  · rw [hpending, Bool.true_and, Bool.not_eq_true', List.any_eq_false]
    intro d hd
    split
    · exact absurd hd (hnone _)
    · exact Bool.false_ne_true

/-- Settles O26: an answered write is the voltage, an unanswered one is sent again and then fails, and a shed waits for its
strobe. -/
theorem regulatorAnswers : Obligations.RegulatorAnswers := fun dt =>
  ⟨does_avsAck dt, does_avsAckTimeout dt, does_shed dt⟩

end Sys2Proof.Machine
end
